-- ==== Sys2Proof/Word.lean ====
section
/-! DEFINITION. The words the eight links carry and the numbers that name the parts of the CD-616
(spec/00_scope.md, Conventions). -/

namespace Sys2Proof

/-- One character of a link: eight data bits (R182). -/
abbrev Byte := BitVec 8

/-- A two-byte number of a frame's payload, sent high byte first (R180). -/
abbrev Half := BitVec 16

/-- A loader's unit number, a 32-bit value; 0 names no loader (Conventions; R130). -/
abbrev UnitNumber := BitVec 32

/-- The chairs C0 to C5 (Conventions). -/
abbrev ChairId := Fin 6

/-- The loader slots L0 to L15 (Conventions). -/
abbrev Slot := Fin 16

/-- The zones Z0 to Z7 (Conventions). -/
abbrev ZoneId := Fin 8

/-- A request's tag, a number from 0 to 15 (R165). -/
abbrev Tag := Fin 16

/-- A set of chairs, bit n for chair Cn, as the links carry it (R186). -/
abbrev ChairSet := BitVec 6

end Sys2Proof
end

