-- ==== Sys2Proof/Syntax.lean ====
section
/-! DEFINITION. The commands of the CD-616: one constructor of `Instr` for each row of
spec/opcode_table.json, with the operands the spec gives the step.
A command is one event of the manual (spec/00_scope.md, Events): a frame taken whole at a port, the
expiry of one timer, the start of a frame's transmission, a change of an input line, or power-on. -/

namespace Sys2Proof

/-- The seven console ports: chair ports C0 to C5 and the service port (spec/00_scope.md). -/
inductive Port where
  | chair (c : ChairId)
  | service
  deriving DecidableEq, Repr

/-- Who sends a request and with which tag (R164, R165). -/
structure Sender where
  port : Port
  tag  : Tag
  deriving DecidableEq, Repr

/-- The content of an AXIS frame: four axes in counts and five discrete inputs (R84, R186).
GEAR is as received: 0 N, 1 F, 2 R, 3 invalid (R85). -/
structure AxisFrame where
  steer    : Int
  travel   : Int
  boom     : Int
  bucket   : Int
  enable   : Bool
  brakeReq : Bool
  horn     : Bool
  lights   : Bool
  gear     : BitVec 2
  deriving DecidableEq, Repr

/-- The check that makes a received frame on a chair or service link bad (R184). -/
inductive BadFrame where
  | framing | crc | length | kind | content
  deriving DecidableEq, Repr

/-- The sense of a gate record (R29). -/
inductive Sense where
  | matching | differ
  deriving DecidableEq, Repr

/-- A gate record as a request carries it: its phase byte may name no loader phase (R168, R186). -/
structure GateIn where
  phase : Option Byte
  mask  : Byte
  value : Byte
  sense : Sense
  wait  : Bool
  deriving DecidableEq, Repr

/-- The state field of a zone record (R115). -/
inductive ZoneState where
  | opened | closed
  deriving DecidableEq, Repr, Inhabited

/-- The value a POLICY_SET carries: its short form a number, its long form a gate record (R173, R185). -/
inductive PolicyValue where
  | number (v : Half)
  | gate (g : GateIn)
  deriving DecidableEq, Repr

/-- The reason of a call (R57). -/
inductive CallReason where
  | faultAssist | hangup | muck
  deriving DecidableEq, Repr

/-- The four characters of a loader's name (R137). -/
structure LoaderName where
  c0 : Byte
  c1 : Byte
  c2 : Byte
  c3 : Byte
  deriving DecidableEq, Repr

/-- A descriptor as an ENTRY answer carries it: its function, direction, size and kind bytes may name
nothing, which validation judges (R139, R140, R186). The raw range is three signed two-byte numbers. -/
structure Descriptor where
  function   : Byte
  direction  : Byte
  size       : Byte
  kind       : Byte
  rawMin     : Half
  rawNeutral : Half
  rawMax     : Half
  deriving DecidableEq, Repr

/-- Why a fleet frame is dropped (R154, R184). A CALL frame whose reason names nothing is dropped as
one of an unknown unit when its unit is unbound and as a format error otherwise, so it keeps its unit. -/
inductive BadFleetFrame where
  | framing | crc | format
  | unknownUnit
  | callReason (unit : UnitNumber)
  deriving DecidableEq, Repr

/-- The commands, one constructor for each row of spec/opcode_table.json, in the table's order. Slot,
chair, zone and field numbers of requests are bytes as carried, since a number out of range is answered
FIELD_ERROR (R164). -/
inductive Instr where
  | powerOn
  | axis (chair : ChairId) (frame : AxisFrame)
  | idle (port : Port)
  | badFrame (port : Port) (why : BadFrame)
  | take (sender : Sender) (slot : Byte) (gate : Option GateIn)
  | pass (sender : Sender) (slot target : Byte) (gate : Option GateIn)
  | returnLoader (sender : Sender) (slot : Byte) (gate : Option GateIn)
  | resume (sender : Sender) (slot : Byte) (gate : Option GateIn)
  | accept (sender : Sender) (slot : Byte)
  | decline (sender : Sender) (slot : Byte)
  | ready (sender : Sender)
  | unready (sender : Sender)
  | park (sender : Sender) (slot : Byte)
  | cancel (sender : Sender)
  | query (sender : Sender) (target number field index : Byte)
  | ack (sender : Sender) (flags : Half) (clearCount : Bool)
  | zoneSet (sender : Sender) (zone : Byte) (state : ZoneState) (cap backoff : Half) (allowed : ChairSet)
  | policySet (sender : Sender) (field : Byte) (value : PolicyValue)
  | forceFree (sender : Sender) (slot : Byte)
  | loaderRestart (sender : Sender) (slot : Byte)
  | resetAll (sender : Sender)
  | resetKeep (sender : Sender)
  | settleExpiry (chair : ChairId)
  | graceExpiry (chair : ChairId)
  | stalenessExpiry (chair : ChairId)
  | silenceExpiry (port : Port)
  | offerDeadlineExpiry (slot : Slot)
  | gateDeadlineExpiry (slot : Slot)
  | cycleExpiry (slot : Slot)
  | forgetExpiry (slot : Slot)
  | answerTimerExpiry (slot : Slot)
  | hello (unit : UnitNumber)
  | idAnswer (unit : UnitNumber) (name : LoaderName) (period watchdog : Half)
  | entryAnswer (unit : UnitNumber) (index : Byte) (descriptor : Option Descriptor)
  | call (unit : UnitNumber) (reason : CallReason)
  | callClear (unit : UnitNumber)
  | telemetry (unit : UnitNumber) (payload : List Byte)
  | badFleetFrame (why : BadFleetFrame)
  | gatewayReadyChange (asserted : Bool)
  | fleetFrameDepart
  | portFrameDepart (port : Port)
  deriving DecidableEq, Repr

end Sys2Proof
end

