-- ==== Sys2Proof/Config.lean ====
section
/-! DEFINITION. What the CD-616 fixes for every part (times, rates, sizes), and the values the spec leaves
open, which are constants without a body: nothing can be proved of them but what holds of every value. -/

namespace Sys2Proof.Config

/-- The silence timer of a chair or service port, in ms (R87, R91). -/
def silenceMs : Nat := 1000

/-- The answer timer of a departed discovery read, in ms (R136). -/
def answerMs : Nat := 250

/-- The cycle period of a slot before its ID answer, in ms (R135, R150). -/
def discoveryPeriodMs : Nat := 50

/-- The bounds a loader's declared cycle period is clamped to, in ms (R137). -/
def minPeriodMs : Nat := 20
def maxPeriodMs : Nat := 200

/-- The rates of the links, in bit/s (R182). -/
def consoleBitRate : Nat := 230400
def fleetBitRate : Nat := 4000000

/-- The most answers and notices a transmit queue holds (R189). -/
def txCapacity : Nat := 15

/-- The bad-frame run at which a link goes OFFLINE (R88). -/
def badRunLimit : Nat := 4

/-- The bytes of the layouts of R186 some of whose bits no rule names. -/
inductive SpareSite where
  | statusIndicators | axisDiscretes | gateControl | queueItem | zoneItem | tripFaults
  deriving DecidableEq, Repr

/-- FREE VALUE: what the part sends in the bits of these bytes that no rule names (DESIGN CHOICE, log entry 13). -/
opaque spareBits : SpareSite → Byte

/-- FREE VALUE: how a ZONE_SET whose state byte is neither 0 nor 1 is read (DESIGN CHOICE, log entry 14). -/
opaque zoneStateOfByte : Byte → ZoneState

end Sys2Proof.Config
end

