-- ==== Sys2Proof/Machine/State.lean ====
section
/-! DEFINITION. The state of the CD-616: every register, timer, counter, queue and record the spec gives its
ten blocks, as plain data, and the value of each after power-on.
A timer is `none` while stopped and `some n` while running with the length n it was started with, which is
what the spec records of it (R74, R149); its expiry is a command (DESIGN CHOICE, log entry 2). -/

namespace Sys2Proof.Machine

/-- Why the machine stops. No command of the CD-616 stops it, since the spec gives each event an effect in every
state, so the type has no constructor: safe, because no run ends in a fault. -/
inductive Fault where
  deriving DecidableEq, Repr

/-- Why a command has no meaning in the model. -/
inductive Refusal where
  /-- Raised by an arm of `exec` whose row has no meaning yet, with the row's mnemonic; safe, because nothing
  follows it. No arm raises it. -/
  | notModelled (mnemonic : String)
  deriving DecidableEq, Repr

/-! ### Authority entries (chapter 1) and handover records (chapter 2) -/

/-- The nine states of an authority entry, in the order of R2 (R1, R2). -/
inductive EntryState where
  | empty | discovering | refused | free | auto | held | locked | linkLost | tripped
  deriving DecidableEq, Repr

/-- A party that can have authority over a loader: a chair, or the loader's own autonomy (R1). "None" is the
absence of a party. -/
inductive Party where
  | chair (c : ChairId)
  | auto
  deriving DecidableEq, Repr

/-- The five kinds of handover, in the order of R186 (R27). -/
inductive HandoverKind where
  | take | claim | pass | returned | resume
  deriving DecidableEq, Repr

/-- The phase of a handover record (R28). -/
inductive HandoverPhase where
  | offering | gating
  deriving DecidableEq, Repr

/-- A gate record as stored (R29): `value` holds no flag outside `mask`. Flags are bits in the order of R139. -/
structure Gate where
  phase : Option (Fin 8)
  mask  : Byte
  value : Byte
  sense : Sense
  wait  : Bool
  deriving DecidableEq, Repr

/-- The combined gate of a handover: the policy gate of its kind and the request's own, if any (R30). -/
structure CombinedGate where
  policy  : Gate
  request : Option Gate
  deriving DecidableEq, Repr

/-- A handover record (R28). `deadline` is the length in seconds its one timer was started with; the timer runs
for as long as the record exists. The attached call is the loader's own (R63). -/
structure Handover where
  kind         : HandoverKind
  source       : Option Party
  target       : Party
  phase        : HandoverPhase
  gate         : CombinedGate
  deadline     : Nat
  requester    : Option ChairId
  callAttached : Bool
  deriving DecidableEq, Repr

/-- Four axis values in counts (R1, Conventions). -/
structure Axes where
  steer  : Int
  travel : Int
  boom   : Int
  bucket : Int
  deriving DecidableEq, Repr

/-- The part's copy of a loader's last report (R5, R155). `aux` lists aux1 and aux2 as far as declared. -/
structure LoaderStatus where
  phase  : Fin 8
  flags  : Byte
  speed  : Nat
  zone   : ZoneId
  faults : Half
  aux    : List Int
  deriving DecidableEq, Repr

/-- The purpose of a ramp record, in the order of R186 (R1, R7). -/
inductive RampPurpose where
  | engage | pass | rundown
  deriving DecidableEq, Repr

/-- A ramp record: its start values S, its length K and its progress k (R1, R7). -/
structure Ramp where
  purpose  : RampPurpose
  start    : Axes
  length   : Nat
  progress : Nat
  deriving DecidableEq, Repr

/-- An authority entry (R1). -/
structure Entry where
  state    : EntryState
  holder   : Option Party
  handover : Option Handover
  stack    : List Party
  status   : Option LoaderStatus
  applied  : Axes
  lights   : Bool
  ramp     : Option Ramp
  zoneDrop : Bool
  deriving DecidableEq, Repr

/-! ### Answers, notices and STATUS frames (chapters 9 and 10) -/

/-- The kinds of request, in the order of their codes (R164, R186). -/
inductive RequestKind where
  | take | pass | returnLoader | resume | accept | decline | ready | unready | park | cancel | query | ack
  | zoneSet | policySet | forceFree | loaderRestart | resetAll | resetKeep
  deriving DecidableEq, Repr

/-- The answer, cause, LOST and refusal codes, in the order of their numbers (R186). -/
inductive Code where
  | done | busy | fieldError | cancelled | nothingPending | notHolder | handoverPending | notAvailable
  | zoneClosed | notPermitted | busyChair | targetBusy | targetAbsent | targetUnavailable | self | noPrevious
  | notPresent | noOffer | declined | offerTimeout | gateFailed | gateTimeout | sourceLost | targetOffline
  | linkLost | tripped | loaderRestart | forced | callCleared | absent | link | zoneExit | noAnswer
  | descriptorOversize | descriptorInvalid | descriptorIncomplete
  deriving DecidableEq, Repr

/-- The six states of a chair, in the order of R74. -/
inductive ChairState where
  | offline | idle | ready | offered | engaging | driving
  deriving DecidableEq, Repr

/-- The four presence states, in the order of R74. -/
inductive Presence where
  | present | settling | released | absent
  deriving DecidableEq, Repr

/-- GEAR as held in a sample: an invalid value is held as N (R85). -/
inductive Gear where
  | n | f | r
  deriving DecidableEq, Repr

/-- The held axis sample of a chair (R84). -/
structure Sample where
  axes     : Axes
  enable   : Bool
  brakeReq : Bool
  horn     : Bool
  lights   : Bool
  gear     : Gear
  deriving DecidableEq, Repr

/-- The stages of discovery, in the order of R134. -/
inductive Stage where
  | readingId | readingEntries | awaitingTelemetry
  deriving DecidableEq, Repr

/-- A discovery read (R134). -/
inductive Read where
  | readId
  | readEntry (index : Byte)
  deriving DecidableEq, Repr

/-- Why, at which stage and at which read a discovery was refused (R134, R143). -/
structure DiscoveryRefusal where
  cause : Code
  stage : Stage
  read  : Option Read
  deriving DecidableEq, Repr

/-- The modes of a COMMAND frame, in the order of R186 (R94, R95). -/
inductive Mode where
  | stop | restart | hold | auto | drive
  deriving DecidableEq, Repr

/-- The two gains of an analog OUT channel (R108). -/
structure Gain where
  pos : Nat
  neg : Nat
  deriving DecidableEq, Repr

/-- A zone record (R115). -/
structure Zone where
  state   : ZoneState
  cap     : Nat
  backoff : Nat
  allowed : ChairSet
  deriving DecidableEq, Repr

/-- A call (R57). Its class is fixed by its reason. -/
structure Call where
  slot     : Slot
  reason   : CallReason
  reserved : Bool
  declined : ChairSet
  unserved : Nat
  deriving DecidableEq, Repr

/-- The numeric fields of the policy table, in the order of R172. -/
inductive NumField where
  | offerTimeout | gateTimeout | passRamp | engageRamp | rundownRamp | neutralWindow | axisStale
  | presenceGrace | pressSettle | missLimit | forgetTime
  deriving DecidableEq, Repr

/-- The fields of the policy table: the numeric ones, the five gates, and WRITE_COUNT (R172). -/
inductive PolicyField where
  | number (f : NumField)
  | gate (k : HandoverKind)
  | writeCount
  deriving DecidableEq, Repr

/-- A value of a policy field (R172). -/
inductive FieldValue where
  | number (v : Nat)
  | gate (g : Gate)
  deriving DecidableEq, Repr

/-- What an OFFER notice says last: the call's reason for CLAIM, the offering chair for PASS and RETURN (R186). -/
inductive OfferOrigin where
  | call (reason : CallReason)
  | chair (c : ChairId)
  deriving DecidableEq, Repr

/-- One item of a zone's answer (R129). -/
structure ZoneItem where
  slot     : Slot
  state    : EntryState
  holder   : Option Party
  zoneDrop : Bool
  deriving DecidableEq, Repr

/-- The relation of a chair to a loader, as its LOADER field reads (R92). -/
inductive ChairLoader where
  | none
  | driving (slot : Slot) (halted : Bool)
  | target (slot : Slot) (kind : HandoverKind) (phase : HandoverPhase)
  deriving DecidableEq, Repr

/-- The content an answer carries after its code (R165, R186). -/
inductive Content where
  | nothing
  | slot (carried : Byte)
  | zoneStored (zone : ZoneId) (record : Zone)
  | policyStored (field : PolicyField) (value : FieldValue) (writeCount : Nat)
  | acknowledged (flags : Half) (errors : Nat)
  | entryState (state : EntryState) (halted zoneDrop : Bool)
  | holder (party : Option Party)
  | handover (record : Option Handover)
  | stack (parties : List Party)
  | status (status : Option LoaderStatus)
  | applied (axes : Axes) (lights : Bool) (ramp : Option Ramp)
  | callOf (ignored : Nat) (call : Option (Nat × Call))
  | unit (unit : Option UnitNumber) (used : Bool) (stage : Option Stage) (read : Option Read)
      (refusal : Option DiscoveryRefusal)
  | name (content : Option (LoaderName × Nat × Nat))
  | descriptor (content : Option (Descriptor × Option Gain))
  | chairState (state : ChairState) (latch : Bool)
  | presence (presence : Presence) (graceRunning : Bool) (sample : Sample)
  | loader (relation : ChairLoader)
  | flags (flags : Half)
  | errorCount (errors : Nat)
  | queue (pointer : ChairId) (calls : List Call)
  | zone (record : Zone) (items : List ZoneItem)
  | policy (field : PolicyField) (value : FieldValue)
  deriving DecidableEq, Repr

/-- An answer (R165). -/
structure Answer where
  kind    : RequestKind
  tag     : Tag
  code    : Code
  content : Content
  deriving DecidableEq, Repr

/-- The notices, with their contents (R186). -/
inductive Notice where
  | offer (slot : Slot) (unit : UnitNumber) (zone : ZoneId) (phase : Fin 8) (kind : HandoverKind) (origin : OfferOrigin)
  | offerWithdrawn (slot : Slot) (cause : Code)
  | abandoned (slot : Slot) (cause : Code)
  | holding (slot : Slot) (kind : HandoverKind) (source : Option Party)
  | lost (slot : Slot) (cause : Code)
  | zone (slot : Slot) (zone : ZoneId) (nowSet : Bool)
  | unserved (slot : Slot) (reason : CallReason) (zone : ZoneId) (count : Nat)
  | tripped (slot : Slot) (unit : UnitNumber) (watchdogTrip estop : Bool) (left : EntryState) (holder : Option Party)
  | linkLost (slot : Slot) (unit : UnitNumber) (left : EntryState) (holder : Option Party)
  | refused (slot : Slot) (unit : UnitNumber) (refusal : DiscoveryRefusal)
  | rebound (slot : Slot) (earlier new : UnitNumber)
  | slotsFull (unit : UnitNumber)
  | zoneDrop (slot : Slot) (released : ChairId) (zone : ZoneId)
  deriving DecidableEq, Repr

/-- A STATUS frame (R113). -/
structure StatusFrame where
  slot       : Slot
  status     : LoaderStatus
  applied    : Axes
  capped     : Bool
  rampActive : Bool
  deriving DecidableEq, Repr

/-- A frame of a chair or service transmit queue (R189). -/
inductive PortFrame where
  | answer (a : Answer)
  | notice (n : Notice)
  | status (f : StatusFrame)
  deriving DecidableEq, Repr

/-! ### Ports and chairs (chapters 4, 9 and 10) -/

/-- The request that occupies a port's request slot: its kind, its tag and the loader slot it names (R163). -/
structure Outstanding where
  kind : RequestKind
  tag  : Tag
  slot : Slot
  deriving DecidableEq, Repr

/-- What every chair port and the service port hold: the silence timer and bad-frame run (R87, R88, R91), the
request slot (R163), the sticky flags and error count (R187, R188), the transmit queue (R189), and `sending`, the bytes
of the frame whose transmission has last begun (R190; DEDUCED, log entry 4). -/
structure PortRegs where
  silence     : Option Nat
  badRun      : Nat
  outstanding : Option Outstanding
  flags       : Half
  errors      : Nat
  queue       : List PortFrame
  sending     : List Byte
  deriving DecidableEq, Repr

/-- A chair record (R74). -/
structure Chair where
  state     : ChairState
  latch     : Bool
  presence  : Presence
  settle    : Option Nat
  grace     : Option Nat
  staleness : Option Nat
  sample    : Sample
  port      : PortRegs
  deriving DecidableEq, Repr

/-- The service port (R91, R178). -/
structure Service where
  online : Bool
  port   : PortRegs
  deriving DecidableEq, Repr

/-! ### Policy (chapter 9), admission (chapter 7) and fleet port (chapter 8) -/

/-- The policy table (R172). Times are in the unit R172 gives the field. -/
structure Policy where
  offerTimeout  : Nat
  gateTimeout   : Nat
  passRamp      : Nat
  engageRamp    : Nat
  rundownRamp   : Nat
  neutralWindow : Nat
  axisStale     : Nat
  presenceGrace : Nat
  pressSettle   : Nat
  missLimit     : Nat
  forgetTime    : Nat
  gateTake      : Gate
  gateClaim     : Gate
  gatePass      : Gate
  gateReturn    : Gate
  gateResume    : Gate
  writeCount    : Nat
  deriving DecidableEq, Repr

/-- One item of the binding map (R130). -/
structure Binding where
  unit : Option UnitNumber
  used : Bool
  deriving DecidableEq, Repr

/-- The gains of the four analog OUT channels and the payload lengths, fixed at validation (R141). -/
structure Admitted where
  steer    : Gain
  travel   : Gain
  boom     : Gain
  bucket   : Gain
  outBytes : Nat
  inBytes  : Nat
  deriving DecidableEq, Repr

/-- The discovery context of a slot (R134). -/
structure Context where
  stage       : Option Stage
  read        : Option Read
  answerTimer : Option Nat
  name        : Option LoaderName
  period      : Option Nat
  watchdog    : Option Nat
  descriptors : List Descriptor
  admitted    : Option Admitted
  refusal     : Option DiscoveryRefusal
  deriving DecidableEq, Repr

/-- The fleet port's items for one slot (R149). -/
structure FleetSlot where
  cycle  : Option Nat
  heard  : Bool
  misses : Nat
  forget : Option Nat
  deriving DecidableEq, Repr

/-- A frame of the fleet transmit queue: a COMMAND frame with its mode and packed channel payload, or a discovery
read (R152). -/
inductive FleetFrame where
  | command (slot : Slot) (unit : UnitNumber) (mode : Mode) (payload : List Byte)
  | read (slot : Slot) (unit : UnitNumber) (read : Read)
  deriving DecidableEq, Repr

/-! ### The whole part -/

/-- The state of the part.
`pending` is the model's queue of the commands that wait, oldest first. `dispatchDue` is the model's own: it is
set inside an event by the items of R65 and is clear between events (DESIGN CHOICE, log entry 18). Everything else is the spec's. -/
structure State where
  entries      : Vector Entry 16
  chairs       : Vector Chair 6
  service      : Service
  calls        : List Call
  pointer      : ChairId
  ignored      : Vector Nat 16
  zones        : Vector Zone 8
  policy       : Policy
  bindings     : Vector Binding 16
  contexts     : Vector Context 16
  fleet        : Vector FleetSlot 16
  fleetQueue   : List FleetFrame
  gatewayReady : Bool
  fleetSending : List Byte
  dispatchDue  : Bool
  pending      : List Instr
  deriving DecidableEq, Repr

/-! ### Power-on values -/

/-- All axes at 0 counts (neutral). -/
def Axes.neutral : Axes := ⟨0, 0, 0, 0⟩

/-- An entry in state `st` with every other field at its value of R25. -/
def Entry.blank (st : EntryState) : Entry :=
  { state := st, holder := none, handover := none, stack := [], status := none, applied := Axes.neutral,
    lights := false, ramp := none, zoneDrop := false }

/-- The neutral held sample (R84, R93). -/
def Sample.neutral : Sample :=
  { axes := Axes.neutral, enable := false, brakeReq := false, horn := false, lights := false, gear := .n }

/-- A port's registers at power-on (R93, R178). -/
def PortRegs.reset : PortRegs :=
  { silence := none, badRun := 0, outstanding := none, flags := 0#16, errors := 0, queue := [], sending := [] }

/-- A chair record at power-on (R93). -/
def Chair.reset : Chair :=
  { state := .offline, latch := false, presence := .absent, settle := none, grace := none, staleness := none,
    sample := Sample.neutral, port := PortRegs.reset }

/-- The service port at power-on (R178). -/
def Service.reset : Service := { online := false, port := PortRegs.reset }

/-- A zone record at power-on (R116). -/
def Zone.reset : Zone := { state := .closed, cap := 1024, backoff := 0, allowed := 0x3F#6 }

/-- The default gate of TAKE, CLAIM and RESUME: STATIONARY (flag bit 0) reported, wait yes (R172). -/
def Gate.stationary : Gate := { phase := none, mask := 1#8, value := 1#8, sense := .matching, wait := true }

/-- The default gate of PASS and RETURN: empty mask, wait yes (R172). -/
def Gate.always : Gate := { phase := none, mask := 0#8, value := 0#8, sense := .matching, wait := true }

/-- The policy table's defaults (R172). -/
def Policy.defaults : Policy :=
  { offerTimeout := 8, gateTimeout := 10, passRamp := 8, engageRamp := 12, rundownRamp := 6, neutralWindow := 128,
    axisStale := 200, presenceGrace := 600, pressSettle := 100, missLimit := 5, forgetTime := 60,
    gateTake := Gate.stationary, gateClaim := Gate.stationary, gatePass := Gate.always, gateReturn := Gate.always,
    gateResume := Gate.stationary, writeCount := 0 }

/-- An item of the binding map at power-on (R147). -/
def Binding.reset : Binding := { unit := none, used := false }

/-- A cleared discovery context (R147). -/
def Context.cleared : Context :=
  { stage := none, read := none, answerTimer := none, name := none, period := none, watchdog := none,
    descriptors := [], admitted := none, refusal := none }

/-- The fleet port's items of a slot at power-on (R162). -/
def FleetSlot.reset : FleetSlot := { cycle := none, heard := false, misses := 0, forget := none }

/-- The part right after power-on (R25, R56, R72, R93, R114, R116, R147, R162, R172, R178).
GATEWAY_READY is an input of which R162 gives no value: DESIGN CHOICE, deasserted (log entry 3; unsafe). -/
def State.reset : State :=
  { entries := Vector.replicate 16 (Entry.blank .empty), chairs := Vector.replicate 6 Chair.reset,
    service := Service.reset, calls := [], pointer := 0, ignored := Vector.replicate 16 0,
    zones := Vector.replicate 8 Zone.reset, policy := Policy.defaults,
    bindings := Vector.replicate 16 Binding.reset, contexts := Vector.replicate 16 Context.cleared,
    fleet := Vector.replicate 16 FleetSlot.reset, fleetQueue := [], gatewayReady := false, fleetSending := [],
    dispatchDue := false, pending := [] }

end Sys2Proof.Machine
end

