-- ==== Sys2Proof/Machine/Flags.lean ====
section
/-! DEFINITION. The sticky flags and error counts of the ports (R187, R188), and the flags a loader reports (R139). -/

namespace Sys2Proof.Machine

/-- The sticky flags, in the order of their bits in a flag set (R187). -/
inductive Sticky where
  | crc | format | field | txOverflow | gearInvalid | stale | fleetCrc | fleetFormat | unknownUnit | zoneRange
  deriving DecidableEq, Repr

/-- The flag set that holds one flag (R187). -/
def Sticky.mask : Sticky → Half
  | .crc => 0x001#16
  | .format => 0x002#16
  | .field => 0x004#16
  | .txOverflow => 0x008#16
  | .gearInvalid => 0x010#16
  | .stale => 0x020#16
  | .fleetCrc => 0x040#16
  | .fleetFormat => 0x080#16
  | .unknownUnit => 0x100#16
  | .zoneRange => 0x200#16

/-- Whether an event that sets the flag counts in the error count: the fleet flags and ZONE_RANGE do not (R188). -/
def Sticky.counts : Sticky → Bool
  | .crc | .format | .field | .txOverflow | .gearInvalid | .stale => true
  | .fleetCrc | .fleetFormat | .unknownUnit | .zoneRange => false

/-- Whether a flag set holds a flag. -/
def hasSticky (flags : Half) (f : Sticky) : Bool := flags &&& f.mask != 0#16

/-- One event that sets a flag of a port: the flag is set and, for a counting flag, the error count is incremented,
saturating at 255 (R187, R188). -/
def PortRegs.raise (f : Sticky) (p : PortRegs) : PortRegs :=
  { p with
    flags := p.flags ||| f.mask
    errors := if f.counts then min 255 (p.errors + 1) else p.errors }

/-- The flag that a bad frame on a chair or service link sets (R184). -/
def badFrameFlag : BadFrame → Sticky
  | .crc => .crc
  | .framing | .length | .kind | .content => .format

/-- The loader flags of which a rule makes use by name; the set is one byte in the order of R139. -/
def stationaryFlag : Byte := 0x01#8

/-- Whether the loader reports STATIONARY (R21, R139). -/
def LoaderStatus.stationary (ls : LoaderStatus) : Bool := ls.flags &&& stationaryFlag != 0#8

/-- The fault bits the part acts on: bit 0 WATCHDOG_TRIP and bit 1 ESTOP (R139, R155). -/
def LoaderStatus.watchdogTrip (ls : LoaderStatus) : Bool := ls.faults &&& 1#16 != 0#16
def LoaderStatus.estop (ls : LoaderStatus) : Bool := ls.faults &&& 2#16 != 0#16

/-- Whether the loader reports a trip (R160). -/
def LoaderStatus.trips (ls : LoaderStatus) : Bool := ls.watchdogTrip || ls.estop

end Sys2Proof.Machine
end

