-- ==== Sys2Proof/Machine/Ops.lean ====
section
/-! DEFINITION. The named operations over the part's registers: reading and writing the records, the request slot,
answers and notices, and the transmit queues. -/

namespace Sys2Proof.Machine

/-! ### Records by number -/

def State.entry (s : State) (i : Slot) : Entry := s.entries.get i
def State.setEntry (s : State) (i : Slot) (e : Entry) : State := { s with entries := s.entries.set i e }
def State.modEntry (s : State) (i : Slot) (f : Entry → Entry) : State := s.setEntry i (f (s.entry i))

def State.chair (s : State) (c : ChairId) : Chair := s.chairs.get c
def State.setChair (s : State) (c : ChairId) (r : Chair) : State := { s with chairs := s.chairs.set c r }
def State.modChair (s : State) (c : ChairId) (f : Chair → Chair) : State := s.setChair c (f (s.chair c))

def State.zone (s : State) (z : ZoneId) : Zone := s.zones.get z
def State.setZone (s : State) (z : ZoneId) (r : Zone) : State := { s with zones := s.zones.set z r }

def State.binding (s : State) (i : Slot) : Binding := s.bindings.get i
def State.setBinding (s : State) (i : Slot) (b : Binding) : State := { s with bindings := s.bindings.set i b }

def State.context (s : State) (i : Slot) : Context := s.contexts.get i
def State.setContext (s : State) (i : Slot) (x : Context) : State := { s with contexts := s.contexts.set i x }
def State.modContext (s : State) (i : Slot) (f : Context → Context) : State := s.setContext i (f (s.context i))

def State.fleetSlot (s : State) (i : Slot) : FleetSlot := s.fleet.get i
def State.setFleetSlot (s : State) (i : Slot) (x : FleetSlot) : State := { s with fleet := s.fleet.set i x }
def State.modFleetSlot (s : State) (i : Slot) (f : FleetSlot → FleetSlot) : State :=
  s.setFleetSlot i (f (s.fleetSlot i))

def State.ignoredCalls (s : State) (i : Slot) : Nat := s.ignored.get i
def State.setIgnored (s : State) (i : Slot) (n : Nat) : State := { s with ignored := s.ignored.set i n }

/-- The sixteen slots in slot order. -/
def allSlots : List Slot := List.finRange 16

/-- The six chairs in chair order. -/
def allChairs : List ChairId := List.finRange 6

/-- The unit number of a slot's frames and notices, 0 for an unbound slot (R94, R130). -/
def State.unitOf (s : State) (i : Slot) : UnitNumber := (s.binding i).unit.getD 0#32

/-- The slot a unit number is bound to (R130, R154). -/
def State.slotOfUnit (s : State) (u : UnitNumber) : Option Slot :=
  allSlots.find? fun i => (s.binding i).unit == some u

/-! ### Who holds what -/

/-- Whether chair `c` is the holder of the HELD entry `e`. -/
def Entry.heldBy (e : Entry) (c : ChairId) : Bool := e.state == .held && e.holder == some (.chair c)

/-- The slot of the HELD entry whose holder is chair `c` (R3, R75). -/
def State.heldSlot (s : State) (c : ChairId) : Option Slot := allSlots.find? fun i => (s.entry i).heldBy c

/-- Whether the entry's handover record targets chair `c`. -/
def Entry.targets (e : Entry) (c : ChairId) : Bool :=
  match e.handover with
  | some h => h.target == .chair c
  | none => false

/-- The slot whose handover record targets chair `c` (R37). -/
def State.targetSlot (s : State) (c : ChairId) : Option Slot := allSlots.find? fun i => (s.entry i).targets c

/-- Whether chair `c` is PRESENT (R78 to R82). -/
def State.isPresent (s : State) (c : ChairId) : Bool := (s.chair c).presence == .present

/-- Whether a handover may take chair `c` as its target: the chair is IDLE or READY (R32 to R34). -/
def State.available (s : State) (c : ChairId) : Bool :=
  (s.chair c).state == .idle || (s.chair c).state == .ready

/-- The derived condition halted: HELD with a holder that is not PRESENT (R8). -/
def State.halted (s : State) (i : Slot) : Bool :=
  match (s.entry i).state, (s.entry i).holder with
  | .held, some (.chair c) => !s.isPresent c
  | _, _ => false

/-- The loader's zone: the zone of its loader status, none while the status is absent (R5, R115). -/
def Entry.zone? (e : Entry) : Option ZoneId := e.status.map (·.zone)

/-- Whether a set of chairs holds chair `c`. -/
def hasChair (cs : ChairSet) (c : ChairId) : Bool := cs.getLsbD c.val

/-- A set of chairs with chair `c` added; a chair already there is not added again (R69). -/
def addChair (cs : ChairSet) (c : ChairId) : ChairSet := cs ||| (1#6 <<< c.val)

/-- Whether chair `c` is in the allowed set of the loader's zone (R32, R66). An entry in no zone allows no chair. -/
def State.allowedAt (s : State) (i : Slot) (c : ChairId) : Bool :=
  match (s.entry i).zone? with
  | some z => hasChair (s.zone z).allowed c
  | none => false

/-! ### Ports -/

def State.port (s : State) : Port → PortRegs
  | .chair c => (s.chair c).port
  | .service => s.service.port

def State.setPort (s : State) (p : Port) (r : PortRegs) : State :=
  match p with
  | .chair c => s.modChair c fun x => { x with port := r }
  | .service => { s with service := { s.service with port := r } }

def State.modPort (s : State) (p : Port) (f : PortRegs → PortRegs) : State := s.setPort p (f (s.port p))

/-- Whether a port's link is up: a chair is not OFFLINE, the service port is online (R75, R91). -/
def State.online (s : State) : Port → Bool
  | .chair c => (s.chair c).state != .offline
  | .service => s.service.online

/-- One event that sets a sticky flag of a port (R187, R188). -/
def State.raise (s : State) (p : Port) (f : Sticky) : State := s.modPort p (·.raise f)

/-! ### Transmit queues (R189) -/

def PortFrame.isStatus : PortFrame → Bool
  | .status _ => true
  | _ => false

/-- The answers and notices waiting. -/
def waitingAnswers (q : List PortFrame) : Nat := q.countP fun f => !f.isStatus

/-- A STATUS frame joins the tail, or takes the place of the one waiting (R189). -/
def placeStatus (f : StatusFrame) : List PortFrame → List PortFrame
  | [] => [.status f]
  | .status _ :: q => .status f :: q
  | g :: q => g :: placeStatus f q

/-- Placement of a frame in the queue of an online port (R189). -/
def PortRegs.enqueue (f : PortFrame) (p : PortRegs) : PortRegs :=
  match f with
  | .status st => { p with queue := placeStatus st p.queue }
  | _ =>
    if waitingAnswers p.queue < Config.txCapacity then { p with queue := p.queue ++ [f] }
    else p.raise .txOverflow

/-- A frame addressed to a port: placed as R189 gives, discarded when the port is OFFLINE (R89, R91). -/
def State.send (s : State) (p : Port) (f : PortFrame) : State :=
  if s.online p then s.modPort p (·.enqueue f) else s

def State.notify (s : State) (p : Port) (n : Notice) : State := s.send p (.notice n)

def State.answer (s : State) (p : Port) (a : Answer) : State := s.send p (.answer a)

/-- A slot number in its own byte (R186). -/
def slotByte (i : Slot) : Byte := BitVec.ofNat 8 i.val

/-- The answer to a chair's outstanding long request: the request slot is emptied and the answer queued. Nothing follows
when the slot is empty, as after a link loss (R46, R163, R166). -/
def State.answerOutstanding (s : State) (c : ChairId) (code : Code) : State :=
  match (s.chair c).port.outstanding with
  | none => s
  | some o =>
    (s.modPort (.chair c) fun p => { p with outstanding := none }).answer (.chair c)
      { kind := o.kind, tag := o.tag, code := code, content := .slot (slotByte o.slot) }

/-! ### Chair states -/

/-- The return of a chair to READY or IDLE according to its accepting latch; a chair that becomes READY is an occasion
for the dispatcher (R14, R37, R65, R75). -/
def State.settleChair (s : State) (c : ChairId) : State :=
  if (s.chair c).latch then
    { s.modChair c fun x => { x with state := .ready } with dispatchDue := true }
  else s.modChair c fun x => { x with state := .idle }

def State.clearLatch (s : State) (c : ChairId) : State := s.modChair c fun x => { x with latch := false }

def State.setChairState (s : State) (c : ChairId) (st : ChairState) : State :=
  s.modChair c fun x => { x with state := st }

/-- The event runs the dispatcher as its last part (R65). -/
def State.due (s : State) : State := { s with dispatchDue := true }

/-! ### The call queue (chapter 3) -/

/-- The class of a call, fixed by its reason; a lower class is served first (R57). -/
def callClass : CallReason → Nat
  | .faultAssist => 0
  | .hangup => 1
  | .muck => 2

/-- A call at the tail of its class (R58, R59, R60). -/
def insertCall (c : Call) : List Call → List Call
  | [] => [c]
  | d :: q => if callClass c.reason < callClass d.reason then c :: d :: q else d :: insertCall c q

def State.findCall (s : State) (i : Slot) : Option Call := s.calls.find? fun c => c.slot == i

def State.removeCall (s : State) (i : Slot) : State :=
  { s with calls := s.calls.filter fun c => c.slot != i }

/-- A change of a call's fields other than its reason: the call keeps its place (R58). -/
def State.modCall (s : State) (i : Slot) (f : Call → Call) : State :=
  { s with calls := s.calls.map fun c => if c.slot == i then f c else c }

/-! ### The holder stack (R10 to R12) -/

/-- A push: nothing if the party is already newest; the oldest goes when the stack holds 4 (R11). -/
def pushStack (p : Party) (st : List Party) : List Party :=
  if st.head? = some p then st else (p :: st).take 4

/-! ### Ramps (R7) -/

def startRamp (purpose : RampPurpose) (start : Axes) (length : Nat) : Ramp :=
  { purpose := purpose, start := start, length := length, progress := 1 }

/-- An entry that leaves authority: its new state, no holder, no ramp record, zone-drop pending clear (R14). The stack,
the loader status and the applied values stay. -/
def Entry.vacate (st : EntryState) (e : Entry) : Entry :=
  { e with state := st, holder := none, ramp := none, zoneDrop := false }

/-! ### The fleet transmit queue (R152) -/

def FleetFrame.slot : FleetFrame → Slot
  | .command i _ _ _ => i
  | .read i _ _ => i

def FleetFrame.isCommandOf (i : Slot) : FleetFrame → Bool
  | .command j _ _ _ => j == i
  | .read _ _ _ => false

def FleetFrame.isReadOf (i : Slot) : FleetFrame → Bool
  | .command _ _ _ _ => false
  | .read j _ _ => j == i

def FleetFrame.isRestart : FleetFrame → Bool
  | .command _ _ .restart _ => true
  | _ => false

/-- Placement of a COMMAND frame other than RESTART: it joins the tail, or takes the place of the waiting COMMAND frame of
its slot; a waiting RESTART frame keeps its place and the new frame is not placed (R97, R112, R152). -/
def placeCommand (f : FleetFrame) : List FleetFrame → List FleetFrame
  | [] => [f]
  | g :: q => if g.isCommandOf f.slot then (if g.isRestart then g else f) :: q else g :: placeCommand f q

/-- Placement of a RESTART frame: in the place of the waiting COMMAND frame of its slot, or at the tail (R97, R152). -/
def placeRestart (f : FleetFrame) : List FleetFrame → List FleetFrame
  | [] => [f]
  | g :: q => if g.isCommandOf f.slot then f :: q else g :: placeRestart f q

/-- Placement of a discovery read: in the place of the waiting read of its slot, or at the tail (R135, R152). That holds also for the READ_ID
of a LOADER_RESTART while a stale read of the slot waits ahead of the RESTART frame, where R97 and R145 put READ_ID behind the RESTART
(DESIGN CHOICE, log entry 30). -/
def placeRead (f : FleetFrame) : List FleetFrame → List FleetFrame
  | [] => [f]
  | g :: q => if g.isReadOf f.slot then f :: q else g :: placeRead f q

def State.queueCommand (s : State) (i : Slot) (mode : Mode) (payload : List Byte) : State :=
  { s with fleetQueue := placeCommand (.command i (s.unitOf i) mode payload) s.fleetQueue }

def State.queueRestart (s : State) (i : Slot) : State :=
  { s with fleetQueue := placeRestart (.command i (s.unitOf i) .restart []) s.fleetQueue }

def State.queueRead (s : State) (i : Slot) (r : Read) : State :=
  { s with fleetQueue := placeRead (.read i (s.unitOf i) r) s.fleetQueue }

/-- Discovery start withdraws the slot's waiting COMMAND frame unless it is a RESTART (R135). -/
def State.withdrawCommand (s : State) (i : Slot) : State :=
  { s with fleetQueue := s.fleetQueue.filter fun f => !(f.isCommandOf i && !f.isRestart) }

/-- A forget expiry withdraws the slot's waiting COMMAND frame (R159). -/
def State.withdrawAnyCommand (s : State) (i : Slot) : State :=
  { s with fleetQueue := s.fleetQueue.filter fun f => !f.isCommandOf i }

/-- A refusal withdraws the slot's waiting discovery read (R143). -/
def State.withdrawRead (s : State) (i : Slot) : State :=
  { s with fleetQueue := s.fleetQueue.filter fun f => !f.isReadOf i }

end Sys2Proof.Machine
end

