-- ==== Sys2Proof/Machine/Operands.lean ====
section
/-! DEFINITION. The operands of the commands: numbers read from the bytes that carry them, gate records as they are
stored, the fields of the policy table with their ranges, and the clamping of a zone record. -/

namespace Sys2Proof.Machine

/-! ### Numbers (R164, R186) -/

/-- The loader slot a byte names; none above 15. -/
def slotOf (b : Byte) : Option Slot := if h : b.toNat < 16 then some ⟨b.toNat, h⟩ else none

/-- The chair a byte names; none above 5. -/
def chairOf (b : Byte) : Option ChairId := if h : b.toNat < 6 then some ⟨b.toNat, h⟩ else none

/-- The zone a byte names; none above 7. -/
def zoneOf (b : Byte) : Option ZoneId := if h : b.toNat < 8 then some ⟨b.toNat, h⟩ else none

/-- The loader phase a number names; none above 7. -/
def phaseOf (n : Nat) : Option (Fin 8) := if h : n < 8 then some ⟨n, h⟩ else none

/-- A number brought into a range (R117, R137, R173). -/
def clampTo (lo hi n : Nat) : Nat := max lo (min hi n)

/-! ### Axis samples (R84, R85, R184) -/

/-- Whether a number is a value in counts (Conventions). -/
def inCounts (n : Int) : Bool := -2048 ≤ n && n ≤ 2047

/-- The content check of an AXIS frame: every axis value is in counts (R184). -/
def axisInRange (f : AxisFrame) : Bool :=
  inCounts f.steer && inCounts f.travel && inCounts f.boom && inCounts f.bucket

/-- GEAR as it is held: 3 is held as N (R85). -/
def gearHeld (g : BitVec 2) : Gear :=
  match g.toNat with
  | 1 => .f
  | 2 => .r
  | _ => .n

/-- The held sample an AXIS frame leaves (R84). -/
def sampleOf (f : AxisFrame) : Sample :=
  { axes := ⟨f.steer, f.travel, f.boom, f.bucket⟩, enable := f.enable, brakeReq := f.brakeReq, horn := f.horn,
    lights := f.lights, gear := gearHeld f.gear }

/-! ### Gate records (R29, R168, R173) -/

/-- A gate record as it is stored: value is replaced by value ∩ mask. None when the phase lies above 7. -/
def gateOf (g : GateIn) : Option Gate :=
  match g.phase with
  | none => some { phase := none, mask := g.mask, value := g.value &&& g.mask, sense := g.sense, wait := g.wait }
  | some b =>
    match phaseOf b.toNat with
    | none => none
    | some p => some { phase := some p, mask := g.mask, value := g.value &&& g.mask, sense := g.sense, wait := g.wait }

/-- The gate a long request carries: outer none for a phase out of range, inner none when none is carried (R168). -/
def requestGate : Option GateIn → Option (Option Gate)
  | none => some none
  | some g => (gateOf g).map some

/-- Whether the loader status meets a gate's condition (R29). -/
def Gate.condition (g : Gate) (ls : LoaderStatus) : Bool :=
  (match g.phase with
    | none => true
    | some p => p == ls.phase) && ls.flags &&& g.mask == g.value

/-- Whether a gate is satisfied (R29). -/
def Gate.satisfied (g : Gate) (ls : LoaderStatus) : Bool :=
  match g.sense with
  | .matching => g.condition ls
  | .differ => !g.condition ls

/-- Whether a combined gate is satisfied: both gates are (R30). -/
def CombinedGate.satisfied (g : CombinedGate) (ls : LoaderStatus) : Bool :=
  g.policy.satisfied ls && match g.request with
    | none => true
    | some r => r.satisfied ls

/-- Whether a combined gate waits: the policy gate has wait yes, and so has the request gate if there is one (R30). -/
def CombinedGate.waits (g : CombinedGate) : Bool :=
  g.policy.wait && match g.request with
    | none => true
    | some r => r.wait

/-! ### Policy fields (R172, R173, R186) -/

/-- The range of a numeric field (R172). -/
def NumField.range : NumField → Nat × Nat
  | .offerTimeout => (2, 30)
  | .gateTimeout => (1, 60)
  | .passRamp => (1, 32)
  | .engageRamp => (1, 32)
  | .rundownRamp => (1, 32)
  | .neutralWindow => (0, 512)
  | .axisStale => (100, 500)
  | .presenceGrace => (200, 3000)
  | .pressSettle => (0, 500)
  | .missLimit => (2, 20)
  | .forgetTime => (10, 600)

def NumField.get (p : Policy) : NumField → Nat
  | .offerTimeout => p.offerTimeout
  | .gateTimeout => p.gateTimeout
  | .passRamp => p.passRamp
  | .engageRamp => p.engageRamp
  | .rundownRamp => p.rundownRamp
  | .neutralWindow => p.neutralWindow
  | .axisStale => p.axisStale
  | .presenceGrace => p.presenceGrace
  | .pressSettle => p.pressSettle
  | .missLimit => p.missLimit
  | .forgetTime => p.forgetTime

def NumField.put (v : Nat) (p : Policy) : NumField → Policy
  | .offerTimeout => { p with offerTimeout := v }
  | .gateTimeout => { p with gateTimeout := v }
  | .passRamp => { p with passRamp := v }
  | .engageRamp => { p with engageRamp := v }
  | .rundownRamp => { p with rundownRamp := v }
  | .neutralWindow => { p with neutralWindow := v }
  | .axisStale => { p with axisStale := v }
  | .presenceGrace => { p with presenceGrace := v }
  | .pressSettle => { p with pressSettle := v }
  | .missLimit => { p with missLimit := v }
  | .forgetTime => { p with forgetTime := v }

/-- The policy gate of a handover kind (R30). -/
def Policy.gateFor (p : Policy) : HandoverKind → Gate
  | .take => p.gateTake
  | .claim => p.gateClaim
  | .pass => p.gatePass
  | .returned => p.gateReturn
  | .resume => p.gateResume

def Policy.putGate (g : Gate) (p : Policy) : HandoverKind → Policy
  | .take => { p with gateTake := g }
  | .claim => { p with gateClaim := g }
  | .pass => { p with gatePass := g }
  | .returned => { p with gateReturn := g }
  | .resume => { p with gateResume := g }

/-- The policy fields by number, in the order of R172 (R186). -/
def policyFields : List PolicyField :=
  [.number .offerTimeout, .number .gateTimeout, .number .passRamp, .number .engageRamp, .number .rundownRamp,
   .number .neutralWindow, .number .axisStale, .number .presenceGrace, .number .pressSettle, .number .missLimit,
   .number .forgetTime, .gate .take, .gate .claim, .gate .pass, .gate .returned, .gate .resume, .writeCount]

def policyFieldOf (b : Byte) : Option PolicyField := policyFields[b.toNat]?

/-- The value of a policy field as a QUERY reads it (R170, R172). -/
def Policy.value (p : Policy) : PolicyField → FieldValue
  | .number f => .number (f.get p)
  | .gate k => .gate (p.gateFor k)
  | .writeCount => .number p.writeCount

/-- A POLICY_SET of a field: none when the field or the value is refused. WRITE_COUNT is incremented at each write, saturating
at 65535 (R172, R173, R185). -/
def Policy.write (p : Policy) (field : PolicyField) (v : PolicyValue) : Option Policy :=
  let counted (q : Policy) : Policy := { q with writeCount := min 65535 (p.writeCount + 1) }
  match field, v with
  | .number f, .number n => some (counted (f.put (clampTo f.range.1 f.range.2 n.toNat) p))
  | .gate k, .gate g => (gateOf g).map fun g' => counted (p.putGate g' k)
  | _, _ => none

/-! ### Zone records (R117) -/

/-- The record a ZONE_SET stores: the cap clamped to 2047, then the backoff to the cap as stored. -/
def zoneStored (state : ZoneState) (cap backoff : Half) (allowed : ChairSet) : Zone :=
  { state := state, cap := min 2047 cap.toNat, backoff := min (min 2047 cap.toNat) backoff.toNat, allowed := allowed }

/-! ### Request kinds (R164) -/

/-- Whether a port accepts a request of a kind (the table of R164). -/
def RequestKind.acceptedOn : RequestKind → Port → Bool
  | .query, _ | .ack, _ | .cancel, _ => true
  | .zoneSet, .service | .policySet, .service | .forceFree, .service | .loaderRestart, .service => true
  | .resetAll, .service | .resetKeep, .service => true
  | .zoneSet, .chair _ | .policySet, .chair _ | .forceFree, .chair _ | .loaderRestart, .chair _ => false
  | .resetAll, .chair _ | .resetKeep, .chair _ => false
  | .take, .chair _ | .pass, .chair _ | .returnLoader, .chair _ | .resume, .chair _ | .accept, .chair _ => true
  | .decline, .chair _ | .ready, .chair _ | .unready, .chair _ | .park, .chair _ => true
  | .take, .service | .pass, .service | .returnLoader, .service | .resume, .service | .accept, .service => false
  | .decline, .service | .ready, .service | .unready, .service | .park, .service => false

end Sys2Proof.Machine
end

