-- ==== Sys2Proof/Machine/Frames.lean ====
section
/-! DEFINITION. The frame, its CRC, and the layouts of the frames the part sends (chapter 10, R180 to R182, R186). -/

namespace Sys2Proof.Machine

/-! ### Bytes of numbers (R180, R186) -/

/-- A two-byte number, high byte first. -/
def bytesOfHalf (x : Half) : List Byte := [x.extractLsb' 8 8, x.extractLsb' 0 8]

/-- A four-byte number, high byte first. -/
def bytesOfUnit (x : UnitNumber) : List Byte :=
  [x.extractLsb' 24 8, x.extractLsb' 16 8, x.extractLsb' 8 8, x.extractLsb' 0 8]

def natByte (n : Nat) : Byte := BitVec.ofNat 8 n
def natHalf (n : Nat) : List Byte := bytesOfHalf (BitVec.ofNat 16 n)
def natWord (n : Nat) : List Byte := bytesOfUnit (BitVec.ofNat 32 n)

/-- A signed number in two bytes, two's complement. -/
def intHalf (n : Int) : List Byte := bytesOfHalf (BitVec.ofInt 16 n)

/-- A yes or no, or a present or absent (R186). -/
def flagByte (b : Bool) : Byte := if b then 1#8 else 0#8

/-- The two-byte number of a high and a low byte. -/
def halfOf (hi lo : Byte) : Half := hi ++ lo

/-- The four-byte number of its bytes, high byte first. -/
def wordOf (a b c d : Byte) : UnitNumber := (a ++ b) ++ (c ++ d)

/-! ### The CRC (R181) -/

/-- One shift of the register: the bit shifted out, when 1, folds the generator 0x1021 in. -/
def crcShift (r : Half) : Half := if r.getLsbD 15 then (r <<< 1) ^^^ 0x1021#16 else r <<< 1

/-- One byte into the register: exclusive-ORed into the high eight bits, then eight shifts. -/
def crcByte (r : Half) (b : Byte) : Half :=
  crcShift (crcShift (crcShift (crcShift (crcShift (crcShift (crcShift (crcShift (r ^^^ (b ++ 0#8)))))))))

/-- The CRC of the kind byte, the length byte and the payload, from the initial value 0xFFFF. -/
def crc (bytes : List Byte) : Half := bytes.foldl crcByte 0xFFFF#16

/-! ### The frame (R180, R182) -/

def syncByte : Byte := 0xA5#8

/-- The bytes of a frame, in the order sent (R180). -/
def frameBytes (kind : Byte) (payload : List Byte) : List Byte :=
  let body := kind :: natByte payload.length :: payload
  syncByte :: (body ++ bytesOfHalf (crc body))

/-- The bits of one character on a line: one start bit, eight data bits least significant first, one stop bit (R182). R182 gives the start
and the stop bit no level; they are 0 and 1 here, as asynchronous lines have them (PRESUMED, log entry 32). -/
def characterBits (b : Byte) : List Bool :=
  false :: ((List.range 8).map fun k => b.getLsbD k) ++ [true]

/-- The received frames of a line: the runs of bytes bounded by idle periods of two character times or more. Each byte comes with
the idle time before it, in character times (R180). -/
def receivedRuns : List (Nat × Byte) → List (List Byte)
  | [] => []
  | (_, b) :: rest =>
    match rest, receivedRuns rest with
    | (gap, _) :: _, run :: runs => if 2 ≤ gap then [b] :: run :: runs else (b :: run) :: runs
    | _, runs => [b] :: runs

/-! ### Enumerated values (R186) -/

def entryStateByte : EntryState → Byte
  | .empty => 0#8 | .discovering => 1#8 | .refused => 2#8 | .free => 3#8 | .auto => 4#8 | .held => 5#8
  | .locked => 6#8 | .linkLost => 7#8 | .tripped => 8#8

def chairStateByte : ChairState → Byte
  | .offline => 0#8 | .idle => 1#8 | .ready => 2#8 | .offered => 3#8 | .engaging => 4#8 | .driving => 5#8

def presenceByte : Presence → Byte
  | .present => 0#8 | .settling => 1#8 | .released => 2#8 | .absent => 3#8

def kindByte : HandoverKind → Byte
  | .take => 0#8 | .claim => 1#8 | .pass => 2#8 | .returned => 3#8 | .resume => 4#8

def phaseByte : HandoverPhase → Byte
  | .offering => 0#8 | .gating => 1#8

def purposeByte : RampPurpose → Byte
  | .engage => 0#8 | .pass => 1#8 | .rundown => 2#8

def stageByte : Stage → Byte
  | .readingId => 0#8 | .readingEntries => 1#8 | .awaitingTelemetry => 2#8

def modeByte : Mode → Byte
  | .stop => 0#8 | .restart => 1#8 | .hold => 2#8 | .auto => 3#8 | .drive => 4#8

def reasonByte : CallReason → Byte
  | .faultAssist => 0#8 | .hangup => 1#8 | .muck => 2#8

def zoneStateByte : ZoneState → Byte
  | .opened => 0#8 | .closed => 1#8

/-- GEAR: N 0, F 1, R 2 (R110). -/
def gearValue : Gear → Nat
  | .n => 0 | .f => 1 | .r => 2

/-- A party, or none: 0 to 5 a chair, 6 AUTO, 7 none. -/
def partyByte : Option Party → Byte
  | some (.chair c) => natByte c.val
  | some .auto => 6#8
  | none => 7#8

def chairSetByte (cs : ChairSet) : Byte := cs.zeroExtend 8

/-- The request codes. -/
def requestCode : RequestKind → Byte
  | .take => 0x01#8 | .pass => 0x02#8 | .returnLoader => 0x03#8 | .resume => 0x04#8 | .accept => 0x05#8
  | .decline => 0x06#8 | .ready => 0x07#8 | .unready => 0x08#8 | .park => 0x09#8 | .cancel => 0x0A#8
  | .query => 0x0B#8 | .ack => 0x0C#8 | .zoneSet => 0x20#8 | .policySet => 0x21#8 | .forceFree => 0x22#8
  | .loaderRestart => 0x23#8 | .resetAll => 0x24#8 | .resetKeep => 0x25#8

/-- The answer and cause codes. -/
def codeByte : Code → Byte
  | .done => 0#8 | .busy => 1#8 | .fieldError => 2#8 | .cancelled => 3#8 | .nothingPending => 4#8 | .notHolder => 5#8
  | .handoverPending => 6#8 | .notAvailable => 7#8 | .zoneClosed => 8#8 | .notPermitted => 9#8 | .busyChair => 10#8
  | .targetBusy => 11#8 | .targetAbsent => 12#8 | .targetUnavailable => 13#8 | .self => 14#8 | .noPrevious => 15#8
  | .notPresent => 16#8 | .noOffer => 17#8 | .declined => 18#8 | .offerTimeout => 19#8 | .gateFailed => 20#8
  | .gateTimeout => 21#8 | .sourceLost => 22#8 | .targetOffline => 23#8 | .linkLost => 24#8 | .tripped => 25#8
  | .loaderRestart => 26#8 | .forced => 27#8 | .callCleared => 28#8 | .absent => 29#8 | .link => 30#8
  | .zoneExit => 31#8 | .noAnswer => 32#8 | .descriptorOversize => 33#8 | .descriptorInvalid => 34#8
  | .descriptorIncomplete => 35#8

/-- A discovery read: 0xFE READ_ID, an index for READ_ENTRY, 0xFF none. -/
def readByte : Option Read → Byte
  | some .readId => 0xFE#8
  | some (.readEntry n) => n
  | none => 0xFF#8

/-- The number of a policy field (R172, R186). -/
def policyFieldByte (f : PolicyField) : Byte := natByte (policyFields.idxOf f)

/-- A byte some of whose bits no rule names: those bits are free (DESIGN CHOICE, log entry 13). -/
def withSpare (site : Config.SpareSite) (named b : Byte) : Byte :=
  (b &&& named) ||| (Config.spareBits site &&& ~~~named)

/-! ### Contents (R186) -/

def gateBytes (g : Gate) : List Byte :=
  [match g.phase with
    | some p => natByte p.val
    | none => 0xFF#8,
   g.mask, g.value,
   withSpare .gateControl 0x03#8
    ((if g.sense = .differ then 1#8 else 0#8) ||| (if g.wait then 2#8 else 0#8))]

def fieldValueBytes : FieldValue → List Byte
  | .number v => natHalf v
  | .gate g => gateBytes g

def axesBytes (a : Axes) : List Byte := intHalf a.steer ++ intHalf a.travel ++ intHalf a.boom ++ intHalf a.bucket

/-- A held sample as the nine AXIS payload bytes. -/
def sampleBytes (m : Sample) : List Byte :=
  axesBytes m.axes ++
    [withSpare .axisDiscretes 0x3F#8
      ((if m.enable then 1#8 else 0#8) ||| (if m.brakeReq then 2#8 else 0#8) ||| (if m.horn then 4#8 else 0#8) |||
        (if m.lights then 8#8 else 0#8) ||| (natByte (gearValue m.gear) <<< 4))]

def zoneBytes (z : Zone) : List Byte :=
  zoneStateByte z.state :: (natHalf z.cap ++ natHalf z.backoff ++ [chairSetByte z.allowed])

def auxBytes (aux : List Int) : List Byte := aux.flatMap intHalf

def statusBytes (ls : LoaderStatus) : List Byte :=
  [natByte ls.phase.val, ls.flags] ++ natHalf ls.speed ++ [natByte ls.zone.val] ++ bytesOfHalf ls.faults ++
    [natByte ls.aux.length] ++ auxBytes ls.aux

def rampBytes : Option Ramp → List Byte
  | none => [0#8]
  | some r => [1#8, purposeByte r.purpose, natByte r.progress, natByte r.length]

def handoverBytes : Option Handover → List Byte
  | none => [0#8]
  | some h =>
    [1#8, kindByte h.kind, partyByte h.source, partyByte (some h.target), phaseByte h.phase,
     partyByte (h.requester.map .chair), flagByte h.callAttached]

/-- The four positions of a holder stack, newest first; 0xFF for a position that holds no entry (R26). -/
def stackBytes (st : List Party) : List Byte :=
  (List.range 4).map fun k =>
    match st[k]? with
    | some p => partyByte (some p)
    | none => 0xFF#8

def callItemByte (c : Call) : Byte :=
  withSpare .queueItem 0xBF#8
    (slotByte c.slot ||| (reasonByte c.reason <<< 4) ||| (if c.reserved then 0x80#8 else 0#8))

def zoneItemBytes (z : ZoneItem) : List Byte :=
  [(slotByte z.slot <<< 4) ||| entryStateByte z.state,
   withSpare .zoneItem 0x87#8 (partyByte z.holder ||| (if z.zoneDrop then 0x80#8 else 0#8))]

def descriptorBytes (d : Descriptor) : List Byte :=
  [d.function, d.direction, d.size, d.kind] ++ bytesOfHalf d.rawMin ++ bytesOfHalf d.rawNeutral ++ bytesOfHalf d.rawMax

def gainBytes : Option Gain → List Byte
  | none => [0#8]
  | some g => 1#8 :: (natWord g.pos ++ natWord g.neg)

def nameBytes (n : LoaderName) : List Byte := [n.c0, n.c1, n.c2, n.c3]

/-- The refusal of a UNIT answer: cause 0xFF for none, and then no stage and no read, which are absent and not sent (R186; DEDUCED, log
entry 11). -/
def refusalBytes : Option DiscoveryRefusal → List Byte
  | none => [0xFF#8]
  | some r => [codeByte r.cause, stageByte r.stage, readByte r.read]

/-- The relation of a chair to a loader, with the fields that R92 gives the relation; a field it does not give is absent and not sent
(R186; DEDUCED, log entry 12). -/
def chairLoaderBytes : ChairLoader → List Byte
  | .none => [0#8]
  | .driving i halted => [1#8, slotByte i, flagByte halted]
  | .target i k p => [2#8, slotByte i, kindByte k, phaseByte p]

/-- The content of an answer, byte by byte (the answer table of R186). The STATE answer of an entry always has its three bytes, 0 for halted
and zone-drop pending outside HELD (DESIGN CHOICE, log entry 31). -/
def contentBytes : Content → List Byte
  | .nothing => []
  | .slot b => [b]
  | .zoneStored z r => natByte z.val :: zoneBytes r
  | .policyStored f v n => policyFieldByte f :: (fieldValueBytes v ++ natHalf n)
  | .acknowledged fl n => bytesOfHalf fl ++ [natByte n]
  | .entryState st halted drop => [entryStateByte st, flagByte halted, flagByte drop]
  | .holder p => [partyByte p]
  | .handover h => handoverBytes h
  | .stack st => stackBytes st
  | .status none => [0#8]
  | .status (some ls) => 1#8 :: statusBytes ls
  | .applied a lights r => axesBytes a ++ [flagByte lights] ++ rampBytes r
  | .callOf n none => [natByte n, 0#8]
  | .callOf n (some (pos, c)) =>
    [natByte n, 1#8, reasonByte c.reason, natByte pos, flagByte c.reserved, chairSetByte c.declined, natByte c.unserved]
  | .unit u used stage rd refusal =>
    bytesOfUnit (u.getD 0#32) ++
      [flagByte used,
       match stage with
        | some st => stageByte st
        | none => 0xFF#8,
       readByte rd] ++ refusalBytes refusal
  | .name none => [0#8]
  | .name (some (n, period, wd)) => 1#8 :: (nameBytes n ++ natHalf period ++ natHalf wd)
  | .descriptor none => [0#8]
  | .descriptor (some (d, g)) => 1#8 :: (descriptorBytes d ++ gainBytes g)
  | .chairState st latch => [chairStateByte st, flagByte latch]
  | .presence p grace m => [presenceByte p, flagByte grace] ++ sampleBytes m
  | .loader r => chairLoaderBytes r
  | .flags fl => bytesOfHalf fl
  | .errorCount n => [natByte n]
  | .queue p calls =>
    [natByte p.val, natByte calls.length] ++ calls.flatMap fun c => [callItemByte c, chairSetByte c.declined]
  | .zone r items => zoneBytes r ++ [natByte items.length] ++ items.flatMap zoneItemBytes
  | .policy f v => policyFieldByte f :: fieldValueBytes v

def answerPayload (a : Answer) : List Byte :=
  [requestCode a.kind, natByte a.tag.val, codeByte a.code] ++ contentBytes a.content

def originByte : OfferOrigin → Byte
  | .call r => reasonByte r
  | .chair c => natByte c.val

/-- The notices, byte by byte (the notice table of R186). -/
def noticePayload : Notice → List Byte
  | .offer i u z p k o =>
    [0#8, slotByte i] ++ bytesOfUnit u ++ [natByte z.val, natByte p.val, kindByte k, originByte o]
  | .offerWithdrawn i c => [1#8, slotByte i, codeByte c]
  | .abandoned i c => [2#8, slotByte i, codeByte c]
  | .holding i k src => [3#8, slotByte i, kindByte k, partyByte src]
  | .lost i c => [5#8, slotByte i, codeByte c]
  | .zone i z b => [6#8, slotByte i, natByte z.val, flagByte b]
  | .unserved i r z n => [7#8, slotByte i, reasonByte r, natByte z.val, natByte n]
  | .tripped i u wd es left h =>
    [8#8, slotByte i] ++ bytesOfUnit u ++
      [withSpare .tripFaults 0x03#8 ((if wd then 1#8 else 0#8) ||| (if es then 2#8 else 0#8)), entryStateByte left, partyByte h]
  | .linkLost i u left h => [9#8, slotByte i] ++ bytesOfUnit u ++ [entryStateByte left, partyByte h]
  | .refused i u r => [10#8, slotByte i] ++ bytesOfUnit u ++ [codeByte r.cause, stageByte r.stage, readByte r.read]
  | .rebound i old new => [11#8, slotByte i] ++ bytesOfUnit old ++ bytesOfUnit new
  | .slotsFull u => 12#8 :: bytesOfUnit u
  | .zoneDrop i c z => [13#8, slotByte i, natByte c.val, natByte z.val]

/-- The STATUS frame, byte by byte: the loader status without its faults (R26, R113, R186). -/
def statusPayload (f : StatusFrame) : List Byte :=
  [slotByte f.slot, natByte f.status.phase.val, f.status.flags] ++ natHalf f.status.speed ++ [natByte f.status.zone.val] ++
    axesBytes f.applied ++
    [withSpare .statusIndicators 0x03#8 ((if f.capped then 1#8 else 0#8) ||| (if f.rampActive then 2#8 else 0#8))] ++
    auxBytes f.status.aux

/-- A frame of a chair or service transmit queue as it is sent (R180, R186). -/
def portFrameBytes : PortFrame → List Byte
  | .answer a => frameBytes 0x81#8 (answerPayload a)
  | .notice n => frameBytes 0x82#8 (noticePayload n)
  | .status f => frameBytes 0x83#8 (statusPayload f)

/-- A frame of the fleet transmit queue as it is sent (R180, R186). -/
def fleetFrameBytes : FleetFrame → List Byte
  | .command _ u mode payload => frameBytes 0x90#8 (bytesOfUnit u ++ modeByte mode :: payload)
  | .read _ u .readId => frameBytes 0x91#8 (bytesOfUnit u)
  | .read _ u (.readEntry n) => frameBytes 0x92#8 (bytesOfUnit u ++ [n])

end Sys2Proof.Machine
end

