-- ==== Sys2Proof/Machine/Authority.lean ====
section
/-! DEFINITION. The shared operations of the authority table and the handover engine: starting, gating, transferring and
abandoning a handover (chapter 2), and an entry's leaving authority (R14). -/

namespace Sys2Proof.Machine

/-! ### Abandonment (R46) -/

/-- Whether an abandonment with this cause leaves the attached call in the queue, released; with every other cause the call is
removed by the event itself (R63, R69). -/
def Code.releasesCall : Code → Bool
  | .declined | .offerTimeout | .gateFailed | .gateTimeout | .cancelled | .targetAbsent | .targetOffline
  | .notPermitted => true
  | _ => false

/-- Whether the cause puts the target of a CLAIM into the call's declined set (R69). -/
def Code.joinsDeclined : Code → Bool
  | .declined | .offerTimeout => true
  | _ => false

/-- The release of the call attached to record `h` of slot `i`: it becomes unreserved at its place, the target of a CLAIM joins
the declined set where the cause says so, and the dispatcher is due (R46, R63, R65, R69). -/
def releaseCall (i : Slot) (h : Handover) (cause : Code) (s : State) : State :=
  (s.modCall i fun c =>
    { c with
      reserved := false
      declined :=
        match h.kind, h.target with
        | .claim, .chair t => if cause.joinsDeclined then addChair c.declined t else c.declined
        | _, _ => c.declined }).due

/-- The notice to a chair target that is not the requester: OFFER_WITHDRAWN from OFFERING, ABANDONED from GATING, none to a
target that declined the offer itself (R40, R46). -/
def notifyTarget (i : Slot) (h : Handover) (cause : Code) (s : State) : State :=
  match h.target with
  | .auto => s
  | .chair t =>
    if h.requester = some t || cause = .declined then s
    else
      match h.phase with
      | .offering => s.notify (.chair t) (.offerWithdrawn i cause)
      | .gating => s.notify (.chair t) (.abandoned i cause)

/-- Abandonment of the handover record of slot `i` with a cause; nothing when there is none. The record goes, an attached call is
released where the cause says so, the target chair returns to READY or IDLE, the requester is answered the cause, then the target
is notified (R46). -/
def abandon (i : Slot) (cause : Code) (s : State) : State :=
  match (s.entry i).handover with
  | none => s
  | some h =>
    let s := s.modEntry i fun e => { e with handover := none }
    let s := if h.callAttached && cause.releasesCall then releaseCall i h cause s else s
    let s := match h.target with
      | .chair t => s.settleChair t
      | .auto => s
    let s := match h.requester with
      | some r => s.answerOutstanding r cause
      | none => s
    notifyTarget i h cause s

/-! ### Leaving authority (R14) -/

/-- The release of the chair that held the entry as it stood before the event: READY or IDLE by its latch, then LOST with the
cause, or no LOST notice where `lost` is none (R14). -/
def releaseHolder (i : Slot) (before : Entry) (lost : Option Code) (s : State) : State :=
  match before.state, before.holder with
  | .held, some (.chair c) =>
    let s := s.settleChair c
    match lost with
    | some cause => s.notify (.chair c) (.lost i cause)
    | none => s
  | _, _ => s

/-- An event that takes an entry out of authority, in the order of R14: the handover is abandoned with `cause`, the entry is
written by `f`, the holder of a HELD entry is released with LOST of cause `lost`, and the call of an AUTO entry is removed. -/
def leave (i : Slot) (cause : Code) (lost : Option Code) (f : Entry → Entry) (s : State) : State :=
  let before := s.entry i
  let s := abandon i cause s
  let s := s.modEntry i f
  let s := releaseHolder i before lost s
  if before.state = .auto then s.removeCall i else s

/-- The lock of an entry (R19). -/
def lock (i : Slot) (s : State) : State :=
  leave i .zoneClosed (some .zoneClosed) (Entry.vacate .locked) s

/-- The unlock of a LOCKED entry (R20). -/
def unlock (i : Slot) (s : State) : State := s.modEntry i (Entry.vacate .free)

/-- The holder of a HELD entry is lost and the entry becomes FREE with neutral outputs and its stack unchanged (R17, R18, R21). -/
def dropHolder (i : Slot) (lost : Code) (s : State) : State :=
  leave i .sourceLost (some lost) (Entry.vacate .free) s

/-! ### Gates and transfer (R29 to R31, R42 to R45) -/

/-- The condition on the target besides the combined gate: a chair target is PRESENT and, for TAKE and CLAIM, holds its TRAVEL
within the neutral window (R31). -/
def targetFit (h : Handover) (s : State) : Bool :=
  match h.target with
  | .auto => true
  | .chair c =>
    s.isPresent c &&
      (!(h.kind == .take || h.kind == .claim) ||
        decide ((s.chair c).sample.axes.travel.natAbs ≤ s.policy.neutralWindow))

/-- Whether the gate of record `h` of slot `i` passes; it does not while the loader status is absent (R31). -/
def gatePasses (i : Slot) (h : Handover) (s : State) : Bool :=
  match (s.entry i).status with
  | none => false
  | some ls => h.gate.satisfied ls && targetFit h s

/-- The holder stack a transfer leaves: a RETURN pops, every other kind pushes its source, which a TAKE from FREE has none of
(R11, R12, R44). -/
def stackAfter (h : Handover) (st : List Party) : List Party :=
  match h.kind with
  | .returned => st.tail
  | .take | .claim | .pass | .resume =>
    match h.source with
    | some p => pushStack p st
    | none => st

/-- The ramp record a transfer leaves (R7, R44). A PASS ramp starts from the applied values as the last frame wrote them (R7, R107), also
where the source has been released since that frame; R44 and R49 speak of the neutral values of a halted source, which are the applied
values from the next cycle expiry on (DESIGN CHOICE, log entry 29). -/
def rampAfter (h : Handover) (applied : Axes) (pol : Policy) : Option Ramp :=
  match h.kind, h.target with
  | _, .auto => none
  | .take, .chair _ | .claim, .chair _ => some (startRamp .engage Axes.neutral pol.engageRamp)
  | .pass, .chair _ | .returned, .chair _ | .resume, .chair _ => some (startRamp .pass applied pol.passRamp)

/-- The entry a transfer leaves (R44). -/
def entryAfter (h : Handover) (pol : Policy) (e : Entry) : Entry :=
  { e with
    state := match h.target with
      | .chair _ => .held
      | .auto => .auto
    holder := some h.target
    handover := none
    stack := stackAfter h e.stack
    ramp := rampAfter h e.applied pol
    zoneDrop := false }

/-- The transfer of record `h` of slot `i`: the entry (R44), the call, the chair states, the requester's DONE, and the HOLDING
notice to a chair target that was not the requester (R45). -/
def transfer (i : Slot) (h : Handover) (s : State) : State :=
  let s := s.modEntry i (entryAfter h s.policy)
  let s := s.removeCall i
  let s := match h.target with
    | .chair t => s.setChairState t .driving
    | .auto => s
  let s := match h.source with
    | some (.chair c) => s.settleChair c
    | _ => s
  let s := match h.requester with
    | some r => s.answerOutstanding r .done
    | none => s
  match h.target with
  | .chair t => if h.requester = some t then s else s.notify (.chair t) (.holding i h.kind h.source)
  | .auto => s

/-- An evaluation of the gate of a record in GATING after its entry into GATING: it transfers or waits (R42). -/
def evaluateGate (i : Slot) (s : State) : State :=
  match (s.entry i).handover with
  | none => s
  | some h =>
    match h.phase with
    | .offering => s
    | .gating => if gatePasses i h s then transfer i h s else s

/-- The evaluation at a record's entry into GATING: a combined gate that does not wait and does not pass abandons the handover
with GATE_FAILED (R42). -/
def enterGating (i : Slot) (s : State) : State :=
  match (s.entry i).handover with
  | none => s
  | some h =>
    if gatePasses i h s then transfer i h s
    else if h.gate.waits then s
    else abandon i .gateFailed s

/-- The evaluation of the gate of the record in GATING that targets chair `c`, if any (R42, R79, R80, R83). -/
def evaluateTargeting (c : ChairId) (s : State) : State :=
  match s.targetSlot c with
  | none => s
  | some i => evaluateGate i s

/-! ### Starting a handover (R28, R32 to R37) -/

/-- The length in seconds a record's deadline starts with in a phase (R28). -/
def deadlineFor (pol : Policy) : HandoverPhase → Nat
  | .offering => pol.offerTimeout
  | .gating => pol.gateTimeout

/-- A record as it is created: its combined gate and deadline are read from the policy table at the event (R28, R30). -/
def newRecord (kind : HandoverKind) (source : Option Party) (target : Party) (phase : HandoverPhase)
    (gate : Option Gate) (requester : Option ChairId) (callAttached : Bool) (pol : Policy) : Handover :=
  { kind := kind, source := source, target := target, phase := phase,
    gate := { policy := pol.gateFor kind, request := gate }, deadline := deadlineFor pol phase,
    requester := requester, callAttached := callAttached }

/-- The creation of a record on slot `i`: it is placed in the entry, an attached call becomes reserved, and a chair target becomes
OFFERED in OFFERING or ENGAGING in GATING (R28, R37, R63). -/
def startHandover (i : Slot) (h : Handover) (s : State) : State :=
  let s := s.modEntry i fun e => { e with handover := some h }
  let s := if h.callAttached then s.modCall i fun c => { c with reserved := true } else s
  match h.target with
  | .auto => s
  | .chair t => s.setChairState t (match h.phase with
    | .offering => .offered
    | .gating => .engaging)

/-- The zone and phase an OFFER notice shows, read from the loader status (R33, R68); 0 and 0 for an absent status, which no entry
that can carry a record has (DESIGN CHOICE, log entry 15). -/
def offerNotice (i : Slot) (kind : HandoverKind) (origin : OfferOrigin) (s : State) : Notice :=
  match (s.entry i).status with
  | some ls => .offer i (s.unitOf i) ls.zone ls.phase kind origin
  | none => .offer i (s.unitOf i) 0 0 kind origin

end Sys2Proof.Machine
end

