-- ==== Sys2Proof/Machine/Dispatcher.lean ====
section
/-! DEFINITION. The dispatcher (chapter 3), and the shape every event has: its own effects, then one run of the dispatcher
if they called for it (R65). -/

namespace Sys2Proof.Machine

/-- Whether a call's declined set is saturated: it is not empty and contains every chair that is not OFFLINE and is in the allowed
set of the loader's zone (R70). -/
def saturated (c : Call) (s : State) : Bool :=
  c.declined != 0#6 &&
    allChairs.all fun k => !(s.online (.chair k) && s.allowedAt c.slot k) || hasChair c.declined k

/-- The saturation test of a visit: a saturated set is emptied, the unserved count incremented, saturating at 255, and UNSERVED
queued to the service link (R70). -/
def testSaturation (c : Call) (s : State) : State :=
  if saturated c s then
    let n := min 255 (c.unserved + 1)
    (s.modCall c.slot fun d => { d with declined := 0#6, unserved := n }).notify .service
      (.unserved c.slot c.reason (((s.entry c.slot).zone?).getD 0) n)
  else s

/-- Whether chair `k` is eligible for call `c` (R66). -/
def eligible (c : Call) (k : ChairId) (s : State) : Bool :=
  (s.chair k).state == .ready && s.isPresent k && s.allowedAt c.slot k && !hasChair c.declined k

/-- The chairs in cyclic order from a pointer (R67). -/
def cyclicFrom (p : ChairId) : List ChairId := allChairs.map fun k => p + k

/-- The first eligible chair at or after the pointer (R67). -/
def chooseChair (c : Call) (s : State) : Option ChairId :=
  (cyclicFrom s.pointer).find? fun k => eligible c k s

/-- The dispatcher's offer of call `c` to chair `k`: the CLAIM record, the reservation, the OFFERED chair, the OFFER notice and the
pointer's advance (R36, R67, R68). -/
def offerCall (c : Call) (k : ChairId) (s : State) : State :=
  let s := startHandover c.slot
    (newRecord .claim (some .auto) (.chair k) .offering none none true s.policy) s
  let s := s.notify (.chair k) (offerNotice c.slot .claim (.call c.reason) s)
  { s with pointer := k + 1 }

/-- The visit of the dispatcher to the call of slot `i`. A reserved call is passed over, and so is one whose loader already has a
handover record (R4, R66). -/
def visitCall (s : State) (i : Slot) : State :=
  match s.findCall i with
  | none => s
  | some c =>
    if c.reserved || (s.entry i).handover.isSome then s
    else
      let s := testSaturation c s
      match s.findCall i with
      | none => s
      | some c =>
        match chooseChair c s with
        | none => s
        | some k => offerCall c k s

/-- One run of the dispatcher: one walk over the call queue from head to tail (R66). -/
def runDispatcher (s : State) : State := (s.calls.map (·.slot)).foldl visitCall s

/-- The last part of an event: the dispatcher runs once if an item of R65 occurred. -/
def finish (s : State) : State :=
  if s.dispatchDue then runDispatcher { s with dispatchDue := false } else s

/-- An event: its own effects, then the dispatcher if they called for it (R65). -/
def event (effects : State → State) (s : State) : State :=
  finish (effects { s with dispatchDue := false })

end Sys2Proof.Machine
end

