-- ==== Sys2Proof/Machine/Ports.lean ====
section
/-! DEFINITION. What the chair and service ports do with the frames that reach them: link supervision (R86 to R89, R91), the
request slot (R163, R164), answers, and the presence filter (R78 to R82). -/

namespace Sys2Proof.Machine

/-! ### Link supervision -/

/-- An OFFLINE chair comes online IDLE, ABSENT and with its latch clear; an OFFLINE service port comes online (R86, R91). -/
def comeOnline (p : Port) (s : State) : State :=
  if s.online p then s
  else
    match p with
    | .chair c => s.modChair c fun x => { x with state := .idle, presence := .absent, latch := false }
    | .service => { s with service := { s.service with online := true } }

/-- A valid frame of any kind: it brings an OFFLINE port online, restarts the silence timer and sets the bad-frame run to 0
(R86, R87, R88, R91). -/
def goodFrame (p : Port) (s : State) : State :=
  (comeOnline p s).modPort p fun r => { r with silence := some Config.silenceMs, badRun := 0 }

/-- A chair becomes OFFLINE (R89). The request slot is discarded first. The frames that the loss of its loader or of an offer would
queue to it are discarded without TX_OVERFLOW, so its queue is emptied before them as well as after (DEDUCED, log entry 5). -/
def chairOffline (c : ChairId) (s : State) : State :=
  let s := s.modPort (.chair c) fun r => { r with outstanding := none, queue := [] }
  let s := match s.heldSlot c with
    | some i => dropHolder i .link s
    | none => s
  let s := match s.targetSlot c with
    | some i => abandon i .targetOffline s
    | none => s
  let s := s.modChair c fun x =>
    { x with
      state := .offline, latch := false, presence := .absent, settle := none, grace := none, staleness := none,
      sample := Sample.neutral,
      port := { x.port with silence := none, badRun := 0, outstanding := none, queue := [] } }
  s.due

/-- The service port becomes OFFLINE; it acts on no entry, handover, call or chair (R91). -/
def serviceOffline (s : State) : State :=
  { s with service :=
    { online := false
      port := { s.service.port with silence := none, badRun := 0, outstanding := none, queue := [] } } }

/-- A port becomes OFFLINE. -/
def goOffline (p : Port) (s : State) : State :=
  match p with
  | .chair c => chairOffline c s
  | .service => serviceOffline s

/-- A bad frame: its sticky flag and the error count; on an online port the bad-frame run, which takes the link OFFLINE when it
reaches 4 (R88, R91, R184). -/
def takeBadFrame (p : Port) (why : BadFrame) (s : State) : State :=
  let s := s.raise p (badFrameFlag why)
  if s.online p then
    if (s.port p).badRun + 1 < Config.badRunLimit then
      s.modPort p fun r => { r with badRun := r.badRun + 1 }
    else goOffline p s
  else s

/-! ### Requests (R163 to R166) -/

/-- A request's answer: the code with the request's own tag (R165). -/
def reply (b : Sender) (kind : RequestKind) (code : Code) (content : Content) (s : State) : State :=
  s.answer b.port { kind := kind, tag := b.tag, code := code, content := content }

/-- A FIELD_ERROR answer, which sets FIELD on the sending port (R164, R187). -/
def fieldError (b : Sender) (kind : RequestKind) (content : Content) (s : State) : State :=
  reply b kind .fieldError content (s.raise b.port .field)

/-- A REQUEST frame other than CANCEL, in the order of R164: a valid frame for its port; BUSY while the request slot is occupied;
FIELD_ERROR for a kind the port does not accept; then the owning block. `content` is what every answer of the kind carries, BUSY and
FIELD_ERROR included: the slot as carried, or nothing (R165, R186). -/
def takeRequest (b : Sender) (kind : RequestKind) (content : Content) (owner : State → State) (s : State) : State :=
  let s := goodFrame b.port s
  if (s.port b.port).outstanding.isSome then reply b kind .busy content s
  else if kind.acceptedOn b.port then owner s
  else fieldError b kind content s

/-- A chair's request to the owning block; the service port has none of the kinds it serves (R164). -/
def fromChair (b : Sender) (kind : RequestKind) (content : Content) (owner : ChairId → State → State) (s : State) : State :=
  match b.port with
  | .chair c => owner c s
  | .service => fieldError b kind content s

/-- The owning block's check of the loader slot number a request carries (R164, R168, R169, R176). -/
def withSlot (b : Sender) (kind : RequestKind) (slot : Byte) (owner : Slot → State → State) (s : State) : State :=
  match slotOf slot with
  | some i => owner i s
  | none => fieldError b kind (.slot slot) s

/-- A chair's long request becomes outstanding (R163). -/
def occupySlot (b : Sender) (kind : RequestKind) (i : Slot) (s : State) : State :=
  s.modPort b.port fun r => { r with outstanding := some { kind := kind, tag := b.tag, slot := i } }

/-! ### Presence (R78 to R82) -/

/-- The ramp of the entry that chair `c` holds (R7, R8). -/
def setHeldRamp (c : ChairId) (ramp : State → Option Ramp) (s : State) : State :=
  match s.heldSlot c with
  | some i => s.modEntry i fun e => { e with ramp := ramp s }
  | none => s

/-- A chair becomes PRESENT: grace and settle stop, a held loader gets an ENGAGE ramp from 0, a gate that targets the chair is
evaluated, and the dispatcher is due for a READY chair (R79). -/
def becomePresent (c : ChairId) (s : State) : State :=
  let s := s.modChair c fun x => { x with presence := .present, settle := none, grace := none }
  let s := setHeldRamp c (fun s => some (startRamp .engage Axes.neutral s.policy.engageRamp)) s
  let s := evaluateTargeting c s
  if (s.chair c).state = .ready then s.due else s

/-- ENABLE set: a RELEASED or ABSENT chair becomes SETTLING, or PRESENT at once when press_settle is 0; grace is left as it is
(R78). -/
def press (c : ChairId) (s : State) : State :=
  match (s.chair c).presence with
  | .present | .settling => s
  | .released | .absent =>
    if s.policy.pressSettle = 0 then becomePresent c s
    else s.modChair c fun x => { x with presence := .settling, settle := some s.policy.pressSettle }

/-- ENABLE clear: a PRESENT or SETTLING chair becomes RELEASED, its settle timer stops and its grace timer starts unless it runs; a
PRESENT chair's held loader loses its ramp record, and a gate that targets the chair is evaluated (R80). -/
def letGo (c : ChairId) (s : State) : State :=
  match (s.chair c).presence with
  | .released | .absent => s
  | .settling =>
    s.modChair c fun x =>
      { x with presence := .released, settle := none, grace := some (x.grace.getD s.policy.presenceGrace) }
  | .present =>
    let s := s.modChair c fun x =>
      { x with presence := .released, settle := none, grace := some (x.grace.getD s.policy.presenceGrace) }
    let s := setHeldRamp c (fun _ => none) s
    evaluateTargeting c s

end Sys2Proof.Machine
end

