-- ==== Sys2Proof/Machine/ChairEvents.lean ====
section
/-! DEFINITION. The events of the chair and service links: AXIS, IDLE and bad frames, the presence and silence timers, and the departure
of frames (chapters 4 and 10). The expiry of a timer that is not running is no event (DESIGN CHOICE, log entry 2). -/

namespace Sys2Proof.Machine

/-- The effects of a valid AXIS frame, in the order of R83. -/
def takeAxis (c : ChairId) (f : AxisFrame) (s : State) : State :=
  let s := goodFrame (.chair c) s
  let s := s.modChair c fun x => { x with sample := sampleOf f }
  let s := if f.gear = 3#2 then s.raise (.chair c) .gearInvalid else s
  let s := s.modChair c fun x => { x with staleness := some s.policy.axisStale }
  let s := if f.enable then press c s else letGo c s
  evaluateTargeting c s

/-- AXIS (R83 to R85). An axis value outside the counts fails the content check, so that the frame is bad and not taken (R184). -/
def execAxis (c : ChairId) (f : AxisFrame) (s : State) : Host.Outcome State Fault Refusal :=
  .next (event (fun s => if axisInRange f then takeAxis c f s else takeBadFrame (.chair c) .content s) s)

/-- IDLE (R183): a valid frame for link supervision and nothing else. -/
def execIdle (p : Port) (s : State) : Host.Outcome State Fault Refusal :=
  .next (event (goodFrame p) s)

/-- BAD_FRAME (R88, R91, R184). -/
def execBadFrame (p : Port) (why : BadFrame) (s : State) : Host.Outcome State Fault Refusal :=
  .next (event (takeBadFrame p why) s)

/-- SETTLE_EXPIRY (R79). -/
def execSettleExpiry (c : ChairId) (s : State) : Host.Outcome State Fault Refusal :=
  .next (event (fun s => if (s.chair c).settle.isSome then becomePresent c s else s) s)

/-- The effects of a grace expiry, in the order of R82: a RELEASED chair becomes ABSENT, the latch is cleared, a held loader and then a
handover that targets the chair are lost, and a chair that was READY becomes IDLE. -/
def loseGrace (c : ChairId) (s : State) : State :=
  let s := s.modChair c fun x =>
    { x with
      grace := none
      presence := match x.presence with
        | .released => .absent
        | p => p
      latch := false }
  let s := match s.heldSlot c with
    | some i => dropHolder i .absent s
    | none => s
  let s := match s.targetSlot c with
    | some i => abandon i .targetAbsent s
    | none => s
  if (s.chair c).state = .ready then s.setChairState c .idle else s

/-- GRACE_EXPIRY (R17, R50, R51, R82). -/
def execGraceExpiry (c : ChairId) (s : State) : Host.Outcome State Fault Refusal :=
  .next (event (fun s => if (s.chair c).grace.isSome then loseGrace c s else s) s)

/-- The effects of a staleness expiry: the timer stops, and a PRESENT or SETTLING chair is released with STALE set (R81). -/
def goStale (c : ChairId) (s : State) : State :=
  let s := s.modChair c fun x => { x with staleness := none }
  match (s.chair c).presence with
  | .present | .settling => letGo c (s.raise (.chair c) .stale)
  | .released | .absent => s

/-- STALENESS_EXPIRY (R81). -/
def execStalenessExpiry (c : ChairId) (s : State) : Host.Outcome State Fault Refusal :=
  .next (event (fun s => if (s.chair c).staleness.isSome then goStale c s else s) s)

/-- SILENCE_EXPIRY (R87, R89, R91). -/
def execSilenceExpiry (p : Port) (s : State) : Host.Outcome State Fault Refusal :=
  .next (event (fun s => if (s.port p).silence.isSome then goOffline p s else s) s)

/-- PORT_FRAME_DEPART (R190): the frame at the head of the port's queue is removed and its transmission begins. An empty queue has no
frame to send (DESIGN CHOICE, log entry 20). -/
def execPortFrameDepart (p : Port) (s : State) : Host.Outcome State Fault Refusal :=
  .next (event (fun s =>
    match (s.port p).queue with
    | [] => s
    | f :: q => s.modPort p fun r => { r with queue := q, sending := portFrameBytes f }) s)

end Sys2Proof.Machine
end

