-- ==== Sys2Proof/Machine/ChairRequests.lean ====
section
/-! DEFINITION. The immediate chair requests READY, UNREADY and PARK (R15, R76, R169). -/

namespace Sys2Proof.Machine

/-- READY from a PRESENT chair: the latch is set, DONE, and an IDLE chair becomes READY (R76). -/
def becomeReady (b : Sender) (c : ChairId) (s : State) : State :=
  let s := s.modChair c fun x => { x with latch := true }
  let s := reply b .ready .done .nothing s
  if (s.chair c).state = .idle then (s.setChairState c .ready).due else s

/-- READY (R76). -/
def execReady (b : Sender) (s : State) : Host.Outcome State Fault Refusal :=
  .next (event (takeRequest b .ready .nothing (fromChair b .ready .nothing fun c s =>
    if s.isPresent c then becomeReady b c s else reply b .ready .notPresent .nothing s)) s)

/-- UNREADY (R76): the latch is cleared whatever the presence, and a READY chair becomes IDLE. -/
def execUnready (b : Sender) (s : State) : Host.Outcome State Fault Refusal :=
  .next (event (takeRequest b .unready .nothing (fromChair b .unready .nothing fun c s =>
    let s := s.clearLatch c
    let s := if (s.chair c).state = .ready then s.setChairState c .idle else s
    reply b .unready .done .nothing s)) s)

/-- The ramp record a PARK leaves: RUNDOWN from the applied values, when the holder is PRESENT and they are not all 0 (R7, R15). -/
def parkRamp (e : Entry) (present : Bool) (pol : Policy) : Option Ramp :=
  if present && e.applied != Axes.neutral then some (startRamp .rundown e.applied pol.rundownRamp) else none

/-- PARK by the holder: the entry becomes FREE, the chair is released without LOST, and DONE is answered (R14, R15). A record on the
entry, which an empty request slot excludes, would be abandoned with SOURCE_LOST (DESIGN CHOICE, log entry 16). -/
def parkLoader (b : Sender) (slot : Byte) (c : ChairId) (i : Slot) (s : State) : State :=
  let ramp := parkRamp (s.entry i) (s.isPresent c) s.policy
  let s := leave i .sourceLost none (fun e => { Entry.vacate .free e with ramp := ramp }) s
  reply b .park .done (.slot slot) s

/-- PARK (R15). -/
def execPark (b : Sender) (slot : Byte) (s : State) : Host.Outcome State Fault Refusal :=
  .next (event (takeRequest b .park (.slot slot) (fromChair b .park (.slot slot) fun c =>
    withSlot b .park slot fun i s =>
      if (s.entry i).heldBy c then parkLoader b slot c i s else reply b .park .notHolder (.slot slot) s)) s)

end Sys2Proof.Machine
end

