-- ==== Sys2Proof/Machine/Channels.lean ====
section
/-! DEFINITION. Channels: what a descriptor declares (R139), its validation (R140), gains and scaling (R108, R141), the packing
and unpacking of channel payloads (R111, R155). -/

namespace Sys2Proof.Machine

/-- The channel functions, in the order of R139: the OUT functions are numbered 0 to 7 and the IN functions 8 to 13 (R186). -/
inductive Function where
  | steer | travel | boom | bucket | gear | parkBrake | horn | lights | phase | flags | speed | zone | faults | aux
  deriving DecidableEq, Repr

inductive Direction where
  | out | inn
  deriving DecidableEq, Repr

inductive ChannelKind where
  | signed | unsigned | discrete
  deriving DecidableEq, Repr

def functions : List Function :=
  [.steer, .travel, .boom, .bucket, .gear, .parkBrake, .horn, .lights, .phase, .flags, .speed, .zone, .faults, .aux]

/-- The function, direction and kind a descriptor's bytes name; none where they name nothing (R138, R140, R186). -/
def functionOf (b : Byte) : Option Function := functions[b.toNat]?
def directionOf (b : Byte) : Option Direction := [Direction.out, Direction.inn][b.toNat]?
def kindOf (b : Byte) : Option ChannelKind := [ChannelKind.signed, ChannelKind.unsigned, ChannelKind.discrete][b.toNat]?

/-- The direction R139 gives a function. -/
def Function.direction : Function → Direction
  | .steer | .travel | .boom | .bucket | .gear | .parkBrake | .horn | .lights => .out
  | .phase | .flags | .speed | .zone | .faults | .aux => .inn

/-- Whether every admitted loader must declare the function (R139). -/
def Function.required : Function → Bool
  | .horn | .lights | .aux => false
  | _ => true

def Function.analog : Function → Bool
  | .steer | .travel | .boom | .bucket => true
  | _ => false

/-- The kinds R139 allows a function. -/
def Function.allows : Function → ChannelKind → Bool
  | .steer, k | .travel, k | .boom, k | .bucket, k => k != .discrete
  | .gear, k | .parkBrake, k | .horn, k | .lights, k => k == .discrete
  | .phase, k | .flags, k | .speed, k | .faults, k => k != .signed
  | .zone, _ | .aux, _ => true

/-- The least size R139 gives a function's channel. -/
def Function.minSize : Function → Nat
  | .gear => 2
  | .phase => 3
  | .flags => 8
  | .speed => 9
  | .zone => 3
  | .faults => 2
  | _ => 1

def isOut (d : Descriptor) : Bool := directionOf d.direction == some .out
def isIn (d : Descriptor) : Bool := directionOf d.direction == some .inn
def bitsOf (d : Descriptor) : Nat := d.size.toNat

/-- The total size of the descriptors of one direction (R140, R141). -/
def totalBits (ds : List Descriptor) : Nat := (ds.map bitsOf).sum

def outChannels (ds : List Descriptor) : List Descriptor := ds.filter isOut
def inChannels (ds : List Descriptor) : List Descriptor := ds.filter isIn

/-- The payload length in bytes: the total of the sizes divided by 8 and rounded up (R111, R141). -/
def payloadBytes (ds : List Descriptor) : Nat := (totalBits ds + 7) / 8

/-! ### Validation (R140) -/

/-- The least and the greatest number a channel represents (R139). -/
def lowest (k : ChannelKind) (size : Nat) : Int :=
  match k with
  | .signed => -(2 ^ (size - 1) : Nat)
  | .unsigned | .discrete => 0

def highest (k : ChannelKind) (size : Nat) : Int :=
  match k with
  | .signed => (2 ^ (size - 1) : Nat) - 1
  | .unsigned | .discrete => (2 ^ size : Nat) - 1

/-- Whether the raw values of an analog OUT channel are ordered and representable (R140). -/
def analogRangeValid (d : Descriptor) (k : ChannelKind) : Bool :=
  decide (d.rawMin.toInt ≤ d.rawNeutral.toInt) && decide (d.rawNeutral.toInt ≤ d.rawMax.toInt) &&
    decide (lowest k (bitsOf d) ≤ d.rawMin.toInt) && decide (d.rawMax.toInt ≤ highest k (bitsOf d))

/-- Whether one descriptor is valid by itself (step 2 of R140): its bytes name a function, a direction and a kind, its size is 1 to
16 and not below the function's minimum, the direction and the kind are the function's, and an analog range is valid. -/
def descriptorValid (d : Descriptor) : Bool :=
  match functionOf d.function, directionOf d.direction, kindOf d.kind with
  | some f, some dir, some k =>
    decide (1 ≤ bitsOf d) && decide (bitsOf d ≤ 16) && dir == f.direction && f.allows k && decide (f.minSize ≤ bitsOf d) &&
      (!f.analog || analogRangeValid d k)
  | _, _, _ => false

/-- How often a function is declared. -/
def declared (f : Function) (ds : List Descriptor) : Nat := ds.countP fun d => functionOf d.function == some f

/-- Whether no function other than AUX is declared twice and AUX not three times (R140). -/
def repeatsValid (ds : List Descriptor) : Bool :=
  functions.all fun f => decide (declared f ds ≤ (if f = .aux then 2 else 1))

/-- Validation of a complete descriptor list: the cause of the first step that fails, none when every check passes (R140). -/
def validate (ds : List Descriptor) (period watchdog : Nat) : Option Code :=
  if 128 < totalBits (outChannels ds) || 128 < totalBits (inChannels ds) then some .descriptorOversize
  else if !ds.all descriptorValid || !repeatsValid ds || watchdog < 2 * period then some .descriptorInvalid
  else if !functions.all (fun f => !f.required || decide (1 ≤ declared f ds)) then some .descriptorIncomplete
  else none

/-! ### Gains and scaling (R108) -/

/-- The gains of an analog channel: floors of (raw_max − raw_neutral) × 65536 / 2047 and (raw_neutral − raw_min) × 65536 / 2048. -/
def gainsOf (rawMin rawNeutral rawMax : Int) : Gain :=
  { pos := (rawMax - rawNeutral).toNat * 65536 / 2047, neg := (rawNeutral - rawMin).toNat * 65536 / 2048 }

/-- The descriptor of an OUT function in a list. -/
def findFunction (f : Function) (ds : List Descriptor) : Option Descriptor :=
  ds.find? fun d => functionOf d.function == some f

/-- The gains of an analog function of a descriptor list; zero gains for a function not declared, which validation excludes. -/
def gainsFor (f : Function) (ds : List Descriptor) : Gain :=
  match findFunction f ds with
  | some d => gainsOf d.rawMin.toInt d.rawNeutral.toInt d.rawMax.toInt
  | none => { pos := 0, neg := 0 }

/-- What passing validation fixes: the gains and the payload lengths (R141). -/
def admissionOf (ds : List Descriptor) : Admitted :=
  { steer := gainsFor .steer ds, travel := gainsFor .travel ds, boom := gainsFor .boom ds, bucket := gainsFor .bucket ds,
    outBytes := payloadBytes (outChannels ds), inBytes := payloadBytes (inChannels ds) }

/-- The gain of an analog function. -/
def Admitted.gain (a : Admitted) : Function → Option Gain
  | .steer => some a.steer
  | .travel => some a.travel
  | .boom => some a.boom
  | .bucket => some a.bucket
  | _ => none

/-- The raw value of an axis value in counts (R108). -/
def scale (g : Gain) (rawNeutral n : Int) : Int :=
  if 0 ≤ n then rawNeutral + ((n.natAbs * g.pos + 32768) / 65536 : Nat)
  else rawNeutral - ((n.natAbs * g.neg + 32768) / 65536 : Nat)

/-! ### Packing and unpacking (R111, R155) -/

/-- The low `size` bits of a value, as an unsigned number: two's complement for a negative value. -/
def fieldBits (size : Nat) (v : Int) : Nat := (v % (2 ^ size : Nat)).toNat

/-- The payload as one string of bits read as a number, bit 0 first: each channel starts at the bit after the last bit of the one
before it. -/
def packNumber : List (Nat × Int) → Nat
  | [] => 0
  | (size, v) :: rest => fieldBits size v + 2 ^ size * packNumber rest

/-- The `n` bytes of a number, the byte of bit 0 first. -/
def payloadOf : Nat → Nat → List Byte
  | 0, _ => []
  | n + 1, x => BitVec.ofNat 8 x :: payloadOf n (x / 256)

/-- The number a payload's bits spell, bit 0 the least significant bit of the first byte. -/
def numberOf : List Byte → Nat
  | [] => 0
  | b :: bs => b.toNat + 256 * numberOf bs

/-- The values of the channels of a payload, in list order: two's complement for a SIGNED channel, unsigned otherwise. -/
def unpack : List Descriptor → Nat → List (Descriptor × Int)
  | [], _ => []
  | d :: ds, x =>
    let raw : Nat := x % 2 ^ bitsOf d
    let v : Int := if kindOf d.kind = some .signed && 2 ^ (bitsOf d - 1) ≤ raw then (raw : Int) - (2 ^ bitsOf d : Nat) else raw
    (d, v) :: unpack ds (x / 2 ^ bitsOf d)

/-- The value of an IN function among the unpacked channels; 0 for one not declared, which validation excludes. -/
def valueOf (f : Function) (vs : List (Descriptor × Int)) : Int :=
  match vs.find? fun p => functionOf p.1.function == some f with
  | some p => p.2
  | none => 0

/-- Whether a reported zone value lies outside 0 to 7 (R125). -/
def zoneOutOfRange (v : Int) : Bool := v < 0 || 7 < v

/-- The zone stored for a reported value: out of range is stored as 0 (R125, R155). -/
def zoneReported (v : Int) : ZoneId :=
  if h : v.toNat < 8 then (if v < 0 then 0 else ⟨v.toNat, h⟩) else 0

/-- The loader status a TELEMETRY's channels give, field by field (R155). -/
def statusOf (vs : List (Descriptor × Int)) : LoaderStatus :=
  { phase := (phaseOf (valueOf .phase vs).toNat).getD 7
    flags := BitVec.ofInt 8 (valueOf .flags vs)
    speed := min 400 (valueOf .speed vs).toNat
    zone := zoneReported (valueOf .zone vs)
    faults := BitVec.ofInt 16 (valueOf .faults vs)
    aux := (vs.filter fun p => functionOf p.1.function == some .aux).map (·.2) }

end Sys2Proof.Machine
end

