-- ==== Sys2Proof/Machine/Synthesis.lean ====
section
/-! DEFINITION. The command builder (chapter 5): mode and sources, ramp, travel cap, applied values, scaling and packing. -/

namespace Sys2Proof.Machine

/-! ### The ramp (R103, R104) -/

/-- A quotient rounded to the nearest integer, a half toward zero (R103). -/
def roundQuotient (n : Int) (d : Nat) : Int :=
  let q : Nat := (2 * n.natAbs + d - 1) / (2 * d)
  if n < 0 then -(q : Int) else q

/-- The ramp's output for one axis: S + (T − S) × k / K (R103). -/
def rampAxis (start target : Int) (progress length : Nat) : Int :=
  start + roundQuotient ((target - start) * progress) length

def Ramp.output (r : Ramp) (target : Axes) : Axes :=
  { steer := rampAxis r.start.steer target.steer r.progress r.length
    travel := rampAxis r.start.travel target.travel r.progress r.length
    boom := rampAxis r.start.boom target.boom r.progress r.length
    bucket := rampAxis r.start.bucket target.bucket r.progress r.length }

/-- The ramp record after a frame computed through it: k incremented, or the record removed at k = K (R104). -/
def Ramp.advance (r : Ramp) : Option Ramp :=
  if r.progress < r.length then some { r with progress := r.progress + 1 } else none

/-! ### The travel cap (R105) -/

/-- Whether a TRAVEL is beyond a zone's cap. -/
def beyondCap (z : Zone) (travel : Int) : Bool := decide (z.cap < travel.natAbs)

/-- TRAVEL after the cap stage: beyond the cap c it is c − b with the sign it had. -/
def capTravel (z : Zone) (travel : Int) : Int :=
  if beyondCap z travel then (if travel < 0 then -((z.cap - z.backoff : Nat) : Int) else ((z.cap - z.backoff : Nat) : Int))
  else travel

/-! ### The sources of a frame (R95) -/

/-- What enters the later stages of a frame with channels: the mode, the axes after the ramp stage, the discrete values, and whether
the axes came through a ramp record. -/
structure FrameSource where
  mode      : Mode
  axes      : Axes
  gear      : Gear
  parkBrake : Bool
  horn      : Bool
  lights    : Bool
  ramped    : Bool
  deriving DecidableEq, Repr

/-- The braked neutral HOLD frame (R98, R100). -/
def holdSource (e : Entry) : FrameSource :=
  { mode := .hold, axes := Axes.neutral, gear := .n, parkBrake := true, horn := false, lights := e.lights, ramped := false }

/-- The HOLD frame of a rundown: the ramp toward 0 with the brake released (R99). -/
def rundownSource (e : Entry) (r : Ramp) : FrameSource :=
  { holdSource e with axes := r.output Axes.neutral, parkBrake := false, ramped := true }

/-- The AUTO frame: TRAVEL is the zone's cap, the speed ceiling (R101). -/
def autoSource (e : Entry) (z : Zone) : FrameSource :=
  { holdSource e with mode := .auto, axes := { Axes.neutral with travel := z.cap }, parkBrake := false }

/-- The DRIVE frame from the holder's held sample, through the ramp record if there is one (R102, R103). -/
def driveSource (m : Sample) (ramp : Option Ramp) : FrameSource :=
  { mode := .drive
    axes := match ramp with
      | some r => r.output m.axes
      | none => m.axes
    gear := m.gear, parkBrake := m.brakeReq, horn := m.horn, lights := m.lights, ramped := ramp.isSome }

/-- The record of the loader's zone; for an entry in no zone, which builds no frame with channels, a closed zone of cap 0 (log
entry 15). -/
def State.loaderZone (s : State) (i : Slot) : Zone :=
  match (s.entry i).zone? with
  | some z => s.zone z
  | none => { state := .closed, cap := 0, backoff := 0, allowed := 0#6 }

/-- The source of the frame of slot `i` by the entry's state and the holder's presence; none for a frame without channels (R95). -/
def frameSource (i : Slot) (s : State) : Option FrameSource :=
  let e := s.entry i
  match e.state with
  | .empty | .discovering | .refused => none
  | .free =>
    match e.ramp with
    | some r => some (rundownSource e r)
    | none => some (holdSource e)
  | .auto => some (autoSource e (s.loaderZone i))
  | .held =>
    match e.holder with
    | some (.chair c) => if s.isPresent c then some (driveSource (s.chair c).sample e.ramp) else some (holdSource e)
    | _ => some (holdSource e)
  | .locked | .linkLost | .tripped => some (holdSource e)

/-! ### Scaling and packing (R108 to R111) -/

/-- The raw value of one OUT channel (R108, R110). -/
def channelValue (a : Admitted) (axes : Axes) (src : FrameSource) (d : Descriptor) : Int :=
  match functionOf d.function with
  | some .steer => scale a.steer d.rawNeutral.toInt axes.steer
  | some .travel => scale a.travel d.rawNeutral.toInt axes.travel
  | some .boom => scale a.boom d.rawNeutral.toInt axes.boom
  | some .bucket => scale a.bucket d.rawNeutral.toInt axes.bucket
  | some .gear => match src.gear with
    | .n => 0
    | .f => 1
    | .r => 2
  | some .parkBrake => if src.parkBrake then 1 else 0
  | some .horn => if src.horn then 1 else 0
  | some .lights => if src.lights then 1 else 0
  | _ => 0

/-- The channel payload of a frame: the OUT channels in descriptor order (R111). -/
def packFrame (x : Context) (axes : Axes) (src : FrameSource) : List Byte :=
  match x.admitted with
  | none => []
  | some a =>
    payloadOf a.outBytes
      (packNumber ((outChannels x.descriptors).map fun d => (bitsOf d, channelValue a axes src d)))

/-! ### The frame (R94) -/

/-- The axes of a frame after the cap stage. -/
def cappedAxes (z : Zone) (a : Axes) : Axes := { a with travel := capTravel z a.travel }

/-- The status a STATUS frame shows; blank values for an absent status, which no HELD entry has (DESIGN CHOICE, log entry 15). -/
def shownStatus (e : Entry) : LoaderStatus :=
  e.status.getD { phase := 0, flags := 0#8, speed := 0, zone := 0, faults := 0#16, aux := [] }

/-- The STATUS frame of a HELD entry to the holding chair (R113). -/
def sendStatus (i : Slot) (axes : Axes) (capped ramped : Bool) (s : State) : State :=
  match (s.entry i).state, (s.entry i).holder with
  | .held, some (.chair c) =>
    s.send (.chair c)
      (.status { slot := i, status := shownStatus (s.entry i), applied := axes, capped := capped, rampActive := ramped })
  | _, _ => s

/-- The command builder at a cycle expiry of slot `i`, stages 1 to 8 of R94. A frame through a ramp record advances it (R104); the
applied values and LIGHTS are those of the frame (R107). -/
def buildCommand (i : Slot) (s : State) : State :=
  match (s.entry i).state with
  | .empty => s
  | _ =>
    match frameSource i s with
    | none => s.queueCommand i .stop []
    | some src =>
      let z := s.loaderZone i
      let axes := cappedAxes z src.axes
      let s := s.modEntry i fun e =>
        { e with
          applied := axes
          lights := src.lights
          ramp := if src.ramped then e.ramp.bind Ramp.advance else e.ramp }
      let s := s.queueCommand i src.mode (packFrame (s.context i) axes src)
      sendStatus i axes (beyondCap z src.axes.travel) src.ramped s

end Sys2Proof.Machine
end

