-- ==== Sys2Proof/Machine/Discovery.lean ====
section
/-! DEFINITION. The shared operations of the admission unit and the fleet port: binding (R132), discovery start (R135), refusal
(R143), trips (R160), link loss and return (R157, R158), zone changes (R124) and the taking of a TELEMETRY (R22, R155). -/

namespace Sys2Proof.Machine

/-! ### Discovery start and refusal -/

/-- A discovery context at discovery start: cleared, in READING_ID with READ_ID outstanding (R135). -/
def contextAtStart : Context := { Context.cleared with stage := some .readingId, read := some .readId }

/-- The fleet port's items at discovery start: the cycle timer at 50 ms, the miss counter 0, the heard mark clear, the forget timer
stopped (R135, R150, R156). -/
def fleetAtStart : FleetSlot := { cycle := some Config.discoveryPeriodMs, heard := false, misses := 0, forget := none }

/-- Steps 2 to 5 of discovery start, after the entry's own effects (R135). -/
def beginReads (i : Slot) (s : State) : State :=
  (((s.setContext i contextAtStart).setFleetSlot i fleetAtStart).withdrawCommand i).queueRead i .readId

/-- Discovery start on slot `i`: the entry leaves its state in the order of R14 with cause LOADER_RESTART and becomes DISCOVERING with
the values of R23, then the context, the timers and the fleet queue as R135 gives. -/
def startDiscovery (i : Slot) (s : State) : State :=
  beginReads i (leave i .loaderRestart (some .loaderRestart) (fun _ => Entry.blank .discovering) s)

/-- Discovery fails on slot `i`: the entry becomes REFUSED, the cause, stage and outstanding read are recorded, the answer timer
stops, a waiting discovery read is withdrawn and REFUSED goes to the service link (R143). -/
def refuse (i : Slot) (cause : Code) (s : State) : State :=
  let x := s.context i
  let why : DiscoveryRefusal := { cause := cause, stage := x.stage.getD .readingId, read := x.read }
  let s := s.modEntry i (Entry.vacate .refused)
  let s := s.setContext i { x with stage := none, read := none, answerTimer := none, refusal := some why }
  (s.withdrawRead i).notify .service (.refused i (s.unitOf i) why)

/-- The next discovery read of slot `i` is placed and outstanding (R137, R138, R152). -/
def sendRead (i : Slot) (r : Read) (f : Context → Context) (s : State) : State :=
  (s.modContext i fun x => { f x with read := some r, answerTimer := none }).queueRead i r

/-! ### Binding (R132) -/

/-- The slot an unbound unit is bound to: the lowest with its used mark clear, failing that the lowest whose entry is EMPTY. -/
def bindingSlot (s : State) : Option Slot :=
  match allSlots.find? fun i => !(s.binding i).used with
  | some i => some i
  | none => allSlots.find? fun i => (s.entry i).state == .empty

/-- A HELLO from an unbound unit: the binding, the ignored-call counter at 0, REBOUND when a binding is replaced, and discovery start;
SLOTS_FULL when no slot can be had (R132). -/
def bindUnit (u : UnitNumber) (s : State) : State :=
  match bindingSlot s with
  | none => s.notify .service (.slotsFull u)
  | some i =>
    let old := s.binding i
    let s := (s.setBinding i { unit := some u, used := true }).setIgnored i 0
    let s := match old.used, old.unit with
      | true, some v => s.notify .service (.rebound i v u)
      | _, _ => s
    startDiscovery i s

/-! ### Trips, link loss, zone events -/

/-- The entry becomes TRIPPED at a TELEMETRY that reports a trip, in the order of R160. -/
def trip (i : Slot) (ls : LoaderStatus) (s : State) : State :=
  let before := s.entry i
  let s := leave i .tripped (some .tripped) (fun e => { Entry.vacate .tripped e with stack := [] }) s
  let s := s.modFleetSlot i fun x => { x with forget := none }
  s.notify .service (.tripped i (s.unitOf i) ls.watchdogTrip ls.estop before.state before.holder)

/-- The entry becomes LINK_LOST, in the order of R157. -/
def loseLink (i : Slot) (s : State) : State :=
  let before := s.entry i
  let s := leave i .linkLost (some .linkLost) (Entry.vacate .linkLost) s
  let s := s.notify .service (.linkLost i (s.unitOf i) before.state before.holder)
  s.modFleetSlot i fun x => { x with forget := some s.policy.forgetTime }

/-- A handover whose chair target is not in the allowed set of the loader's zone is abandoned with NOT_PERMITTED (R53, R54). -/
def testTarget (i : Slot) (s : State) : State :=
  match (s.entry i).handover with
  | some h =>
    match h.target with
    | .chair t => if s.allowedAt i t then s else abandon i .notPermitted s
    | .auto => s
  | none => s

/-- Sets or clears zone-drop pending of slot `i` and queues the ZONE notice to the holder (R122). -/
def setZoneDrop (i : Slot) (c : ChairId) (z : ZoneId) (b : Bool) (s : State) : State :=
  (s.modEntry i fun e => { e with zoneDrop := b }).notify (.chair c) (.zone i z b)

/-- The holder of a HELD entry is tested at a ZONE_SET of its zone: excluded sets the flag if clear, allowed leaves it (R121). -/
def testHolderAtWrite (i : Slot) (z : ZoneId) (s : State) : State :=
  match (s.entry i).state, (s.entry i).holder with
  | .held, some (.chair c) =>
    if !s.allowedAt i c && !(s.entry i).zoneDrop then setZoneDrop i c z true s else s
  | _, _ => s

/-- The holder of a HELD entry is tested at a zone change: excluded sets the flag if clear, allowed clears it if set (R124). -/
def testHolderAtChange (i : Slot) (z : ZoneId) (s : State) : State :=
  match (s.entry i).state, (s.entry i).holder with
  | .held, some (.chair c) =>
    if !s.allowedAt i c && !(s.entry i).zoneDrop then setZoneDrop i c z true s
    else if s.allowedAt i c && (s.entry i).zoneDrop then setZoneDrop i c z false s
    else s
  | _, _ => s

/-- The effects of a ZONE_SET on one entry whose loader is in the zone (step 2 of R118). -/
def zoneWritten (z : ZoneId) (s : State) (i : Slot) : State :=
  if (s.entry i).zone? = some z then
    match (s.entry i).state, (s.zone z).state with
    | .free, .closed | .auto, .closed | .held, .closed => lock i s
    | .locked, .opened => unlock i s
    | .free, .opened | .auto, .opened | .held, .opened => testHolderAtWrite i z (testTarget i s)
    | _, _ => s
  else s

/-- The zone change of a TELEMETRY that reports the new zone `z`; the dispatcher is due for an AUTO entry (R65, R124). -/
def zoneChanged (i : Slot) (z : ZoneId) (s : State) : State :=
  let s := if (s.entry i).state = .auto then s.due else s
  match (s.entry i).state, (s.zone z).state with
  | .free, .closed | .auto, .closed | .held, .closed => lock i s
  | .locked, .opened => unlock i s
  | .free, .opened | .auto, .opened | .held, .opened => testHolderAtChange i z (testTarget i s)
  | _, _ => s

/-- The zone drop: a HELD entry whose flag was set before the TELEMETRY and is still set, at a STATIONARY report (R21, R127). -/
def zoneDropAt (i : Slot) (flagBefore : Bool) (ls : LoaderStatus) (s : State) : State :=
  match (s.entry i).state, (s.entry i).holder with
  | .held, some (.chair c) =>
    if flagBefore && (s.entry i).zoneDrop && ls.stationary then
      (dropHolder i .zoneExit s).notify .service (.zoneDrop i c ls.zone)
    else s
  | _, _ => s

/-! ### TELEMETRY (R22, R142, R155, R158) -/

/-- The examination of a TELEMETRY in FREE, AUTO, HELD or LOCKED after the loader status has been replaced: trip, zone change, gate,
zone drop (R22). `before` is the entry as it stood when the TELEMETRY arrived. -/
def examine (i : Slot) (before : Entry) (ls : LoaderStatus) (s : State) : State :=
  if ls.trips then trip i ls s
  else
    let s := if before.zone? = some ls.zone then s else zoneChanged i ls.zone s
    let s := evaluateGate i s
    zoneDropAt i before.zoneDrop ls s

/-- The state an entry takes by its loader's zone: LOCKED in a CLOSED zone, FREE in an OPEN one (R142, R158). -/
def stateInZone (z : Zone) : EntryState :=
  match z.state with
  | .closed => .locked
  | .opened => .free

/-- Completion of discovery (R142): the stage ends, the entry becomes FREE or LOCKED, and then TRIPPED if a trip is reported. -/
def completeDiscovery (i : Slot) (ls : LoaderStatus) (s : State) : State :=
  let s := s.modContext i fun x => { x with stage := none, read := none, answerTimer := none }
  let s := s.modEntry i (Entry.vacate (stateInZone (s.zone ls.zone)))
  if ls.trips then trip i ls s else s

/-- The return of a LINK_LOST entry: the forget timer stops and the entry becomes TRIPPED, LOCKED or FREE (R158). -/
def returnFromLoss (i : Slot) (ls : LoaderStatus) (s : State) : State :=
  let s := s.modFleetSlot i fun x => { x with forget := none }
  if ls.trips then trip i ls s else s.modEntry i (Entry.vacate (stateInZone (s.zone ls.zone)))

/-- Whether a slot's TELEMETRY is unpacked: in AWAITING_TELEMETRY, FREE, AUTO, HELD, LOCKED, LINK_LOST and TRIPPED (R155). -/
def listens (e : Entry) (x : Context) : Bool :=
  match e.state with
  | .empty | .refused => false
  | .discovering => x.stage == some .awaitingTelemetry
  | .free | .auto | .held | .locked | .linkLost | .tripped => true

/-- What is stored at every TELEMETRY taken: the loader status, ZONE_RANGE for a zone out of range, the heard mark and the miss
counter (R125, R155, R156). -/
def storeStatus (i : Slot) (vs : List (Descriptor × Int)) (s : State) : State :=
  let s := s.modEntry i fun e => { e with status := some (statusOf vs) }
  let s := if zoneOutOfRange (valueOf .zone vs) then s.raise .service .zoneRange else s
  s.modFleetSlot i fun x => { x with heard := true, misses := 0 }

/-- A TELEMETRY from the unit bound to slot `i` (R155). -/
def takeTelemetry (i : Slot) (payload : List Byte) (s : State) : State :=
  let before := s.entry i
  let x := s.context i
  if !listens before x then s
  else if payload.length ≠ (x.admitted.map (·.inBytes)).getD 0 then s.raise .service .fleetFormat
  else
    let vs := unpack (inChannels x.descriptors) (numberOf payload)
    let ls := statusOf vs
    let s := storeStatus i vs s
    match before.state with
    | .discovering => completeDiscovery i ls s
    | .free | .auto | .held | .locked => examine i before ls s
    | .linkLost => returnFromLoss i ls s
    | .empty | .refused | .tripped => s

/-! ### The miss count (R156) -/

/-- Whether a slot's miss counter runs (R149). -/
def countsMisses (e : Entry) (x : Context) : Bool :=
  match e.state with
  | .free | .auto | .held | .locked => true
  | .discovering => x.stage == some .awaitingTelemetry
  | .empty | .refused | .linkLost | .tripped => false

/-- Step 1 of a cycle expiry (R151, R156): the heard mark is examined and cleared, the counter set or incremented, and at miss_limit the
entry becomes LINK_LOST, or REFUSED in AWAITING_TELEMETRY. -/
def countMiss (i : Slot) (s : State) : State :=
  let e := s.entry i
  let f := s.fleetSlot i
  if countsMisses e (s.context i) then
    if f.heard then s.setFleetSlot i { f with heard := false, misses := 0 }
    else
      let s := s.setFleetSlot i { f with misses := f.misses + 1 }
      if s.policy.missLimit ≤ f.misses + 1 then
        if e.state = .discovering then refuse i .noAnswer s else loseLink i s
      else s
  else s.setFleetSlot i { f with heard := false }

end Sys2Proof.Machine
end

