-- ==== Sys2Proof/Machine/Query.lean ====
section
/-! DEFINITION. What a QUERY reads (R26, R73, R92, R129, R148, R170, R172, R187, R188). Nothing here changes the state. -/

namespace Sys2Proof.Machine

/-- The position of a call in the queue, counted from 0 at the head (R73). -/
def callPosition (i : Slot) (q : List Call) : Nat := q.findIdx fun c => c.slot == i

/-- The gain of the channel a descriptor declares, for an analog OUT channel with gains (R148). -/
def gainOf (x : Context) (d : Descriptor) : Option Gain :=
  match x.admitted, functionOf d.function with
  | some a, some f => if f.analog && isOut d then a.gain f else none
  | _, _ => none

/-- The fields of a loader slot, by number (R26, R73, R148, R186). None for a field number the table does not give, or an index above
23 of DESCRIPTOR. STATE outside HELD, where R26 gives no halted and no zone-drop pending, carries both as no (DESIGN CHOICE, log
entry 31). -/
def loaderField (i : Slot) (field index : Byte) (s : State) : Option Content :=
  let e := s.entry i
  let x := s.context i
  match field.toNat with
  | 0 => some (.entryState e.state (s.halted i) (e.state == .held && e.zoneDrop))
  | 1 => some (.holder e.holder)
  | 2 => some (.handover e.handover)
  | 3 => some (.stack e.stack)
  | 4 => some (.status e.status)
  | 5 => some (.applied e.applied e.lights e.ramp)
  | 6 => some (.callOf (s.ignoredCalls i) ((s.findCall i).map fun c => (callPosition i s.calls, c)))
  | 7 =>
    some (.unit (s.binding i).unit (s.binding i).used (if e.state = .discovering then x.stage else none)
      (if e.state = .discovering then x.read else none) (if e.state = .refused then x.refusal else none))
  | 8 =>
    some (.name (match x.name, x.period, x.watchdog with
      | some n, some p, some w => some (n, p, w)
      | _, _, _ => none))
  | 9 =>
    if index.toNat ≤ 23 then some (.descriptor (x.descriptors[index.toNat]?.map fun d => (d, gainOf x d))) else none
  | _ => none

/-- The relation of a chair to a loader (R92). -/
def chairLoader (c : ChairId) (s : State) : ChairLoader :=
  match (s.chair c).state with
  | .driving =>
    match s.heldSlot c with
    | some i => .driving i (s.halted i)
    | none => .none
  | .offered | .engaging =>
    match s.targetSlot c with
    | some i =>
      match (s.entry i).handover with
      | some h => .target i h.kind h.phase
      | none => .none
    | none => .none
  | .offline | .idle | .ready => .none

/-- The fields of a chair, by number (R92, R186). -/
def chairField (c : ChairId) (field : Byte) (s : State) : Option Content :=
  let x := s.chair c
  match field.toNat with
  | 0 => some (.chairState x.state x.latch)
  | 1 => some (.presence x.presence x.grace.isSome x.sample)
  | 2 => some (.loader (chairLoader c s))
  | 3 => some (.flags x.port.flags)
  | 4 => some (.errorCount x.port.errors)
  | _ => none

/-- The fields of the service port, by number (R170, R186). -/
def serviceField (field : Byte) (s : State) : Option Content :=
  match field.toNat with
  | 3 => some (.flags s.service.port.flags)
  | 4 => some (.errorCount s.service.port.errors)
  | _ => none

/-- The loaders whose loader status reports a zone, in slot order (R129). -/
def zoneItems (z : ZoneId) (s : State) : List ZoneItem :=
  (allSlots.filter fun i => (s.entry i).zone? == some z).map fun i =>
    { slot := i, state := (s.entry i).state, holder := (s.entry i).holder,
      zoneDrop := (s.entry i).state == .held && (s.entry i).zoneDrop }

/-- What a QUERY reads, by target type, target number, field and index; none where R170 gives FIELD_ERROR. The number and field bytes
that R170 gives no use are not read (R186; DEDUCED, log entry 10). -/
def queryContent (target number field index : Byte) (s : State) : Option Content :=
  match target.toNat with
  | 0 =>
    match slotOf number with
    | some i => loaderField i field index s
    | none => none
  | 1 =>
    match chairOf number with
    | some c => chairField c field s
    | none => none
  | 2 => serviceField field s
  | 3 => some (.queue s.pointer s.calls)
  | 4 => (zoneOf number).map fun z => .zone (s.zone z) (zoneItems z s)
  | 5 => (policyFieldOf field).map fun f => .policy f (s.policy.value f)
  | _ => none

end Sys2Proof.Machine
end

