-- ==== Sys2Proof/Machine/ConsoleRequests.lean ====
section
/-! DEFINITION. QUERY and ACK, which any console sends, and the supervisor's ZONE_SET, POLICY_SET, FORCE_FREE and LOADER_RESTART
(chapters 1, 6, 7 and 9). -/

namespace Sys2Proof.Machine

/-- QUERY (R170): it reads one field and changes nothing it reads. -/
def execQuery (b : Sender) (target number field index : Byte) (s : State) : Host.Outcome State Fault Refusal :=
  .next (event (takeRequest b .query .nothing fun s =>
    match queryContent target number field index s with
    | some content => reply b .query .done content s
    | none => fieldError b .query .nothing s) s)

/-- The clearing of an ACK: the named flags, and the error count on the choice (R175). -/
def PortRegs.acknowledge (flags : Half) (clearCount : Bool) (p : PortRegs) : PortRegs :=
  { p with flags := p.flags &&& ~~~flags, errors := if clearCount then 0 else p.errors }

/-- ACK (R175): the answer shows the flags and the count after the clearing. -/
def execAck (b : Sender) (flags : Half) (clearCount : Bool) (s : State) : Host.Outcome State Fault Refusal :=
  .next (event (takeRequest b .ack .nothing fun s =>
    let s := s.modPort b.port (·.acknowledge flags clearCount)
    reply b .ack .done (.acknowledged (s.port b.port).flags (s.port b.port).errors) s) s)

/-- ZONE_SET of zone `z`: the record, the entries of the zone in slot order, the DONE answer, and the dispatcher (R117, R118). -/
def writeZone (b : Sender) (z : ZoneId) (r : Zone) (s : State) : State :=
  let s := s.setZone z r
  let s := allSlots.foldl (zoneWritten z) s
  reply b .zoneSet .done (.zoneStored z r) s

/-- ZONE_SET (R117, R118, R176): the dispatcher runs for every ZONE_SET that reaches the zone plan. -/
def execZoneSet (b : Sender) (zone : Byte) (state : ZoneState) (cap backoff : Half) (allowed : ChairSet) (s : State) :
    Host.Outcome State Fault Refusal :=
  .next (event (takeRequest b .zoneSet .nothing fun s =>
    match zoneOf zone with
    | some z => (writeZone b z (zoneStored state cap backoff allowed) s).due
    | none => (fieldError b .zoneSet .nothing s).due) s)

/-- POLICY_SET (R173): it acts on nothing in flight (R174). -/
def execPolicySet (b : Sender) (field : Byte) (value : PolicyValue) (s : State) : Host.Outcome State Fault Refusal :=
  .next (event (takeRequest b .policySet .nothing fun s =>
    match policyFieldOf field with
    | none => fieldError b .policySet .nothing s
    | some f =>
      match s.policy.write f value with
      | none => fieldError b .policySet .nothing s
      | some p => reply b .policySet .done (.policyStored f (p.value f) p.writeCount) { s with policy := p }) s)

/-- FORCE_FREE of an entry in HELD, AUTO or FREE (R16). -/
def forceEntry (i : Slot) (s : State) : State :=
  leave i .forced (some .forced) (fun e => { Entry.vacate .free e with stack := [] }) s

/-- FORCE_FREE (R16). -/
def execForceFree (b : Sender) (slot : Byte) (s : State) : Host.Outcome State Fault Refusal :=
  .next (event (takeRequest b .forceFree (.slot slot) (withSlot b .forceFree slot fun i s =>
    match (s.entry i).state with
    | .held | .auto | .free => reply b .forceFree .done (.slot slot) (forceEntry i s)
    | _ => reply b .forceFree .notAvailable (.slot slot) s)) s)

/-- LOADER_RESTART of an entry in TRIPPED, REFUSED or LINK_LOST: the RESTART frame, then discovery start, then DONE (R97, R145). READ_ID is
behind the RESTART frame unless it takes the place of a stale read of the slot (DESIGN CHOICE, log entry 30). -/
def execLoaderRestart (b : Sender) (slot : Byte) (s : State) : Host.Outcome State Fault Refusal :=
  .next (event (takeRequest b .loaderRestart (.slot slot) (withSlot b .loaderRestart slot fun i s =>
    match (s.entry i).state with
    | .tripped | .refused | .linkLost =>
      reply b .loaderRestart .done (.slot slot) (startDiscovery i (s.queueRestart i))
    | _ => reply b .loaderRestart .notAvailable (.slot slot) s)) s)

end Sys2Proof.Machine
end

