-- ==== Sys2Proof/Machine/FleetEvents.lean ====
section
/-! DEFINITION. The events of the fleet link: the frames of the loaders, the timers of the slots, GATEWAY_READY and the departure of
fleet frames (chapters 3, 7 and 8). -/

namespace Sys2Proof.Machine

/-- A frame of a kind other than HELLO, sorted to the slot its unit number is bound to; an unbound unit sets UNKNOWN_UNIT (R154). -/
def fromUnit (u : UnitNumber) (act : Slot → State → State) (s : State) : State :=
  match s.slotOfUnit u with
  | some i => act i s
  | none => s.raise .service .unknownUnit

/-! ### Admission (R131 to R146) -/

/-- HELLO (R131 to R133): unit 0 is a format error; a bound unit restarts discovery on its slot; an unbound one is bound. -/
def execHello (u : UnitNumber) (s : State) : Host.Outcome State Fault Refusal :=
  .next (event (fun s =>
    if u = 0#32 then s.raise .service .fleetFormat
    else
      match s.slotOfUnit u with
      | some i => startDiscovery i s
      | none => bindUnit u s) s)

/-- An ID answer in READING_ID (R137). -/
def takeId (i : Slot) (name : LoaderName) (period watchdog : Half) (s : State) : State :=
  sendRead i (.readEntry 0#8)
    (fun x =>
      { x with
        stage := some .readingEntries
        name := some name
        period := some (clampTo Config.minPeriodMs Config.maxPeriodMs period.toNat)
        watchdog := some watchdog.toNat }) s

/-- ID_ANSWER (R137); ignored in any stage but READING_ID (R144). -/
def execIdAnswer (u : UnitNumber) (name : LoaderName) (period watchdog : Half) (s : State) :
    Host.Outcome State Fault Refusal :=
  .next (event (fromUnit u fun i s =>
    if (s.context i).stage = some .readingId then takeId i name period watchdog s else s) s)

/-- Whether a descriptor would be the thirteenth of its declared direction or the twenty-fifth of the list (R138). -/
def wouldOverflow (d : Descriptor) (ds : List Descriptor) : Bool :=
  decide (24 ≤ ds.length) || (isOut d && decide (12 ≤ (outChannels ds).length)) ||
    (isIn d && decide (12 ≤ (inChannels ds).length))

/-- An ENTRY answer with a descriptor: refused when it would overflow, otherwise appended, and the next read is sent (R138). -/
def takeDescriptor (i : Slot) (index : Byte) (d : Descriptor) (s : State) : State :=
  if wouldOverflow d (s.context i).descriptors then refuse i .descriptorOversize s
  else sendRead i (.readEntry (index + 1#8)) (fun x => { x with descriptors := x.descriptors ++ [d] }) s

/-- An ENTRY answer with END: the list is validated, and the gains and payload lengths are fixed, or the entry is refused (R140,
R141). -/
def takeEnd (i : Slot) (s : State) : State :=
  let x := s.context i
  match validate x.descriptors (x.period.getD 0) (x.watchdog.getD 0) with
  | some cause => refuse i cause s
  | none =>
    s.setContext i
      { x with stage := some .awaitingTelemetry, read := none, answerTimer := none, admitted := some (admissionOf x.descriptors) }

/-- ENTRY_ANSWER (R138); ignored in any stage but READING_ENTRIES, and for an index other than the outstanding read's (R144). -/
def execEntryAnswer (u : UnitNumber) (index : Byte) (descriptor : Option Descriptor) (s : State) :
    Host.Outcome State Fault Refusal :=
  .next (event (fromUnit u fun i s =>
    if (s.context i).stage = some .readingEntries ∧ (s.context i).read = some (.readEntry index) then
      match descriptor with
      | some d => takeDescriptor i index d s
      | none => takeEnd i s
    else s) s)

/-- ANSWER_TIMER_EXPIRY (R136): the entry becomes REFUSED with cause NO_ANSWER. -/
def execAnswerTimerExpiry (i : Slot) (s : State) : Host.Outcome State Fault Refusal :=
  .next (event (fun s => if (s.context i).answerTimer.isSome then refuse i .noAnswer s else s) s)

/-! ### Calls (R59 to R62) -/

/-- A CALL frame outside AUTO is ignored and counted, saturating at 255 (R62). -/
def ignoreCall (i : Slot) (s : State) : State := s.setIgnored i (min 255 (s.ignoredCalls i + 1))

/-- A new call for slot `i`: attached to the entry's record and reserved if there is one, otherwise unreserved, and the dispatcher is
due (R59). -/
def createCall (i : Slot) (r : CallReason) (s : State) : State :=
  let attach := (s.entry i).handover.isSome
  let s := { s with
    calls := insertCall { slot := i, reason := r, reserved := attach, declined := 0#6, unserved := 0 } s.calls }
  if attach then s.modEntry i fun e => { e with handover := e.handover.map fun h => { h with callAttached := true } }
  else s.due

/-- A CALL for a loader that has call `c`: a higher priority raises the reason and moves the call to the tail of its new class; any
other has no effect (R60). -/
def raiseCall (c : Call) (r : CallReason) (s : State) : State :=
  if callClass r < callClass c.reason then
    let s := { s with calls := insertCall { c with reason := r } (s.calls.filter fun d => d.slot != c.slot) }
    if c.reserved then s else s.due
  else s

/-- CALL (R59, R60, R62). -/
def execCall (u : UnitNumber) (r : CallReason) (s : State) : Host.Outcome State Fault Refusal :=
  .next (event (fromUnit u fun i s =>
    if (s.entry i).state = .auto then
      match s.findCall i with
      | some c => raiseCall c r s
      | none => createCall i r s
    else ignoreCall i s) s)

/-- CALL_CLEAR (R48, R61, R62): a reserved call takes its handover with it. -/
def execCallClear (u : UnitNumber) (s : State) : Host.Outcome State Fault Refusal :=
  .next (event (fromUnit u fun i s =>
    if (s.entry i).state = .auto then
      match s.findCall i with
      | some c =>
        let s := s.removeCall i
        if c.reserved then abandon i .callCleared s else s
      | none => s
    else ignoreCall i s) s)

/-! ### Telemetry and dropped frames (R154, R155) -/

/-- TELEMETRY (R22, R142, R155, R158, R161). -/
def execTelemetry (u : UnitNumber) (payload : List Byte) (s : State) : Host.Outcome State Fault Refusal :=
  .next (event (fromUnit u fun i s => takeTelemetry i payload s) s)

/-- The fleet sticky flag of a dropped frame (R154, R184). -/
def fleetFlag (why : BadFleetFrame) (s : State) : Sticky :=
  match why with
  | .crc => .fleetCrc
  | .framing | .format => .fleetFormat
  | .unknownUnit => .unknownUnit
  | .callReason u => if (s.slotOfUnit u).isSome then .fleetFormat else .unknownUnit

/-- BAD_FLEET_FRAME (R154): the flag on the service port, and nothing at any slot. -/
def execBadFleetFrame (why : BadFleetFrame) (s : State) : Host.Outcome State Fault Refusal :=
  .next (event (fun s => s.raise .service (fleetFlag why s)) s)

/-! ### The timers of a slot (R150, R151, R159) -/

/-- CYCLE_EXPIRY (R151): the miss count, the frame, and the restart of the timer with the stored cycle period or 50 ms. -/
def execCycleExpiry (i : Slot) (s : State) : Host.Outcome State Fault Refusal :=
  .next (event (fun s =>
    if (s.fleetSlot i).cycle.isSome then
      let s := buildCommand i (countMiss i s)
      s.modFleetSlot i fun x => { x with cycle := some ((s.context i).period.getD Config.discoveryPeriodMs) }
    else s) s)

/-- FORGET_EXPIRY (R24, R159): the entry becomes EMPTY, its timers stop, its waiting COMMAND frame is withdrawn and its discovery
context is cleared; the binding is kept. -/
def execForgetExpiry (i : Slot) (s : State) : Host.Outcome State Fault Refusal :=
  .next (event (fun s =>
    if (s.fleetSlot i).forget.isSome then
      (((s.setEntry i (Entry.blank .empty)).setContext i Context.cleared).setFleetSlot i FleetSlot.reset).withdrawAnyCommand i
    else s) s)

/-! ### The gateway (R136, R153) -/

/-- GATEWAY_READY_CHANGE (R153): the level the departure of frames reads. -/
def execGatewayReadyChange (asserted : Bool) (s : State) : Host.Outcome State Fault Refusal :=
  .next (event (fun s => { s with gatewayReady := asserted }) s)

/-- The departure of frame `f`: a discovery read that is outstanding starts its answer timer (R134, R136; DEDUCED, log entry 6). -/
def fleetDeparted (f : FleetFrame) (s : State) : State :=
  match f with
  | .command _ _ _ _ => s
  | .read i _ r =>
    if (s.context i).read = some r then s.modContext i fun x => { x with answerTimer := some Config.answerMs } else s

/-- FLEET_FRAME_DEPART (R153): the frame at the head leaves while GATEWAY_READY is asserted (DESIGN CHOICE, log entry 20). -/
def execFleetFrameDepart (s : State) : Host.Outcome State Fault Refusal :=
  .next (event (fun s =>
    match s.gatewayReady, s.fleetQueue with
    | true, f :: q => fleetDeparted f { s with fleetQueue := q, fleetSending := fleetFrameBytes f }
    | _, _ => s) s)

end Sys2Proof.Machine
end

