-- ==== Sys2Proof/Machine/HandoverRequests.lean ====
section
/-! DEFINITION. The requests and deadlines of the handover engine (chapter 2; R167 to R169). -/

namespace Sys2Proof.Machine

/-- The check of the numbers a long request carries: its slot, and the phase of its gate record (R168). -/
def withGate (b : Sender) (kind : RequestKind) (slot : Byte) (gate : Option GateIn)
    (owner : Slot → Option Gate → State → State) (s : State) : State :=
  withSlot b kind slot (fun i s =>
    match requestGate gate with
    | some g => owner i g s
    | none => fieldError b kind (.slot slot) s) s

/-- A refusal at a request's start: the first failing check's code (R32 to R35). -/
def firstFailing : List (Bool × Code) → Option Code
  | [] => none
  | (ok, code) :: rest => if ok then firstFailing rest else some code

/-! ### TAKE (R32) -/

/-- The checks of a TAKE of slot `i` by chair `c`, in the order of R32. -/
def takeChecks (i : Slot) (c : ChairId) (s : State) : List (Bool × Code) :=
  [((s.entry i).handover.isNone, .handoverPending),
   ((s.entry i).state != .locked, .zoneClosed),
   ((s.entry i).state == .free || (s.entry i).state == .auto, .notAvailable),
   (s.allowedAt i c, .notPermitted),
   (s.available c, .busyChair),
   (s.isPresent c, .notPresent)]

/-- Whether the loader of an AUTO entry has a call that is not reserved, which a TAKE attaches (R32, R63). -/
def takesCall (i : Slot) (s : State) : Bool :=
  (s.entry i).state == .auto &&
    match s.findCall i with
    | some c => !c.reserved
    | none => false

/-- A TAKE that passed its checks: the record in GATING and the evaluation at once (R32). -/
def startTake (b : Sender) (c : ChairId) (i : Slot) (g : Option Gate) (s : State) : State :=
  let source : Option Party := if (s.entry i).state = .auto then some .auto else none
  let s := occupySlot b .take i s
  let s := startHandover i (newRecord .take source (.chair c) .gating g (some c) (takesCall i s) s.policy) s
  enterGating i s

/-- TAKE (R32). -/
def execTake (b : Sender) (slot : Byte) (gate : Option GateIn) (s : State) : Host.Outcome State Fault Refusal :=
  .next (event (takeRequest b .take (.slot slot) (fromChair b .take (.slot slot) fun c =>
    withGate b .take slot gate fun i g s =>
      match firstFailing (takeChecks i c s) with
      | some code => reply b .take code (.slot slot) s
      | none => startTake b c i g s)) s)

/-! ### PASS and RETURN (R33, R34) -/

/-- The checks of a PASS of slot `i` from chair `c` to chair `t`, in the order of R33. -/
def passChecks (i : Slot) (c t : ChairId) (s : State) : List (Bool × Code) :=
  [((s.entry i).handover.isNone, .handoverPending),
   ((s.entry i).heldBy c, .notHolder),
   (t != c, .self),
   (s.available t, .targetBusy),
   (s.isPresent t, .targetAbsent),
   (s.allowedAt i t, .notPermitted)]

/-- A PASS, or a RETURN to a chair, that passed its checks: the record in OFFERING and the OFFER notice (R33, R34). -/
def startOffer (b : Sender) (kind : RequestKind) (hk : HandoverKind) (c t : ChairId) (i : Slot) (g : Option Gate)
    (s : State) : State :=
  let s := occupySlot b kind i s
  let s := startHandover i (newRecord hk (some (.chair c)) (.chair t) .offering g (some c) false s.policy) s
  s.notify (.chair t) (offerNotice i hk (.chair c) s)

/-- PASS (R33). -/
def execPass (b : Sender) (slot target : Byte) (gate : Option GateIn) (s : State) :
    Host.Outcome State Fault Refusal :=
  .next (event (takeRequest b .pass (.slot slot) (fromChair b .pass (.slot slot) fun c =>
    withGate b .pass slot gate fun i g s =>
      match chairOf target with
      | none => fieldError b .pass (.slot slot) s
      | some t =>
        match firstFailing (passChecks i c t s) with
        | some code => reply b .pass code (.slot slot) s
        | none => startOffer b .pass .pass c t i g s)) s)

/-- A handover to the loader's autonomy that passed its checks: the record in GATING and the evaluation at once (R34, R35). -/
def startToAuto (b : Sender) (kind : RequestKind) (hk : HandoverKind) (c : ChairId) (i : Slot) (g : Option Gate)
    (s : State) : State :=
  let s := occupySlot b kind i s
  let s := startHandover i (newRecord hk (some (.chair c)) .auto .gating g (some c) false s.policy) s
  enterGating i s

/-- The checks RETURN and RESUME begin with (R34, R35). -/
def holderChecks (i : Slot) (c : ChairId) (s : State) : List (Bool × Code) :=
  [((s.entry i).handover.isNone, .handoverPending), ((s.entry i).heldBy c, .notHolder)]

/-- Whether chair `t` passes the checks of a PASS target, which a RETURN answers with one code (R34). -/
def returnTargetFit (i : Slot) (c t : ChairId) (s : State) : Bool :=
  t != c && s.available t && s.isPresent t && s.allowedAt i t

/-- RETURN (R34): the newest stack entry is read, not removed (R12). -/
def execReturnLoader (b : Sender) (slot : Byte) (gate : Option GateIn) (s : State) :
    Host.Outcome State Fault Refusal :=
  .next (event (takeRequest b .returnLoader (.slot slot) (fromChair b .returnLoader (.slot slot) fun c =>
    withGate b .returnLoader slot gate fun i g s =>
      match firstFailing (holderChecks i c s) with
      | some code => reply b .returnLoader code (.slot slot) s
      | none =>
        match (s.entry i).stack.head? with
        | none => reply b .returnLoader .noPrevious (.slot slot) s
        | some (.chair t) =>
          if returnTargetFit i c t s then startOffer b .returnLoader .returned c t i g s
          else reply b .returnLoader .targetUnavailable (.slot slot) s
        | some .auto => startToAuto b .returnLoader .returned c i g s)) s)

/-- RESUME (R35). -/
def execResume (b : Sender) (slot : Byte) (gate : Option GateIn) (s : State) : Host.Outcome State Fault Refusal :=
  .next (event (takeRequest b .resume (.slot slot) (fromChair b .resume (.slot slot) fun c =>
    withGate b .resume slot gate fun i g s =>
      match firstFailing (holderChecks i c s) with
      | some code => reply b .resume code (.slot slot) s
      | none => startToAuto b .resume .resume c i g s)) s)

/-! ### ACCEPT and DECLINE (R39, R40) -/

/-- Whether slot `i` has a record in OFFERING whose target is chair `c` (R39, R40). -/
def offeredTo (i : Slot) (c : ChairId) (s : State) : Bool :=
  match (s.entry i).handover with
  | some h => h.phase == .offering && h.target == .chair c
  | none => false

/-- The record of slot `i` moves to GATING with its deadline restarted (R39). -/
def moveToGating (i : Slot) (s : State) : State :=
  s.modEntry i fun e =>
    { e with handover := e.handover.map fun h => { h with phase := .gating, deadline := s.policy.gateTimeout } }

/-- ACCEPT (R39): the DONE answer is queued before the gate is evaluated. -/
def execAccept (b : Sender) (slot : Byte) (s : State) : Host.Outcome State Fault Refusal :=
  .next (event (takeRequest b .accept (.slot slot) (fromChair b .accept (.slot slot) fun c =>
    withSlot b .accept slot fun i s =>
      if offeredTo i c s then
        enterGating i (reply b .accept .done (.slot slot) ((moveToGating i s).setChairState c .engaging))
      else reply b .accept .noOffer (.slot slot) s)) s)

/-- DECLINE (R40). -/
def execDecline (b : Sender) (slot : Byte) (s : State) : Host.Outcome State Fault Refusal :=
  .next (event (takeRequest b .decline (.slot slot) (fromChair b .decline (.slot slot) fun c =>
    withSlot b .decline slot fun i s =>
      if offeredTo i c s then reply b .decline .done (.slot slot) (abandon i .declined s)
      else reply b .decline .noOffer (.slot slot) s)) s)

/-! ### CANCEL (R47, R167) -/

/-- CANCEL of the outstanding request `o` of chair `c`: the handover it started is abandoned with CANCELLED, which answers it, and the
request slot is empty afterwards. -/
def cancelOutstanding (c : ChairId) (o : Outstanding) (s : State) : State :=
  let s := match (s.entry o.slot).handover with
    | some h => if h.requester = some c then abandon o.slot .cancelled s else s
    | none => s
  s.answerOutstanding c .cancelled

/-- CANCEL (R167): taken whatever the request slot holds. -/
def execCancel (b : Sender) (s : State) : Host.Outcome State Fault Refusal :=
  .next (event (fun s =>
    let s := goodFrame b.port s
    match b.port, (s.port b.port).outstanding with
    | .chair c, some o => reply b .cancel .done .nothing (cancelOutstanding c o s)
    | _, _ => reply b .cancel .nothingPending .nothing s) s)

/-! ### Deadlines (R41, R43) -/

/-- OFFER_DEADLINE_EXPIRY (R41): a chair target's latch is cleared before its state is set (R77). -/
def execOfferDeadlineExpiry (i : Slot) (s : State) : Host.Outcome State Fault Refusal :=
  .next (event (fun s =>
    match (s.entry i).handover with
    | none => s
    | some h =>
      match h.phase with
      | .gating => s
      | .offering =>
        let s := match h.target with
          | .chair t => s.clearLatch t
          | .auto => s
        abandon i .offerTimeout s) s)

/-- GATE_DEADLINE_EXPIRY (R43). -/
def execGateDeadlineExpiry (i : Slot) (s : State) : Host.Outcome State Fault Refusal :=
  .next (event (fun s =>
    match (s.entry i).handover with
    | none => s
    | some h =>
      match h.phase with
      | .offering => s
      | .gating => abandon i .gateTimeout s) s)

end Sys2Proof.Machine
end

