-- ==== Sys2Proof/Machine/Reset.lean ====
section
/-! DEFINITION. Power-on and the reset requests (R25, R56, R72, R93, R114, R116, R147, R162, R172, R177, R178). -/

namespace Sys2Proof.Machine

/-- A port's registers after a reset request: those of power-on, but that a frame being sent is sent to its end (R162, R190). -/
def PortRegs.afterReset (p : PortRegs) : PortRegs := { PortRegs.reset with sending := p.sending }

/-- A chair port after a reset request (R93). -/
def Chair.afterReset (c : Chair) : Chair := { Chair.reset with port := c.port.afterReset }

/-- The service port at a reset request: its link state and silence timer are kept, and its queue is empty until the reset's own DONE
answer joins it (R178). -/
def Service.afterReset (v : Service) : Service :=
  { v with port := { v.port.afterReset with silence := v.port.silence } }

/-- RESET_ALL acts on every block (R177). GATEWAY_READY is an input and is read as it stands (R162). -/
def resetAllBlocks (s : State) : State :=
  { State.reset with
    chairs := s.chairs.map Chair.afterReset
    service := s.service.afterReset
    gatewayReady := s.gatewayReady
    fleetSending := s.fleetSending
    pending := s.pending }

/-- The part of RESET_KEEP that acts before discovery starts: as RESET_ALL, but the zone plan, the policy and the bindings are kept,
and each entry keeps whether it is EMPTY (R25, R177). -/
def resetKeepBlocks (s : State) : State :=
  { resetAllBlocks s with zones := s.zones, policy := s.policy, bindings := s.bindings }

/-- RESET_KEEP acts on every block: every entry that was not EMPTY starts discovery at once, in slot order, without answers or notices
(R25, R147, R162). -/
def resetKeepAll (s : State) : State :=
  allSlots.foldl
    (fun t i =>
      if (s.entry i).state = .empty then t
      else beginReads i (t.setEntry i (Entry.blank .discovering)))
    (resetKeepBlocks s)

/-- POWER_ON (R25): every block takes its power-on values; the commands that wait and the level of GATEWAY_READY are outside the part. -/
def execPowerOn (s : State) : Host.Outcome State Fault Refusal :=
  .next { State.reset with gatewayReady := s.gatewayReady, pending := s.pending }

/-- RESET_ALL (R177): the reset acts and its DONE answer is the one frame in the service port's queue (R178). -/
def execResetAll (b : Sender) (s : State) : Host.Outcome State Fault Refusal :=
  .next (event (takeRequest b .resetAll .nothing fun s => reply b .resetAll .done .nothing (resetAllBlocks s)) s)

/-- RESET_KEEP (R177). -/
def execResetKeep (b : Sender) (s : State) : Host.Outcome State Fault Refusal :=
  .next (event (takeRequest b .resetKeep .nothing fun s => reply b .resetKeep .done .nothing (resetKeepAll s)) s)

end Sys2Proof.Machine
end

