-- ==== Sys2Proof/Machine/Dispatch.lean ====
section
/-! DEFINITION. One arm for each row of spec/opcode_table.json. -/

namespace Sys2Proof.Machine

def exec (i : Instr) (s : State) : Host.Outcome State Fault Refusal :=
  match i with
  | .powerOn => Sys2Proof.Machine.execPowerOn s
  | .axis chair frame => Sys2Proof.Machine.execAxis chair frame s
  | .idle port => Sys2Proof.Machine.execIdle port s
  | .badFrame port why => Sys2Proof.Machine.execBadFrame port why s
  | .take b slot gate => Sys2Proof.Machine.execTake b slot gate s
  | .pass b slot target gate => Sys2Proof.Machine.execPass b slot target gate s
  | .returnLoader b slot gate => Sys2Proof.Machine.execReturnLoader b slot gate s
  | .resume b slot gate => Sys2Proof.Machine.execResume b slot gate s
  | .accept b slot => Sys2Proof.Machine.execAccept b slot s
  | .decline b slot => Sys2Proof.Machine.execDecline b slot s
  | .ready b => Sys2Proof.Machine.execReady b s
  | .unready b => Sys2Proof.Machine.execUnready b s
  | .park b slot => Sys2Proof.Machine.execPark b slot s
  | .cancel b => Sys2Proof.Machine.execCancel b s
  | .query b target number field index => Sys2Proof.Machine.execQuery b target number field index s
  | .ack b flags clearCount => Sys2Proof.Machine.execAck b flags clearCount s
  | .zoneSet b zone state cap backoff allowed => Sys2Proof.Machine.execZoneSet b zone state cap backoff allowed s
  | .policySet b field value => Sys2Proof.Machine.execPolicySet b field value s
  | .forceFree b slot => Sys2Proof.Machine.execForceFree b slot s
  | .loaderRestart b slot => Sys2Proof.Machine.execLoaderRestart b slot s
  | .resetAll b => Sys2Proof.Machine.execResetAll b s
  | .resetKeep b => Sys2Proof.Machine.execResetKeep b s
  | .settleExpiry chair => Sys2Proof.Machine.execSettleExpiry chair s
  | .graceExpiry chair => Sys2Proof.Machine.execGraceExpiry chair s
  | .stalenessExpiry chair => Sys2Proof.Machine.execStalenessExpiry chair s
  | .silenceExpiry port => Sys2Proof.Machine.execSilenceExpiry port s
  | .offerDeadlineExpiry slot => Sys2Proof.Machine.execOfferDeadlineExpiry slot s
  | .gateDeadlineExpiry slot => Sys2Proof.Machine.execGateDeadlineExpiry slot s
  | .cycleExpiry slot => Sys2Proof.Machine.execCycleExpiry slot s
  | .forgetExpiry slot => Sys2Proof.Machine.execForgetExpiry slot s
  | .answerTimerExpiry slot => Sys2Proof.Machine.execAnswerTimerExpiry slot s
  | .hello unit => Sys2Proof.Machine.execHello unit s
  | .idAnswer unit name period watchdog => Sys2Proof.Machine.execIdAnswer unit name period watchdog s
  | .entryAnswer unit index descriptor => Sys2Proof.Machine.execEntryAnswer unit index descriptor s
  | .call unit reason => Sys2Proof.Machine.execCall unit reason s
  | .callClear unit => Sys2Proof.Machine.execCallClear unit s
  | .telemetry unit payload => Sys2Proof.Machine.execTelemetry unit payload s
  | .badFleetFrame why => Sys2Proof.Machine.execBadFleetFrame why s
  | .gatewayReadyChange asserted => Sys2Proof.Machine.execGatewayReadyChange asserted s
  | .fleetFrameDepart => Sys2Proof.Machine.execFleetFrameDepart s
  | .portFrameDepart port => Sys2Proof.Machine.execPortFrameDepart port s

end Sys2Proof.Machine
end

