-- ==== Sys2Proof/Decode.lean ====
section
/-! DEFINITION. Commands as words of the table's bits. No row of spec/opcode_table.json gives any bits (each row's "fields" list is
empty), so no word spells a command. How a run of bytes on a link becomes a command is in Sys2Proof/Machine/Receive.lean. -/

namespace Sys2Proof

/-- The command a word of `nbits` bits spells by the table's bits: none, since no row gives bits (DESIGN CHOICE, log entry 21). -/
def decodeTableWord (_nbits _w : Nat) : Option Instr := none

end Sys2Proof
end

