-- ==== Sys2Proof/Machine/Receive.lean ====
section
/-! DEFINITION. The receivers: the checks a received run of bytes meets (R184, R185, and R154 for the fleet link) and the command it
becomes, by the layouts of R186. A run that passes every check becomes the command of its kind; any other a bad frame. -/

namespace Sys2Proof.Machine

/-- A received run split into its kind byte, its length byte, its payload and its CRC; none for a run that fails the framing check: it
is shorter than five bytes or does not begin with the sync byte (R180, R184). -/
def splitRun (run : List Byte) : Option (Byte × Byte × List Byte × Half) :=
  match run with
  | sync :: kind :: len :: rest =>
    if sync = syncByte then
      match rest.reverse with
      | lo :: hi :: payload => some (kind, len, payload.reverse, halfOf hi lo)
      | _ => none
    else none
  | _ => none

/-! ### REQUEST frames (R185, R186) -/

/-- A gate record's four bytes. -/
def readGate (phase mask value control : Byte) : GateIn :=
  { phase := if phase = 0xFF#8 then none else some phase, mask := mask, value := value,
    sense := if control.getLsbD 0 then .differ else .matching, wait := control.getLsbD 1 }

/-- The optional gate record that ends a long request: absent, or four bytes. -/
def readOptionalGate : List Byte → Option (Option GateIn)
  | [] => some none
  | [p, m, v, c] => some (some (readGate p m v c))
  | _ => none

/-- The zone state of a ZONE_SET: 0 OPEN, 1 CLOSED; any other byte is read as the part does, which no rule states (DESIGN CHOICE, log entry 14). -/
def readZoneState (b : Byte) : ZoneState :=
  if b = 0#8 then .opened else if b = 1#8 then .closed else Config.zoneStateOfByte b

/-- A REQUEST frame's payload: its code, the tag in the low four bits of the tag byte, and the parameters. None when the code or the
length is not one of the request table (R185). -/
def readRequest (port : Port) (payload : List Byte) : Option Instr :=
  match payload with
  | code :: tagByte :: ps =>
    let b : Sender := { port := port, tag := (tagByte.extractLsb' 0 4).toFin }
    match code.toNat, ps with
    | 0x01, slot :: g => (readOptionalGate g).map fun g => .take b slot g
    | 0x02, slot :: target :: g => (readOptionalGate g).map fun g => .pass b slot target g
    | 0x03, slot :: g => (readOptionalGate g).map fun g => .returnLoader b slot g
    | 0x04, slot :: g => (readOptionalGate g).map fun g => .resume b slot g
    | 0x05, [slot] => some (.accept b slot)
    | 0x06, [slot] => some (.decline b slot)
    | 0x07, [] => some (.ready b)
    | 0x08, [] => some (.unready b)
    | 0x09, [slot] => some (.park b slot)
    | 0x0A, [] => some (.cancel b)
    | 0x0B, [target, number, field, index] => some (.query b target number field index)
    | 0x0C, [hi, lo, choice] => some (.ack b (halfOf hi lo) (choice.getLsbD 7))
    | 0x20, [zone, state, capHi, capLo, backHi, backLo, allowed] =>
      some (.zoneSet b zone (readZoneState state) (halfOf capHi capLo) (halfOf backHi backLo) (allowed.extractLsb' 0 6))
    | 0x21, [field, hi, lo] => some (.policySet b field (.number (halfOf hi lo)))
    | 0x21, [field, p, m, v, c] => some (.policySet b field (.gate (readGate p m v c)))
    | 0x22, [slot] => some (.forceFree b slot)
    | 0x23, [slot] => some (.loaderRestart b slot)
    | 0x24, [] => some (.resetAll b)
    | 0x25, [] => some (.resetKeep b)
    | _, _ => none
  | _ => none

/-! ### AXIS frames (R186) -/

/-- An AXIS frame's payload; none when it is not nine bytes or an axis value lies outside the counts (R184). -/
def readAxis (payload : List Byte) : Option AxisFrame :=
  match payload with
  | [s1, s0, t1, t0, b1, b0, k1, k0, d] =>
    let f : AxisFrame :=
      { steer := (halfOf s1 s0).toInt, travel := (halfOf t1 t0).toInt, boom := (halfOf b1 b0).toInt,
        bucket := (halfOf k1 k0).toInt, enable := d.getLsbD 0, brakeReq := d.getLsbD 1, horn := d.getLsbD 2,
        lights := d.getLsbD 3, gear := d.extractLsb' 4 2 }
    if axisInRange f then some f else none
  | _ => none

/-- The content check and the reading of a frame of a kind the port receives; none when its content is bad (R184). -/
def readContent (port : Port) (kind : Byte) (payload : List Byte) : Option Instr :=
  match kind.toNat, port with
  | 0x00, _ => if payload = [] then some (.idle port) else none
  | 0x01, .chair c => (readAxis payload).map fun f => .axis c f
  | _, _ => readRequest port payload

/-- Whether a port receives frames of a kind: IDLE and REQUEST, and on a chair link AXIS (R184). -/
def receivesKind (port : Port) (kind : Byte) : Bool :=
  match kind.toNat, port with
  | 0x00, _ | 0x02, _ => true
  | 0x01, .chair _ => true
  | _, _ => false

/-- The command a received run on a chair or service link becomes, by the checks of R184 in their order. -/
def receive (port : Port) (run : List Byte) : Instr :=
  match splitRun run with
  | none => .badFrame port .framing
  | some (kind, len, payload, sent) =>
    if crc (kind :: len :: payload) ≠ sent then .badFrame port .crc
    else if 48 < len.toNat ∨ len.toNat ≠ payload.length then .badFrame port .length
    else if !receivesKind port kind then .badFrame port .kind
    else
      match readContent port kind payload with
      | some c => c
      | none => .badFrame port .content

/-! ### Fleet frames (R154, R184, R186) -/

/-- A descriptor's ten bytes. -/
def readDescriptor : List Byte → Option Descriptor
  | [f, d, sz, k, a1, a0, b1, b0, c1, c0] =>
    some { function := f, direction := d, size := sz, kind := k, rawMin := halfOf a1 a0, rawNeutral := halfOf b1 b0,
           rawMax := halfOf c1 c0 }
  | _ => none

/-- A CALL frame's reason byte: 3 is CLEAR (R186). -/
def readCall (u : UnitNumber) (reason : Byte) : Instr :=
  match reason.toNat with
  | 0 => .call u .faultAssist
  | 1 => .call u .hangup
  | 2 => .call u .muck
  | 3 => .callClear u
  | _ => .badFleetFrame (.callReason u)

/-- A fleet frame's content after its unit number, by kind; none when the kind is unknown or the length or an ENTRY's marker does not
suit it (R154, R186). -/
def readFleet (kind : Byte) (u : UnitNumber) (rest : List Byte) : Option Instr :=
  match kind.toNat, rest with
  | 0x10, [] => some (.hello u)
  | 0x11, payload => some (.telemetry u payload)
  | 0x12, [reason] => some (readCall u reason)
  | 0x13, [n0, n1, n2, n3, p1, p0, w1, w0] => some (.idAnswer u ⟨n0, n1, n2, n3⟩ (halfOf p1 p0) (halfOf w1 w0))
  | 0x14, index :: marker :: d =>
    match marker.toNat with
    | 0 => (readDescriptor d).map fun d => .entryAnswer u index (some d)
    | 1 => if d = [] then some (.entryAnswer u index none) else none
    | _ => none
  | _, _ => none

/-- The command a received run on the fleet link becomes, by the checks of R184 and R154 in their order. -/
def receiveFleet (run : List Byte) : Instr :=
  match splitRun run with
  | none => .badFleetFrame .framing
  | some (kind, len, payload, sent) =>
    if crc (kind :: len :: payload) ≠ sent then .badFleetFrame .crc
    else if len.toNat ≠ payload.length then .badFleetFrame .format
    else
      match payload with
      | a :: b :: c :: d :: rest => (readFleet kind (wordOf a b c d) rest).getD (.badFleetFrame .format)
      | _ => .badFleetFrame .format

/-- The arrival of a run at a chair or service port: its command joins the tail of the queue of commands (DESIGN CHOICE, log entry 1). -/
def State.arrive (s : State) (port : Port) (run : List Byte) : State :=
  { s with pending := s.pending ++ [receive port run] }

/-- The arrival of a run on the fleet link. -/
def State.arriveFleet (s : State) (run : List Byte) : State := { s with pending := s.pending ++ [receiveFleet run] }

end Sys2Proof.Machine
end

