-- ==== Sys2Proof/WellFormed.lean ====
section
/-! DEFINITION. What a command's operands satisfy when a link's receiver or a timer produces the command (R137, R180, R184, R185). Numbers
that name no slot, chair, zone or field are well formed: they are answered FIELD_ERROR. -/

namespace Sys2Proof

/-- A value in counts (Conventions). -/
abbrev IsCounts (n : Int) : Prop := -2048 ≤ n ∧ n ≤ 2047

/-- The axis values of a valid AXIS frame are in counts (R184). -/
abbrev AxisFrame.WellFormed (f : AxisFrame) : Prop :=
  IsCounts f.steer ∧ IsCounts f.travel ∧ IsCounts f.boom ∧ IsCounts f.bucket

/-- A gate record's phase byte 0xFF stands for an absent phase, so no present phase is 0xFF (R186). -/
abbrev GateIn.WellFormed (g : GateIn) : Prop := g.phase ≠ some 0xFF#8

abbrev gateOperandWellFormed (g : Option GateIn) : Prop :=
  match g with
  | none => True
  | some g => g.WellFormed

abbrev policyOperandWellFormed (v : PolicyValue) : Prop :=
  match v with
  | .number _ => True
  | .gate g => g.WellFormed

/-- A TELEMETRY's channel payload: the frame's length byte is at most 255 and counts the unit number's four bytes (R154, R180). -/
abbrev payloadWellFormed (p : List Byte) : Prop := p.length ≤ 251

/-- The bad frames a port can report (R184): an AXIS or REQUEST content failure, like every other, on either kind of link. -/
abbrev Instr.WellFormed (i : Instr) : Prop :=
  match i with
  | .axis _ f => f.WellFormed
  | .take _ _ g => gateOperandWellFormed g
  | .pass _ _ _ g => gateOperandWellFormed g
  | .returnLoader _ _ g => gateOperandWellFormed g
  | .resume _ _ g => gateOperandWellFormed g
  | .policySet _ _ v => policyOperandWellFormed v
  | .telemetry _ p => payloadWellFormed p
  | .powerOn | .idle _ | .badFrame _ _ | .accept _ _ | .decline _ _ | .ready _ | .unready _ | .park _ _ | .cancel _ => True
  | .query _ _ _ _ _ | .ack _ _ _ | .zoneSet _ _ _ _ _ _ | .forceFree _ _ | .loaderRestart _ _ | .resetAll _ => True
  | .resetKeep _ | .settleExpiry _ | .graceExpiry _ | .stalenessExpiry _ | .silenceExpiry _ => True
  | .offerDeadlineExpiry _ | .gateDeadlineExpiry _ | .cycleExpiry _ | .forgetExpiry _ | .answerTimerExpiry _ => True
  | .hello _ | .idAnswer _ _ _ _ | .entryAnswer _ _ _ | .call _ _ | .callClear _ | .badFleetFrame _ => True
  | .gatewayReadyChange _ | .fleetFrameDepart | .portFrameDepart _ => True

end Sys2Proof
end

