-- ==== Sys2Proof/Safety.lean ====
section
/-! DEFINITION. What a run of the part keeps: the laws over its state that the spec states or implies, each as a condition on one
state; and the words in which the claims speak of what an event leaves alone. -/

namespace Sys2Proof.Machine

/-! ### Laws of the authority table -/

/-- The holder an entry's state allows (R2). -/
def Entry.holderFits (e : Entry) : Bool :=
  match e.state, e.holder with
  | .held, some (.chair _) => true
  | .auto, some .auto => true
  | .held, _ | .auto, _ => false
  | _, h => h.isNone

/-- An entry's holder is fixed by its state (R2). -/
abbrev State.HolderLaw (s : State) : Prop := ∀ i, (s.entry i).holderFits = true

/-- Whether an entry's state is one that may carry a handover record (R2, R4). -/
def EntryState.carries : EntryState → Bool
  | .free | .auto | .held => true
  | _ => false

/-- A handover record stands only on an entry in FREE, AUTO or HELD (R4). -/
abbrev State.RecordLaw (s : State) : Prop := ∀ i, (s.entry i).handover ≠ none → (s.entry i).state.carries = true

/-- While a record exists, the entry's holder is its source (R28). -/
abbrev State.SourceLaw (s : State) : Prop :=
  ∀ i, ∀ h ∈ (s.entry i).handover, h.source = (s.entry i).holder

/-- Every call's loader has an AUTO entry (R58, R64). -/
abbrev State.CallerLaw (s : State) : Prop := ∀ c ∈ s.calls, (s.entry c.slot).state = .auto

/-- A stage, an outstanding read and an answer timer belong to entries in DISCOVERING (R134). -/
abbrev State.DiscoveryLaw (s : State) : Prop :=
  ∀ i, ((s.context i).stage ≠ none ∨ (s.context i).read ≠ none ∨ (s.context i).answerTimer ≠ none) →
    (s.entry i).state = .discovering

/-- A forget timer runs only in LINK_LOST (R149). -/
abbrev State.ForgetLaw (s : State) : Prop := ∀ i, (s.fleetSlot i).forget ≠ none → (s.entry i).state = .linkLost

/-- The laws that tie records, calls, discovery and the forget timer to the entries' states. -/
abbrev State.AuthorityLaw (s : State) : Prop :=
  s.HolderLaw ∧ s.RecordLaw ∧ s.CallerLaw ∧ s.DiscoveryLaw ∧ s.ForgetLaw

/-- Whether an entry's state suits the record of its loader's zone; an entry in no zone suits any (R126). -/
def State.zoneFits (s : State) (i : Slot) : Bool :=
  match (s.entry i).zone? with
  | none => true
  | some z =>
    match (s.entry i).state with
    | .free | .auto | .held => (s.zone z).state == .opened
    | .locked => (s.zone z).state == .closed
    | _ => true

/-- No entry whose loader's zone is CLOSED is FREE, AUTO or HELD, and every LOCKED entry's zone is CLOSED (R126). -/
abbrev State.ClosedZoneLaw (s : State) : Prop := ∀ i, s.zoneFits i = true

/-- At most 4 parties, none in two adjacent positions (R10). -/
def stackFits : List Party → Bool
  | [] | [_] => true
  | a :: b :: st => a != b && stackFits (b :: st)

/-- Every holder stack is one that R10 allows. -/
abbrev State.StackLaw (s : State) : Prop :=
  ∀ i, (s.entry i).stack.length ≤ 4 ∧ stackFits (s.entry i).stack = true

/-! ### Chairs against entries -/

/-- Whether the entry's record is in a phase and targets chair `c`. -/
def Entry.targetsIn (e : Entry) (p : HandoverPhase) (c : ChairId) : Bool :=
  match e.handover with
  | some h => h.phase == p && h.target == .chair c
  | none => false

/-- Chair `c` holds one entry in DRIVING and none otherwise, is the target of one record in OFFERING in OFFERED and of none
otherwise, and of one in GATING in ENGAGING and of none otherwise (R3, R37, R75). -/
abbrev State.ChairFits (s : State) (c : ChairId) : Prop :=
  (allSlots.countP fun i => (s.entry i).heldBy c) = (if (s.chair c).state = .driving then 1 else 0) ∧
  (allSlots.countP fun i => (s.entry i).targetsIn .offering c) = (if (s.chair c).state = .offered then 1 else 0) ∧
  (allSlots.countP fun i => (s.entry i).targetsIn .gating c) = (if (s.chair c).state = .engaging then 1 else 0)

/-- One holder, one target: every chair's state tells what it holds and what targets it (R3, R37, R75). -/
abbrev State.OneHolderLaw (s : State) : Prop := ∀ c, s.ChairFits c

/-! ### Chairs, presence and ports -/

/-- Whether the presence timers are those that the table of section 4.2 gives a presence; PRESENT and SETTLING besides have their
staleness timer running (R79, R81). -/
def Chair.presenceFits (x : Chair) : Bool :=
  match x.presence with
  | .present => x.grace.isNone && x.settle.isNone && x.staleness.isSome
  | .settling => x.settle.isSome && x.staleness.isSome
  | .released => x.grace.isSome && x.settle.isNone
  | .absent => x.grace.isNone && x.settle.isNone

/-- Whether a chair's latch suits its state: READY with the latch set, IDLE and OFFLINE with it clear (R75, R89). -/
def Chair.latchFits (x : Chair) : Bool :=
  match x.state with
  | .ready => x.latch
  | .idle | .offline => !x.latch
  | _ => true

/-- Whether an OFFLINE chair is as R89 leaves it. -/
def Chair.offlineFits (x : Chair) : Bool :=
  x.state != .offline ||
    (x.presence == .absent && x.staleness.isNone && x.port.silence.isNone && x.port.badRun == 0 &&
      x.port.outstanding.isNone && x.port.queue.isEmpty && x.sample == Sample.neutral)

/-- Every chair record has the timers of its presence, the latch of its state and, in OFFLINE, nothing besides its flags. -/
abbrev State.ChairLaw (s : State) : Prop :=
  ∀ c, (s.chair c).presenceFits = true ∧ (s.chair c).latchFits = true ∧ (s.chair c).offlineFits = true

/-- The bounds of a port: a bad-frame run below 4, an error count of at most 255, at most 15 answers and notices and at most one
STATUS frame waiting, which the service port never has (R88, R188, R189). -/
abbrev State.PortFits (s : State) (p : Port) : Prop :=
  (s.port p).badRun ≤ 3 ∧ (s.port p).errors ≤ 255 ∧ waitingAnswers (s.port p).queue ≤ 15 ∧
  (s.port p).queue.countP (·.isStatus) ≤ (if p = .service then 0 else 1) ∧
  (s.online p = false → (s.port p).queue = [])

abbrev State.PortLaw (s : State) : Prop := (∀ c, s.PortFits (.chair c)) ∧ s.PortFits .service

/-! ### Queues -/

/-- The call queue is sorted by class, and no loader has two calls in it (R58). -/
abbrev State.CallQueueLaw (s : State) : Prop :=
  s.calls.Pairwise (fun a b => callClass a.reason ≤ callClass b.reason) ∧ (s.calls.map (·.slot)).Nodup

/-- A call is reserved exactly while its loader's entry carries a record, and that record has it attached (R63). -/
abbrev State.ReservedLaw (s : State) : Prop :=
  ∀ c ∈ s.calls, c.reserved = (s.entry c.slot).handover.isSome ∧
    ∀ h ∈ (s.entry c.slot).handover, h.callAttached = true

/-- The fleet transmit queue holds at most one COMMAND frame and at most one discovery read for each slot (R152). -/
abbrev State.FleetQueueLaw (s : State) : Prop :=
  ∀ i, s.fleetQueue.countP (·.isCommandOf i) ≤ 1 ∧ s.fleetQueue.countP (·.isReadOf i) ≤ 1

/-! ### Values in range -/

/-- A zone record satisfies b ≤ c ≤ 2047 (R115). -/
abbrev State.ZonePlanLaw (s : State) : Prop := ∀ z, (s.zone z).backoff ≤ (s.zone z).cap ∧ (s.zone z).cap ≤ 2047

/-- A gate record as stored: no flag in value outside mask (R29). -/
abbrev Gate.Fits (g : Gate) : Prop := g.value &&& g.mask = g.value

/-- The numeric policy fields, in the order of R172. -/
def numFields : List NumField :=
  [.offerTimeout, .gateTimeout, .passRamp, .engageRamp, .rundownRamp, .neutralWindow, .axisStale, .presenceGrace,
   .pressSettle, .missLimit, .forgetTime]

/-- The handover kinds. -/
def handoverKinds : List HandoverKind := [.take, .claim, .pass, .returned, .resume]

/-- Every policy field lies in its range (R172). -/
abbrev State.PolicyLaw (s : State) : Prop :=
  (∀ f ∈ numFields, f.range.1 ≤ f.get s.policy ∧ f.get s.policy ≤ f.range.2) ∧
  (∀ k ∈ handoverKinds, (s.policy.gateFor k).Fits) ∧ s.policy.writeCount ≤ 65535

/-- Four axis values in counts. -/
abbrev Axes.InCounts (a : Axes) : Prop := IsCounts a.steer ∧ IsCounts a.travel ∧ IsCounts a.boom ∧ IsCounts a.bucket

/-- A ramp record: start values in counts, K from 1 to 32 and k from 1 to K (R1). -/
abbrev Ramp.Fits (r : Ramp) : Prop := r.start.InCounts ∧ 1 ≤ r.progress ∧ r.progress ≤ r.length ∧ r.length ≤ 32

/-- Held samples, applied values and ramp records lie in the ranges of R1 and R74. -/
abbrev State.CountsLaw (s : State) : Prop :=
  (∀ c, (s.chair c).sample.axes.InCounts) ∧
  ∀ i, (s.entry i).applied.InCounts ∧ ∀ r ∈ (s.entry i).ramp, r.Fits

/-- No unit number is bound to two slots, none is 0, and a slot's used mark is set while it is bound (R130). -/
abbrev State.BindingLaw (s : State) : Prop :=
  (∀ i j, (s.binding i).unit ≠ none → (s.binding i).unit = (s.binding j).unit → i = j) ∧
  ∀ i, (s.binding i).unit ≠ some 0#32 ∧ ((s.binding i).used = true ↔ (s.binding i).unit ≠ none)

/-- The dispatcher's flag is clear between events (DESIGN CHOICE, log entry 18). -/
abbrev State.Quiet (s : State) : Prop := s.dispatchDue = false

/-! ### What an event leaves alone -/

/-- The zone plan, the policy, the admission unit, the fleet port and the waiting commands are as they were. -/
abbrev SameElsewhere (s t : State) : Prop :=
  t.zones = s.zones ∧ t.policy = s.policy ∧ t.bindings = s.bindings ∧ t.contexts = s.contexts ∧ t.ignored = s.ignored ∧
  t.fleet = s.fleet ∧ t.fleetQueue = s.fleetQueue ∧ t.gatewayReady = s.gatewayReady ∧ t.fleetSending = s.fleetSending ∧
  t.pending = s.pending

/-- An entry as it was but for its handover record, which a dispatcher run at the end of the event may place. -/
abbrev SameButRecord (d e : Entry) : Prop := { e with handover := none } = { d with handover := none }

/-- A chair as it was but for its state and its port, which a dispatcher run at the end of the event may change. -/
abbrev SameButOffer (x y : Chair) : Prop := { y with state := x.state, port := x.port } = x

/-! ### Words for chairs and ports -/

/-- A chair returned to READY or IDLE by its accepting latch. -/
def Chair.settled (x : Chair) : Chair := { x with state := if x.latch then .ready else .idle }

/-- Whether a frame is an answer or a notice, of which at most 15 wait (R189). -/
def PortFrame.reports : PortFrame → Bool
  | .answer _ | .notice _ => true
  | .status _ => false

/-- A chair with a frame placed in its transmit queue. -/
def Chair.queued (f : PortFrame) (x : Chair) : Chair := { x with port := x.port.enqueue f }

/-- A port at which a valid frame has just been taken: the silence timer restarted and the bad-frame run 0 (R87, R88). -/
def PortRegs.heard (p : PortRegs) : PortRegs := { p with silence := some 1000, badRun := 0 }

/-- A chair whose outstanding long request is answered: the slot is emptied and the answer queued, unless the chair is OFFLINE. -/
def Chair.answered (code : Code) (x : Chair) : Chair :=
  match x.port.outstanding with
  | none => x
  | some o =>
    let y := { x with port := { x.port with outstanding := none } }
    if x.state = .offline then y
    else y.queued (.answer { kind := o.kind, tag := o.tag, code := code, content := .slot (slotByte o.slot) })

/-- The frame by which chair `d` learns that the handover of slot `i` ends with a cause: the answer to its own request, or the notice to a
chair target that did not ask (R46). -/
def State.endFrames (s : State) (i : Slot) (cause : Code) (d : ChairId) : List PortFrame :=
  match (s.entry i).handover with
  | none => []
  | some h =>
    if h.requester = some d then
      match (s.chair d).port.outstanding with
      | some o => [.answer { kind := o.kind, tag := o.tag, code := cause, content := .slot (slotByte o.slot) }]
      | none => []
    else if h.target = .chair d then
      [.notice (match h.phase with
        | .offering => .offerWithdrawn i cause
        | .gating => .abandoned i cause)]
    else []

/-- The frames by which chair `d` learns that slot `i` leaves authority with a cause: those of the handover, then LOST to the holder
(R14, R55). -/
def State.farewell (s : State) (i : Slot) (cause : Code) (d : ChairId) : List PortFrame :=
  s.endFrames i cause d ++ (if (s.entry i).heldBy d then [.notice (.lost i cause)] else [])

/-- Between `s` and `t`, chair `d` is queued the frames given, in their order, right behind what waited, if its queue has room for them. -/
abbrev State.Queues (s t : State) (d : ChairId) (frames : List PortFrame) : Prop :=
  (s.chair d).state ≠ .offline → waitingAnswers (s.chair d).port.queue + frames.length ≤ 15 →
    (s.chair d).port.queue ++ frames <+: (t.chair d).port.queue

/-- A chair in OFFLINE with everything R89 and R93 clear: only its flags, its error count and the frame being sent are left. -/
def Chair.gone (flags : Half) (errors : Nat) (sending : List Byte) : Chair :=
  { state := .offline, latch := false, presence := .absent, settle := none, grace := none, staleness := none,
    sample := { axes := ⟨0, 0, 0, 0⟩, enable := false, brakeReq := false, horn := false, lights := false, gear := .n },
    port := { silence := none, badRun := 0, outstanding := none, flags := flags, errors := errors, queue := [],
              sending := sending } }

/-- An entry in state `st` with every other field at its value of R25. -/
def Entry.bare (st : EntryState) : Entry :=
  { state := st, holder := none, handover := none, stack := [], status := none, applied := ⟨0, 0, 0, 0⟩, lights := false,
    ramp := none, zoneDrop := false }

/-- A discovery context with every field absent (R147). -/
def Context.bare : Context :=
  { stage := none, read := none, answerTimer := none, name := none, period := none, watchdog := none, descriptors := [],
    admitted := none, refusal := none }

/-- A discovery context at discovery start: READ_ID outstanding in READING_ID (R135). -/
def Context.atStart : Context := { Context.bare with stage := some .readingId, read := some .readId }

/-- Slot `i` as discovery start leaves it: the entry DISCOVERING with every other field at its reset value, the context at READING_ID,
the cycle timer at 50 ms, no miss, no forget timer (R23, R135). -/
abbrev State.Rediscovering (t : State) (i : Slot) : Prop :=
  t.entry i = Entry.bare .discovering ∧ t.context i = Context.atStart ∧
  t.fleetSlot i = { cycle := some 50, heard := false, misses := 0, forget := none }

/-- Slot `i` as a slot that holds no loader: EMPTY, with a clear context and stopped timers (R25, R147, R162). -/
abbrev State.Vacant (t : State) (i : Slot) : Prop :=
  t.entry i = Entry.bare .empty ∧ t.context i = Context.bare ∧
  t.fleetSlot i = { cycle := none, heard := false, misses := 0, forget := none }

/-- The call queue, the pointer and the ignored-call counters at their reset values (R72). -/
abbrev State.NoCalls (t : State) : Prop := t.calls = [] ∧ t.pointer = 0 ∧ ∀ i, t.ignoredCalls i = 0

/-- The zone plan, the policy table and the binding map at their values of power-on (R116, R147, R172). -/
abbrev State.PlansAtDefault (t : State) : Prop :=
  (∀ z, t.zone z = { state := .closed, cap := 1024, backoff := 0, allowed := 0b111111#6 }) ∧
  (∀ f ∈ [(NumField.offerTimeout, 8), (.gateTimeout, 10), (.passRamp, 8), (.engageRamp, 12), (.rundownRamp, 6),
      (.neutralWindow, 128), (.axisStale, 200), (.presenceGrace, 600), (.pressSettle, 100), (.missLimit, 5), (.forgetTime, 60)],
    f.1.get t.policy = f.2) ∧
  (∀ k ∈ [HandoverKind.take, .claim, .resume],
    t.policy.gateFor k = { phase := none, mask := 1#8, value := 1#8, sense := .matching, wait := true }) ∧
  (∀ k ∈ [HandoverKind.pass, .returned],
    t.policy.gateFor k = { phase := none, mask := 0#8, value := 0#8, sense := .matching, wait := true }) ∧
  t.policy.writeCount = 0 ∧ ∀ i, t.binding i = { unit := none, used := false }

/-! ### Requests as the screen of R164 sees them -/

/-- The sender and kind of a request other than CANCEL, and the content that each of its answers without content of its own carries:
the slot as carried, or nothing (R165, R186). -/
def requestOf : Instr → Option (Sender × RequestKind × Content)
  | .take b slot _ => some (b, .take, .slot slot)
  | .pass b slot _ _ => some (b, .pass, .slot slot)
  | .returnLoader b slot _ => some (b, .returnLoader, .slot slot)
  | .resume b slot _ => some (b, .resume, .slot slot)
  | .accept b slot => some (b, .accept, .slot slot)
  | .decline b slot => some (b, .decline, .slot slot)
  | .ready b => some (b, .ready, .nothing)
  | .unready b => some (b, .unready, .nothing)
  | .park b slot => some (b, .park, .slot slot)
  | .query b _ _ _ _ => some (b, .query, .nothing)
  | .ack b _ _ => some (b, .ack, .nothing)
  | .zoneSet b _ _ _ _ _ => some (b, .zoneSet, .nothing)
  | .policySet b _ _ => some (b, .policySet, .nothing)
  | .forceFree b slot => some (b, .forceFree, .slot slot)
  | .loaderRestart b slot => some (b, .loaderRestart, .slot slot)
  | .resetAll b => some (b, .resetAll, .nothing)
  | .resetKeep b => some (b, .resetKeep, .nothing)
  | _ => none

/-- The request kinds that only a chair port accepts, and those that only the service port accepts (R164). -/
def chairKinds : List RequestKind :=
  [.take, .pass, .returnLoader, .resume, .accept, .decline, .ready, .unready, .park]
def serviceKinds : List RequestKind := [.zoneSet, .policySet, .forceFree, .loaderRestart, .resetAll, .resetKeep]

/-- Whether a port accepts a kind (R164). -/
def acceptedKind (k : RequestKind) : Port → Bool
  | .chair _ => !serviceKinds.contains k
  | .service => !chairKinds.contains k

/-- A chair port at which request `k` from chair `c` is taken to its owner: the link is up and the request slot is empty. -/
abbrev State.Takes (s : State) (c : ChairId) : Prop := (s.chair c).state ≠ .offline ∧ (s.chair c).port.outstanding = none

/-- The service port at which a request is taken to its owner. -/
abbrev State.ServiceTakes (s : State) : Prop := s.service.port.outstanding = none

/-- The chair after a request of it that changes nothing else is answered: the port has heard a frame, and the answer is queued. -/
def Chair.replied (a : Answer) (x : Chair) : Chair := { x with port := x.port.heard.enqueue (.answer a) }

/-- The state in which the service port, online from its request's frame, has answered it. -/
def State.serviceReplied (a : Answer) (s : State) : State :=
  { s with service := { online := true, port := s.service.port.heard.enqueue (.answer a) } }

/-- The state in which a notice has gone to the service link, which discards it while OFFLINE (R91). -/
def State.told (n : Notice) (s : State) : State :=
  if s.service.online then { s with service := { s.service with port := s.service.port.enqueue (.notice n) } } else s

/-- The code of the first condition that holds in a list of refusals. -/
def firstRefusal : List (Bool × Code) → Option Code
  | [] => none
  | (refuses, code) :: rest => if refuses then some code else firstRefusal rest

/-- A slot's bound unit number, 0 for none. -/
def State.unitNumber (s : State) (i : Slot) : UnitNumber := (s.binding i).unit.getD 0#32

/-- The outcome of the dispatcher's last part: it runs if the condition holds. -/
def ranIf (b : Bool) (s : State) : State := if b then runDispatcher s else s

/-- The presence an AXIS frame leaves (R78, R80): `before` is ABSENT for a chair that the frame brings online. -/
def presenceAfter (enable : Bool) (pressSettle : Nat) (before : Presence) : Presence :=
  match enable, before with
  | true, .present => .present
  | true, .settling => .settling
  | true, _ => if pressSettle = 0 then .present else .settling
  | false, .absent => .absent
  | false, _ => .released

/-- The frame of each entry state (R95): its mode, its axes before the cap, and its discrete channels. -/
def frameTable (s : State) (i : Slot) : Option FrameSource :=
  let e := s.entry i
  let hold : FrameSource :=
    { mode := .hold, axes := ⟨0, 0, 0, 0⟩, gear := .n, parkBrake := true, horn := false, lights := e.lights, ramped := false }
  let ramped (r : Ramp) (target : Axes) : Axes :=
    { steer := rampAxis r.start.steer target.steer r.progress r.length, travel := rampAxis r.start.travel target.travel r.progress r.length,
      boom := rampAxis r.start.boom target.boom r.progress r.length, bucket := rampAxis r.start.bucket target.bucket r.progress r.length }
  match e.state with
  | .empty | .discovering | .refused => none
  | .free =>
    match e.ramp with
    | none => some hold
    | some r => some { hold with axes := ramped r ⟨0, 0, 0, 0⟩, parkBrake := false, ramped := true }
  | .auto =>
    some { hold with mode := .auto, parkBrake := false, axes := ⟨0, ((s.loaderZone i).cap : Int), 0, 0⟩ }
  | .held =>
    match e.holder with
    | some (.chair c) =>
      let m := (s.chair c).sample
      if (s.chair c).presence = .present then
        some
          { mode := .drive, gear := m.gear, parkBrake := m.brakeReq, horn := m.horn, lights := m.lights, ramped := e.ramp.isSome
            axes := match e.ramp with
              | none => m.axes
              | some r => ramped r m.axes }
      else some hold
    | _ => some hold
  | .locked | .linkLost | .tripped => some hold

/-! ### Frames as the consoles and the loaders write them -/

/-- A gate record that a request carries, by the layout of R186; the bits of the control byte that are not read are those of `spare`. -/
def gatePayload (spare : Byte) : Option GateIn → List Byte
  | none => []
  | some g =>
    [g.phase.getD 0xFF#8, g.mask, g.value,
     (spare &&& 0xFC#8) ||| (if g.sense = .differ then 1#8 else 0#8) ||| (if g.wait then 2#8 else 0#8)]

/-- The payload of the REQUEST frame that spells a command, by the request table of R186, and the port it comes from; none for a command
that is no request. The bits that are not read are those of `spare`. -/
def requestPayload (spare : Byte) (cmd : Instr) : Option (Port × List Byte) :=
  let sent (b : Sender) (code : Byte) (parameters : List Byte) : Option (Port × List Byte) :=
    some (b.port, code :: ((spare &&& 0xF0#8) ||| BitVec.ofNat 8 b.tag.val) :: parameters)
  match cmd with
  | .take b slot g => sent b 0x01#8 (slot :: gatePayload spare g)
  | .pass b slot target g => sent b 0x02#8 (slot :: target :: gatePayload spare g)
  | .returnLoader b slot g => sent b 0x03#8 (slot :: gatePayload spare g)
  | .resume b slot g => sent b 0x04#8 (slot :: gatePayload spare g)
  | .accept b slot => sent b 0x05#8 [slot]
  | .decline b slot => sent b 0x06#8 [slot]
  | .ready b => sent b 0x07#8 []
  | .unready b => sent b 0x08#8 []
  | .park b slot => sent b 0x09#8 [slot]
  | .cancel b => sent b 0x0A#8 []
  | .query b target number field index => sent b 0x0B#8 [target, number, field, index]
  | .ack b flags clear => sent b 0x0C#8 (bytesOfHalf flags ++ [(spare &&& 0x7F#8) ||| (if clear then 0x80#8 else 0#8)])
  | .zoneSet b zone st cap backoff allowed =>
    sent b 0x20#8
      ([zone, if st = .opened then 0#8 else 1#8] ++ bytesOfHalf cap ++ bytesOfHalf backoff ++
        [(spare &&& 0xC0#8) ||| allowed.zeroExtend 8])
  | .policySet b field (.number v) => sent b 0x21#8 (field :: bytesOfHalf v)
  | .policySet b field (.gate g) => sent b 0x21#8 (field :: gatePayload spare (some g))
  | .forceFree b slot => sent b 0x22#8 [slot]
  | .loaderRestart b slot => sent b 0x23#8 [slot]
  | .resetAll b => sent b 0x24#8 []
  | .resetKeep b => sent b 0x25#8 []
  | _ => none

/-- The request codes with each payload length that the request table allows for them (R185, R186). -/
def requestShapes : List (Nat × Nat) :=
  [(0x01, 3), (0x01, 7), (0x02, 4), (0x02, 8), (0x03, 3), (0x03, 7), (0x04, 3), (0x04, 7), (0x05, 3), (0x06, 3), (0x07, 2), (0x08, 2),
   (0x09, 3), (0x0A, 2), (0x0B, 6), (0x0C, 5), (0x20, 9), (0x21, 5), (0x21, 7), (0x22, 3), (0x23, 3), (0x24, 2), (0x25, 2)]

/-- The kind, the unit number and the rest of the payload of the fleet frame that spells a command of a loader (R186); none for any other
command. -/
def fleetContent : Instr → Option (Byte × UnitNumber × List Byte)
  | .hello u => some (0x10#8, u, [])
  | .telemetry u payload => some (0x11#8, u, payload)
  | .call u .faultAssist => some (0x12#8, u, [0#8])
  | .call u .hangup => some (0x12#8, u, [1#8])
  | .call u .muck => some (0x12#8, u, [2#8])
  | .callClear u => some (0x12#8, u, [3#8])
  | .idAnswer u n period watchdog => some (0x13#8, u, [n.c0, n.c1, n.c2, n.c3] ++ bytesOfHalf period ++ bytesOfHalf watchdog)
  | .entryAnswer u index (some d) =>
    some (0x14#8, u,
      [index, 0#8, d.function, d.direction, d.size, d.kind] ++ bytesOfHalf d.rawMin ++ bytesOfHalf d.rawNeutral ++ bytesOfHalf d.rawMax)
  | .entryAnswer u index none => some (0x14#8, u, [index, 1#8])
  | _ => none

/-- Whether a fleet payload's length, and an ENTRY's marker, suit the kind of the frame (R154, R186). -/
abbrev fleetShape (kind : Byte) (payload : List Byte) : Prop :=
  let n := payload.length
  (kind = 0x10#8 ∧ n = 4) ∨ (kind = 0x11#8 ∧ 4 ≤ n) ∨ (kind = 0x12#8 ∧ n = 5) ∨ (kind = 0x13#8 ∧ n = 12) ∨
    (kind = 0x14#8 ∧ ((n = 16 ∧ payload[5]? = some 0#8) ∨ (n = 6 ∧ payload[5]? = some 1#8)))

/-- The raw value of an axis value on an analog channel, from the channel's raw range (R108). -/
def rawOf (d : Descriptor) (n : Int) : Int :=
  let up := (d.rawMax.toInt - d.rawNeutral.toInt) * 65536 / 2047
  let down := (d.rawNeutral.toInt - d.rawMin.toInt) * 32
  if 0 ≤ n then d.rawNeutral.toInt + (n * up + 32768) / 65536 else d.rawNeutral.toInt - (-n * down + 32768) / 65536

/-- What a frame puts into an OUT channel, by the channel's function (R108, R110, R139). -/
def outValue (axes : Axes) (src : FrameSource) (d : Descriptor) : Int :=
  match d.function.toNat with
  | 0 => rawOf d axes.steer
  | 1 => rawOf d axes.travel
  | 2 => rawOf d axes.boom
  | 3 => rawOf d axes.bucket
  | 4 =>
    match src.gear with
    | .n => 0
    | .f => 1
    | .r => 2
  | 5 => if src.parkBrake then 1 else 0
  | 6 => if src.horn then 1 else 0
  | _ => if src.lights then 1 else 0

/-! ### Frames as the part writes them -/

/-- One byte of a sent payload: the bits that a rule names, and their value; the other bits are free (log entry 13). -/
structure Written where
  named : Byte
  value : Byte
  deriving DecidableEq, Repr

/-- Some bits of one byte, as a number. -/
def bitsAs (named value : Nat) : List Written := [⟨BitVec.ofNat 8 named, BitVec.ofNat 8 value⟩]

/-- A number in one, two and four bytes, high byte first, two's complement for a negative one (R180). -/
def byteAs (n : Nat) : List Written := bitsAs 0xFF n
def halfAs (n : Int) : List Written := byteAs ((n % 65536).toNat / 256) ++ byteAs ((n % 65536).toNat % 256)
def wordAs (n : Nat) : List Written := byteAs (n / 16777216) ++ byteAs (n / 65536) ++ byteAs (n / 256) ++ byteAs n

/-- 1 for a yes, 0 for a no. -/
def yes (b : Bool) : Nat := if b then 1 else 0
def yesAs (b : Bool) : List Written := byteAs (yes b)

/-- The numbers of the enumerated values: places in the orders that R186 names. -/
def entryStateNumber (x : EntryState) : Nat :=
  [EntryState.empty, .discovering, .refused, .free, .auto, .held, .locked, .linkLost, .tripped].idxOf x
def chairStateNumber (x : ChairState) : Nat := [ChairState.offline, .idle, .ready, .offered, .engaging, .driving].idxOf x
def presenceNumber (x : Presence) : Nat := [Presence.present, .settling, .released, .absent].idxOf x
def kindNumber (x : HandoverKind) : Nat := [HandoverKind.take, .claim, .pass, .returned, .resume].idxOf x
def phaseNumber (x : HandoverPhase) : Nat := [HandoverPhase.offering, .gating].idxOf x
def purposeNumber (x : RampPurpose) : Nat := [RampPurpose.engage, .pass, .rundown].idxOf x
def stageNumber (x : Stage) : Nat := [Stage.readingId, .readingEntries, .awaitingTelemetry].idxOf x
def modeNumber (x : Mode) : Nat := [Mode.stop, .restart, .hold, .auto, .drive].idxOf x
def reasonNumber (x : CallReason) : Nat := [CallReason.faultAssist, .hangup, .muck].idxOf x
def gearNumber (x : Gear) : Nat := [Gear.n, .f, .r].idxOf x
def zoneStateNumber (x : ZoneState) : Nat := [ZoneState.opened, .closed].idxOf x

/-- The request codes: 1 to 12 for the chairs' kinds and the common ones, 0x20 to 0x25 for the supervisor's (R186). -/
def requestNumber (x : RequestKind) : Nat :=
  let n := [RequestKind.take, .pass, .returnLoader, .resume, .accept, .decline, .ready, .unready, .park, .cancel, .query, .ack,
    .zoneSet, .policySet, .forceFree, .loaderRestart, .resetAll, .resetKeep].idxOf x
  if n < 12 then n + 1 else n + 20

/-- The answer and cause codes (R186). -/
def codeNumber (x : Code) : Nat :=
  [Code.done, .busy, .fieldError, .cancelled, .nothingPending, .notHolder, .handoverPending, .notAvailable, .zoneClosed, .notPermitted,
    .busyChair, .targetBusy, .targetAbsent, .targetUnavailable, .self, .noPrevious, .notPresent, .noOffer, .declined, .offerTimeout,
    .gateFailed, .gateTimeout, .sourceLost, .targetOffline, .linkLost, .tripped, .loaderRestart, .forced, .callCleared, .absent, .link,
    .zoneExit, .noAnswer, .descriptorOversize, .descriptorInvalid, .descriptorIncomplete].idxOf x

/-- The numbers of the policy fields, in the order of R172. -/
def fieldNumber (x : PolicyField) : Nat :=
  match x with
  | .number f => numFields.idxOf f
  | .gate k => 11 + kindNumber k
  | .writeCount => 16

/-- A party: 0 to 5 a chair, 6 AUTO, 7 none. -/
def partyNumber : Option Party → Nat
  | some (.chair c) => c.val
  | some .auto => 6
  | none => 7

/-- A discovery read: 0xFE READ_ID, the index of a READ_ENTRY, 0xFF none. -/
def readNumber : Option Read → Nat
  | some .readId => 0xFE
  | some (.readEntry n) => n.toNat
  | none => 0xFF

def gateAs (g : Gate) : List Written :=
  byteAs ((g.phase.map (·.val)).getD 0xFF) ++ byteAs g.mask.toNat ++ byteAs g.value.toNat ++
    bitsAs 0x03 (yes (g.sense == .differ) + 2 * yes g.wait)

def valueAs : FieldValue → List Written
  | .number v => halfAs v
  | .gate g => gateAs g

def axesAs (a : Axes) : List Written := halfAs a.steer ++ halfAs a.travel ++ halfAs a.boom ++ halfAs a.bucket

def zoneAs (z : Zone) : List Written :=
  byteAs (zoneStateNumber z.state) ++ halfAs z.cap ++ halfAs z.backoff ++ byteAs z.allowed.toNat

/-- What follows a field that is there or not: 1 and the content, or 0 and nothing (R186). -/
def presentAs {α : Type} (content : α → List Written) : Option α → List Written
  | none => byteAs 0
  | some x => byteAs 1 ++ content x

/-- The content of an answer by the answer table of R186. The refusal of a UNIT answer without one ends at its cause, and the fields of
LOADER follow its relation (log entries 11 and 12); STATE has its three bytes in every state (log entry 31). -/
def contentAs : Content → List Written
  | .nothing => []
  | .slot carried => byteAs carried.toNat
  | .zoneStored z r => byteAs z.val ++ zoneAs r
  | .policyStored f v n => byteAs (fieldNumber f) ++ valueAs v ++ halfAs n
  | .acknowledged flags n => halfAs flags.toNat ++ byteAs n
  | .entryState st halted drop => byteAs (entryStateNumber st) ++ yesAs halted ++ yesAs drop
  | .holder p => byteAs (partyNumber p)
  | .handover h =>
    presentAs (fun h =>
      byteAs (kindNumber h.kind) ++ byteAs (partyNumber h.source) ++ byteAs (partyNumber (some h.target)) ++
        byteAs (phaseNumber h.phase) ++ byteAs (partyNumber (h.requester.map .chair)) ++ yesAs h.callAttached) h
  | .stack st =>
    [0, 1, 2, 3].flatMap fun k =>
      byteAs (match st[k]? with
        | some p => partyNumber (some p)
        | none => 0xFF)
  | .status ls =>
    presentAs (fun ls =>
      byteAs ls.phase.val ++ byteAs ls.flags.toNat ++ halfAs ls.speed ++ byteAs ls.zone.val ++ halfAs ls.faults.toNat ++
        byteAs ls.aux.length ++ ls.aux.flatMap halfAs) ls
  | .applied a lights r =>
    axesAs a ++ yesAs lights ++ presentAs (fun r => byteAs (purposeNumber r.purpose) ++ byteAs r.progress ++ byteAs r.length) r
  | .callOf ignored call =>
    byteAs ignored ++
      presentAs (fun (position, k) =>
        byteAs (reasonNumber k.reason) ++ byteAs position ++ yesAs k.reserved ++ byteAs k.declined.toNat ++ byteAs k.unserved) call
  | .unit u used stage read refusal =>
    wordAs (u.getD 0#32).toNat ++ yesAs used ++ byteAs ((stage.map stageNumber).getD 0xFF) ++ byteAs (readNumber read) ++
      (match refusal with
        | none => byteAs 0xFF
        | some r => byteAs (codeNumber r.cause) ++ byteAs (stageNumber r.stage) ++ byteAs (readNumber r.read))
  | .name n =>
    presentAs (fun (n, period, watchdog) =>
      byteAs n.c0.toNat ++ byteAs n.c1.toNat ++ byteAs n.c2.toNat ++ byteAs n.c3.toNat ++ halfAs (period : Nat) ++ halfAs (watchdog : Nat)) n
  | .descriptor d =>
    presentAs (fun (d, g) =>
      byteAs d.function.toNat ++ byteAs d.direction.toNat ++ byteAs d.size.toNat ++ byteAs d.kind.toNat ++ halfAs d.rawMin.toInt ++
        halfAs d.rawNeutral.toInt ++ halfAs d.rawMax.toInt ++ presentAs (fun g => wordAs g.pos ++ wordAs g.neg) g) d
  | .chairState st latch => byteAs (chairStateNumber st) ++ yesAs latch
  | .presence p grace m =>
    byteAs (presenceNumber p) ++ yesAs grace ++ axesAs m.axes ++
      bitsAs 0x3F (yes m.enable + 2 * yes m.brakeReq + 4 * yes m.horn + 8 * yes m.lights + 16 * gearNumber m.gear)
  | .loader .none => byteAs 0
  | .loader (.driving i halted) => byteAs 1 ++ byteAs i.val ++ yesAs halted
  | .loader (.target i kind phase) => byteAs 2 ++ byteAs i.val ++ byteAs (kindNumber kind) ++ byteAs (phaseNumber phase)
  | .flags flags => halfAs flags.toNat
  | .errorCount n => byteAs n
  | .queue pointer calls =>
    byteAs pointer.val ++ byteAs calls.length ++ calls.flatMap fun k =>
      bitsAs 0xBF (k.slot.val + 16 * reasonNumber k.reason + 128 * yes k.reserved) ++ byteAs k.declined.toNat
  | .zone r items =>
    zoneAs r ++ byteAs items.length ++ items.flatMap fun z =>
      byteAs (16 * z.slot.val + entryStateNumber z.state) ++ bitsAs 0x87 (partyNumber z.holder + 128 * yes z.zoneDrop)
  | .policy f v => byteAs (fieldNumber f) ++ valueAs v

/-- A notice by the notice table of R186. -/
def noticeAs : Notice → List Written
  | .offer i u z phase kind origin =>
    byteAs 0 ++ byteAs i.val ++ wordAs u.toNat ++ byteAs z.val ++ byteAs phase.val ++ byteAs (kindNumber kind) ++
      byteAs (match origin with
        | .call r => reasonNumber r
        | .chair c => c.val)
  | .offerWithdrawn i cause => byteAs 1 ++ byteAs i.val ++ byteAs (codeNumber cause)
  | .abandoned i cause => byteAs 2 ++ byteAs i.val ++ byteAs (codeNumber cause)
  | .holding i kind source => byteAs 3 ++ byteAs i.val ++ byteAs (kindNumber kind) ++ byteAs (partyNumber source)
  | .lost i cause => byteAs 5 ++ byteAs i.val ++ byteAs (codeNumber cause)
  | .zone i z nowSet => byteAs 6 ++ byteAs i.val ++ byteAs z.val ++ yesAs nowSet
  | .unserved i r z n => byteAs 7 ++ byteAs i.val ++ byteAs (reasonNumber r) ++ byteAs z.val ++ byteAs n
  | .tripped i u watchdogTrip estop left holder =>
    byteAs 8 ++ byteAs i.val ++ wordAs u.toNat ++ bitsAs 0x03 (yes watchdogTrip + 2 * yes estop) ++ byteAs (entryStateNumber left) ++
      byteAs (partyNumber holder)
  | .linkLost i u left holder => byteAs 9 ++ byteAs i.val ++ wordAs u.toNat ++ byteAs (entryStateNumber left) ++ byteAs (partyNumber holder)
  | .refused i u r =>
    byteAs 10 ++ byteAs i.val ++ wordAs u.toNat ++ byteAs (codeNumber r.cause) ++ byteAs (stageNumber r.stage) ++ byteAs (readNumber r.read)
  | .rebound i earlier new => byteAs 11 ++ byteAs i.val ++ wordAs earlier.toNat ++ wordAs new.toNat
  | .slotsFull u => byteAs 12 ++ wordAs u.toNat
  | .zoneDrop i c z => byteAs 13 ++ byteAs i.val ++ byteAs c.val ++ byteAs z.val

/-- The kind and the payload of a frame of a chair or service port (R186). -/
def portFrameAs : PortFrame → Byte × List Written
  | .answer a => (0x81#8, byteAs (requestNumber a.kind) ++ byteAs a.tag.val ++ byteAs (codeNumber a.code) ++ contentAs a.content)
  | .notice n => (0x82#8, noticeAs n)
  | .status f =>
    (0x83#8,
      byteAs f.slot.val ++ byteAs f.status.phase.val ++ byteAs f.status.flags.toNat ++ halfAs f.status.speed ++ byteAs f.status.zone.val ++
        axesAs f.applied ++ bitsAs 0x03 (yes f.capped + 2 * yes f.rampActive) ++ f.status.aux.flatMap halfAs)

/-- The kind and the payload of a frame of the fleet port (R186). -/
def fleetFrameAs : FleetFrame → Byte × List Written
  | .command _ u mode payload => (0x90#8, wordAs u.toNat ++ byteAs (modeNumber mode) ++ payload.flatMap fun b => byteAs b.toNat)
  | .read _ u .readId => (0x91#8, wordAs u.toNat)
  | .read _ u (.readEntry n) => (0x92#8, wordAs u.toNat ++ byteAs n.toNat)

/-- One bit taken into the CRC register: it shifts left, and 0x1021 is folded in when the bit shifted out differs from the bit taken. -/
def crcBit (r : Half) (b : Bool) : Half := if r.getLsbD 15 = b then r <<< 1 else (r <<< 1) ^^^ 0x1021#16

/-- The CRC of R181 bit by bit, each byte's most significant bit first. -/
def crcOfBits (bytes : List Byte) : Half :=
  (bytes.flatMap fun b => [7, 6, 5, 4, 3, 2, 1, 0].map b.getLsbD).foldl crcBit 0xFFFF#16

/-- The bytes are those of a frame of a kind and a payload: sync byte, kind, length, payload, and the CRC, high byte first (R180, R181). -/
abbrev Sends (frame : Byte × List Written) (bytes : List Byte) : Prop :=
  ∃ payload : List Byte, List.Forall₂ (fun w b => b &&& w.named = w.value) frame.2 payload ∧
    let body := frame.1 :: BitVec.ofNat 8 payload.length :: payload
    let sum := crcOfBits body
    bytes = 0xA5#8 :: (body ++ [BitVec.ofNat 8 (sum.toNat / 256), BitVec.ofNat 8 sum.toNat])

/-! ### Handovers as the requests start them -/

/-- The refusal of a TAKE of slot `i` by chair `c`, none when every check passes (R32). -/
def takeRefusal (s : State) (i : Slot) (c : ChairId) : Option Code :=
  let e := s.entry i
  let x := s.chair c
  firstRefusal
    [(e.handover.isSome, .handoverPending), (e.state == .locked, .zoneClosed), (e.state != .free && e.state != .auto, .notAvailable),
     (!s.allowedAt i c, .notPermitted), (x.state != .idle && x.state != .ready, .busyChair), (x.presence != .present, .notPresent)]

/-- The record a TAKE creates; an unreserved call of an AUTO loader is attached (R32). -/
def takeRecord (s : State) (i : Slot) (c : ChairId) (g : Option Gate) : Handover :=
  { kind := .take, source := if (s.entry i).state = .auto then some .auto else none, target := .chair c, phase := .gating,
    gate := { policy := s.policy.gateTake, request := g }, deadline := s.policy.gateTimeout, requester := some c,
    callAttached := (s.entry i).state == .auto && (s.findCall i).any (fun k => !k.reserved) }

/-- The refusal of a PASS of slot `i` from chair `c` to chair `m` (R33). -/
def passRefusal (s : State) (i : Slot) (c m : ChairId) : Option Code :=
  let e := s.entry i
  let y := s.chair m
  firstRefusal
    [(e.handover.isSome, .handoverPending), (!(e.state == .held && e.holder == some (.chair c)), .notHolder), (m == c, .self),
     (y.state != .idle && y.state != .ready, .targetBusy), (y.presence != .present, .targetAbsent), (!s.allowedAt i m, .notPermitted)]

/-- The refusal of a RETURN of slot `i` from chair `c` (R34). -/
def returnRefusal (s : State) (i : Slot) (c : ChairId) : Option Code :=
  let e := s.entry i
  let fit (m : ChairId) : Bool :=
    m != c && ((s.chair m).state == .idle || (s.chair m).state == .ready) && (s.chair m).presence == .present && s.allowedAt i m
  firstRefusal
    [(e.handover.isSome, .handoverPending), (!(e.state == .held && e.holder == some (.chair c)), .notHolder),
     (e.stack.isEmpty, .noPrevious),
     ((match e.stack with
        | .chair m :: _ => !fit m
        | _ => false), .targetUnavailable)]

/-- The record a RETURN creates: an offer to a chair, or a handover to AUTO in GATING (R34). -/
def returnRecord (s : State) (c : ChairId) (target : Party) (g : Option Gate) : Handover :=
  { kind := .returned, source := some (.chair c), target := target, phase := if target = .auto then .gating else .offering,
    gate := { policy := s.policy.gateReturn, request := g },
    deadline := if target = .auto then s.policy.gateTimeout else s.policy.offerTimeout, requester := some c, callAttached := false }

/-- The record a RESUME creates (R35). -/
def resumeRecord (s : State) (c : ChairId) (g : Option Gate) : Handover :=
  { kind := .resume, source := some (.chair c), target := .auto, phase := .gating,
    gate := { policy := s.policy.gateResume, request := g }, deadline := s.policy.gateTimeout, requester := some c,
    callAttached := false }

/-- Whether a descriptor would be the twenty-fifth of a list or the thirteenth of its direction (R138). -/
abbrev tooMany (ds : List Descriptor) (d : Descriptor) : Prop :=
  24 ≤ ds.length ∨ (d.direction = 0#8 ∧ 12 ≤ (ds.filter fun k => k.direction == 0#8).length) ∨
    (d.direction = 1#8 ∧ 12 ≤ (ds.filter fun k => k.direction == 1#8).length)

end Sys2Proof.Machine
end

