-- ==== Sys2Proof/Certificates/Slice0/Obligations.lean ====
section
/-! DEFINITION. The statements about the part that the provers are asked to prove, in the order of OBLIGATIONS.json. `s.Quiet` says that
the model's own dispatcher flag is clear, as it is between events (CommandsNeverStop). -/

open Sys2Proof Sys2Proof.Machine

/-! ### The machine, resets and the screen of requests -/

/-- A step executes the command at the front of the queue on the state with the queue's rest; with no command waiting the part idles,
which is the model's choice (log entry 1). -/
def Obligations.StepRunsFrontCommand : Prop :=
  (∀ (c : Instr) (rest : List Instr) (s : State),
    s.pending = c :: rest → step s = exec c { s with pending := rest }) ∧
  ∀ s : State, s.pending = [] → step s = .next s

/-- Every command is answered by a next state, in which the commands that wait are as they were, the dispatcher's flag is clear, and
GATEWAY_READY has changed only by its own command. These are the model's choices and readings: that no command stops (log entry 23), the
queue of commands (log entry 1), which POWER_ON keeps (log entry 22), GATEWAY_READY, which POWER_ON and the resets keep (log entries 3 and 22), and
the flag (log entry 18). -/
def Obligations.CommandsNeverStop : Prop :=
  ∀ (c : Instr) (s : State), ∃ t, exec c s = .next t ∧ t.Quiet ∧ t.pending = s.pending ∧
    ((∀ b, c ≠ .gatewayReadyChange b) → t.gatewayReady = s.gatewayReady)

/-- POWER_ON and RESET_ALL leave every block at the values of R25, R72, R93, R116, R147, R162, R172 and R178. That the bytes of
the frame last begun are empty after POWER_ON and kept by RESET_ALL is read by inference (log entry 4), and so is that POWER_ON leaves
GATEWAY_READY (log entries 3 and 22). -/
def Obligations.ResetsClearThePart : Prop :=
  (∀ s : State, ∃ t, exec .powerOn s = .next t ∧ (∀ i, t.Vacant i) ∧ t.NoCalls ∧ t.PlansAtDefault ∧ t.fleetQueue = [] ∧
    (∀ c, t.chair c = Chair.gone 0 0 []) ∧
    t.service = { online := false, port := (Chair.gone 0 0 []).port } ∧ t.gatewayReady = s.gatewayReady ∧ t.fleetSending = []) ∧
  ∀ (s : State) (tag : Tag), s.Quiet → s.ServiceTakes →
    ∃ t, exec (.resetAll ⟨.service, tag⟩) s = .next t ∧ (∀ i, t.Vacant i) ∧ t.NoCalls ∧ t.PlansAtDefault ∧ t.fleetQueue = [] ∧
      (∀ c, t.chair c = Chair.gone 0 0 (s.chair c).port.sending) ∧
      t.service =
        { online := true
          port :=
            { (Chair.gone 0 0 s.service.port.sending).port with
              silence := some 1000
              queue := [.answer { kind := .resetAll, tag := tag, code := .done, content := .nothing }] } } ∧
      t.gatewayReady = s.gatewayReady ∧ t.fleetSending = s.fleetSending

/-- RESET_KEEP keeps the zone plan, the policy and the bindings, starts discovery on every slot whose entry was not EMPTY, with one READ_ID
for each in slot order, and clears everything else as RESET_ALL does. That the bytes of the frame last begun on each link are kept is read by
inference (log entry 4). -/
def Obligations.ResetKeepRediscovers : Prop :=
  ∀ (s : State) (tag : Tag), s.Quiet → s.ServiceTakes →
    ∃ t, exec (.resetKeep ⟨.service, tag⟩) s = .next t ∧
      t.zones = s.zones ∧ t.policy = s.policy ∧ t.bindings = s.bindings ∧ t.NoCalls ∧
      (∀ i, (s.entry i).state = .empty → t.Vacant i) ∧
      (∀ i, (s.entry i).state ≠ .empty → t.Rediscovering i) ∧
      t.fleetQueue =
        (allSlots.filter fun i => (s.entry i).state != .empty).map (fun i => .read i (s.unitNumber i) .readId) ∧
      (∀ c, t.chair c = Chair.gone 0 0 (s.chair c).port.sending) ∧
      t.service =
        { online := true
          port :=
            { (Chair.gone 0 0 s.service.port.sending).port with
              silence := some 1000
              queue := [.answer { kind := .resetKeep, tag := tag, code := .done, content := .nothing }] } } ∧
      t.gatewayReady = s.gatewayReady ∧ t.fleetSending = s.fleetSending

/-- A request other than CANCEL that finds the request slot occupied is answered BUSY, and one of a kind that the port does not accept
FIELD_ERROR with FIELD set; either has no effect besides those of a valid frame. A request, CANCEL included, that finds its chair OFFLINE acts
as on the chair brought online, IDLE and ABSENT with its latch clear. -/
def Obligations.RequestsAreScreened : Prop :=
  (∀ (cmd : Instr) (b : Sender) (k : RequestKind) (content : Content) (s : State),
    s.Quiet → requestOf cmd = some (b, k, content) →
    let u := goodFrame b.port s
    ((u.port b.port).outstanding ≠ none →
      exec cmd s = .next (u.answer b.port { kind := k, tag := b.tag, code := .busy, content := content })) ∧
    ((u.port b.port).outstanding = none → acceptedKind k b.port = false →
      exec cmd s =
        .next ((u.raise b.port .field).answer b.port { kind := k, tag := b.tag, code := .fieldError, content := content }))) ∧
  ∀ (cmd : Instr) (c : ChairId) (tag : Tag) (s : State),
    cmd = .cancel ⟨.chair c, tag⟩ ∨ (requestOf cmd).map (·.1) = some ⟨.chair c, tag⟩ →
    (s.chair c).state = .offline →
    exec cmd s = exec cmd (s.setChair c { s.chair c with state := .idle, presence := .absent, latch := false })

/-- A number out of range in a request that reaches its owner is answered FIELD_ERROR with FIELD set on the sending port: a loader slot
above 15, a chair above 5, a zone above 7, a gate phase above 7, and a QUERY target, field or index that R170 does not give. The dispatcher
runs for the ZONE_SET. -/
def Obligations.NumbersOutOfRangeAreRefused : Prop :=
  ∀ (s : State) (b : Sender), s.Quiet →
    let u := goodFrame b.port s
    (u.port b.port).outstanding = none →
    let refused (k : RequestKind) (content : Content) : State :=
      (u.raise b.port .field).answer b.port { kind := k, tag := b.tag, code := .fieldError, content := content }
    (∀ (cmd : Instr) (k : RequestKind) (slot : Byte), requestOf cmd = some (b, k, .slot slot) → acceptedKind k b.port = true →
      15 < slot.toNat → exec cmd s = .next (refused k (.slot slot))) ∧
    (∀ (slot target : Byte) (gate : Option GateIn), acceptedKind .pass b.port = true → 5 < target.toNat →
      exec (.pass b slot target gate) s = .next (refused .pass (.slot slot))) ∧
    (∀ (slot : Byte) (r : GateIn) (p : Byte), 7 < p.toNat → acceptedKind .take b.port = true →
      let g : GateIn := { r with phase := some p }
      exec (.take b slot (some g)) s = .next (refused .take (.slot slot)) ∧
      (∀ target, exec (.pass b slot target (some g)) s = .next (refused .pass (.slot slot))) ∧
      exec (.returnLoader b slot (some g)) s = .next (refused .returnLoader (.slot slot)) ∧
      exec (.resume b slot (some g)) s = .next (refused .resume (.slot slot))) ∧
    (∀ (target number field index : Byte),
      (target.toNat = 0 ∧ 15 < number.toNat) ∨ (target.toNat = 1 ∧ 5 < number.toNat) ∨ (target.toNat = 4 ∧ 7 < number.toNat) ∨
        5 < target.toNat ∨ (target.toNat = 0 ∧ field.toNat = 9 ∧ 23 < index.toNat) ∨ (target.toNat = 0 ∧ 9 < field.toNat) ∨
        (target.toNat = 1 ∧ 4 < field.toNat) ∨ (target.toNat = 2 ∧ field.toNat ≠ 3 ∧ field.toNat ≠ 4) ∨
        (target.toNat = 5 ∧ 16 < field.toNat) →
      exec (.query b target number field index) s = .next (refused .query .nothing)) ∧
    (∀ (zone : Byte) (st : ZoneState) (cap backoff : Half) (allowed : ChairSet), acceptedKind .zoneSet b.port = true →
      7 < zone.toNat →
      exec (.zoneSet b zone st cap backoff allowed) s = .next (runDispatcher (refused .zoneSet .nothing)))

/-! ### Links -/

/-- An IDLE frame brings an OFFLINE port online, a chair IDLE and ABSENT with its latch clear, restarts the silence timer at 1000 ms and
sets the bad-frame run to 0, and changes nothing else. At the silence expiry of a chair that holds no loader and that no record targets, the
chair is OFFLINE with everything but its flags and error count cleared, and the dispatcher runs; at that of the service port, the port is
OFFLINE and nothing else changes. That the bytes of the frame last begun are kept is read by inference (log entry 4). -/
def Obligations.IdleFramesKeepTheLinkUp : Prop :=
  ∀ s : State, s.Quiet →
    (∀ c, let x := s.chair c
      exec (.idle (.chair c)) s =
        .next (s.setChair c
          (if x.state = .offline then
            { x with state := .idle, presence := .absent, latch := false, port := x.port.heard }
          else { x with port := x.port.heard }))) ∧
    exec (.idle .service) s = .next { s with service := { online := true, port := s.service.port.heard } } ∧
    (∀ c, let r := (s.chair c).port
      r.silence ≠ none → s.heldSlot c = none → s.targetSlot c = none →
      exec (.silenceExpiry (.chair c)) s = .next (runDispatcher (s.setChair c (Chair.gone r.flags r.errors r.sending)))) ∧
    (s.service.port.silence ≠ none →
      exec (.silenceExpiry .service) s =
        .next { s with
          service := { online := false, port := { s.service.port with silence := none, badRun := 0, outstanding := none, queue := [] } } })

/-- A bad frame sets CRC or FORMAT and counts in the error count, whether the port is online or not; on an online port that has had fewer
than three in a row it also increments the bad-frame run. It changes nothing else. An AXIS frame with an axis value outside the counts is a
bad frame. Every event that sets a sticky flag of a port sets its bit of R187, of CRC 0 to ZONE_RANGE 9, and leaves the other bits; it counts
in the error count, which stops at 255, but for the fleet flags and ZONE_RANGE. -/
def Obligations.BadFramesAreCounted : Prop :=
  (∀ (s : State) (p : Port) (why : BadFrame), s.Quiet →
    let r := s.port p
    let flagged : PortRegs :=
      { r with flags := r.flags ||| (if why = .crc then 0x001#16 else 0x002#16), errors := min 255 (r.errors + 1) }
    (s.online p = false → exec (.badFrame p why) s = .next (s.setPort p flagged)) ∧
    (s.online p = true → r.badRun < 3 →
      exec (.badFrame p why) s = .next (s.setPort p { flagged with badRun := r.badRun + 1 }))) ∧
  (∀ (s : State) (c : ChairId) (f : AxisFrame), ¬ f.WellFormed →
    exec (.axis c f) s = exec (.badFrame (.chair c) .content) s) ∧
  (∀ (s : State) (p : Port) (x : Sticky), s.raise p x = s.setPort p ((s.port p).raise x)) ∧
  ∀ (r : PortRegs) (x : Sticky),
    let place := [Sticky.crc, .format, .field, .txOverflow, .gearInvalid, .stale, .fleetCrc, .fleetFormat, .unknownUnit, .zoneRange].idxOf x
    r.raise x =
      { r with
        flags := r.flags ||| BitVec.ofNat 16 (2 ^ place)
        errors := if place ≤ 5 then min 255 (r.errors + 1) else r.errors }

/-- At its silence expiry, or at the fourth bad frame in a row, a chair becomes OFFLINE with everything but its flags and error count
cleared; the loader it holds becomes FREE with its stack kept, and the record that targets it is gone. The service port becomes OFFLINE in
the same two ways, and then nothing else changes. A handover on the held loader ends with SOURCE_LOST and its target is notified; one that
targets the chair ends with TARGET_OFFLINE and its requester on another chair is answered, each in a queue with room. The call attached to
the latter stays with its reason, released, the chair not added to its declined set, unless a CLAIM offers it to another chair. That the
chair's own frames of the event add nothing to its flags and error count, whatever its queue held, and that the bytes of the frame last begun
are kept, are read by inference (log entries 5 and 4). -/
def Obligations.LinksGoOffline : Prop :=
  (∀ (s u : State) (c : ChairId) (cmd : Instr), s.Quiet →
    ((cmd = .silenceExpiry (.chair c) ∧ (s.chair c).port.silence ≠ none ∧ u = s) ∨
      ∃ why, cmd = .badFrame (.chair c) why ∧ (s.chair c).state ≠ .offline ∧ (s.chair c).port.badRun = 3 ∧
        u = s.raise (.chair c) (badFrameFlag why)) →
    ∃ t, exec cmd s = .next t ∧
      t.chair c = Chair.gone (u.chair c).port.flags (u.chair c).port.errors (s.chair c).port.sending ∧
      (∀ i, s.heldSlot c = some i →
        SameButRecord { s.entry i with state := .free, holder := none, ramp := none, zoneDrop := false } (t.entry i)) ∧
      (∀ i, s.targetSlot c = some i → (t.entry i).targets c = false) ∧
      (∀ i, s.heldSlot c ≠ some i → SameButRecord (s.entry i) (t.entry i)) ∧
      (s.CallerLaw → s.OneHolderLaw →
        (∀ i, s.heldSlot c = some i → (t.entry i).handover = none ∧ ∀ d, d ≠ c → s.Queues t d (s.endFrames i .sourceLost d)) ∧
        ∀ i, s.targetSlot c = some i → (∀ d, d ≠ c → s.Queues t d (s.endFrames i .targetOffline d)) ∧
          (∀ h, (t.entry i).handover = some h → h.kind = .claim ∧ h.phase = .offering ∧ h.target ≠ .chair c) ∧
          ∀ h, (s.entry i).handover = some h → h.callAttached = true → ∀ k ∈ s.calls, k.slot = i →
            ∃ k' ∈ t.calls, k'.slot = i ∧ k'.reason = k.reason ∧ ((t.entry i).handover = none → k'.reserved = false) ∧
              (hasChair k'.declined c = true → hasChair k.declined c = true)) ∧
      (∀ d, d ≠ c → SameButOffer (s.chair d) (t.chair d)) ∧ SameElsewhere s t) ∧
  ∀ (s : State) (cmd : Instr) (r : PortRegs), s.Quiet →
    ((cmd = .silenceExpiry .service ∧ s.service.port.silence ≠ none ∧ r = s.service.port) ∨
      ∃ why, cmd = .badFrame .service why ∧ s.service.online = true ∧ s.service.port.badRun = 3 ∧
        r = s.service.port.raise (badFrameFlag why)) →
    exec cmd s =
      .next { s with service := { online := false, port := { r with silence := none, badRun := 0, outstanding := none, queue := [] } } }

/-! ### Chairs and presence -/

/-- A valid AXIS frame replaces the held sample, with GEAR 3 held as N and GEAR_INVALID set; it restarts the staleness and silence timers,
sets the bad-frame run to 0 and changes the presence and its timers as R78 and R80 give. A holder that becomes PRESENT, as it does at once
with press_settle 0, gets an ENGAGE ramp from 0, and one that leaves PRESENT loses its ramp record; a READY chair that becomes PRESENT runs
the dispatcher. A record in GATING that targets the chair has its gate evaluated after all this, and transfers if it passes. No other chair's
sample, presence or timers change. -/
def Obligations.AxisFramesAreTaken : Prop :=
  ∀ (s : State) (c : ChairId) (f : AxisFrame), s.Quiet → f.WellFormed →
    let x := s.chair c
    let before := if x.state = .offline then .absent else x.presence
    let after := presenceAfter f.enable s.policy.pressSettle before
    let pressed := f.enable = true ∧ (before = .released ∨ before = .absent)
    let freed := f.enable = false ∧ (before = .present ∨ before = .settling)
    let y : Chair :=
      { x with
        state := if x.state = .offline then .idle else x.state
        latch := if x.state = .offline then false else x.latch
        presence := after
        settle :=
          if pressed then (if s.policy.pressSettle = 0 then none else some s.policy.pressSettle) else if freed then none else x.settle
        grace :=
          if pressed ∧ s.policy.pressSettle = 0 then none
          else if freed then some (x.grace.getD s.policy.presenceGrace) else x.grace
        staleness := some s.policy.axisStale
        sample :=
          { axes := ⟨f.steer, f.travel, f.boom, f.bucket⟩, enable := f.enable, brakeReq := f.brakeReq, horn := f.horn,
            lights := f.lights, gear := if f.gear = 1#2 then .f else if f.gear = 2#2 then .r else .n }
        port :=
          { x.port with
            silence := some 1000, badRun := 0
            flags := if f.gear = 3#2 then x.port.flags ||| 0x010#16 else x.port.flags
            errors := if f.gear = 3#2 then min 255 (x.port.errors + 1) else x.port.errors } }
    let became := before ≠ .present ∧ after = .present
    let v := s.setChair c y
    let ramped (e : Entry) : Entry :=
      { e with
        ramp :=
          if became then some { purpose := .engage, start := ⟨0, 0, 0, 0⟩, length := s.policy.engageRamp, progress := 1 }
          else if before = .present ∧ after ≠ .present then none
          else e.ramp }
    let u := match s.heldSlot c with
      | some i => v.setEntry i (ramped (s.entry i))
      | none => v
    (s.targetSlot c = none → exec (.axis c f) s = .next (ranIf (decide (became ∧ y.state = .ready)) u)) ∧
    (s.OneHolderLaw → ∀ i, s.targetSlot c = some i → ∀ h, (s.entry i).handover = some h →
      exec (.axis c f) s = .next (if h.phase = .gating ∧ gatePasses i h v = true then finish (transfer i h v) else v)) ∧
    ∃ t, exec (.axis c f) s = .next t ∧ SameButOffer y (t.chair c) ∧ (∀ d, d ≠ c → SameButOffer (s.chair d) (t.chair d)) ∧
      SameElsewhere s t

/-- At a settle expiry the chair becomes PRESENT with its settle and grace timers stopped; the loader it holds gets an ENGAGE ramp from 0,
a record in GATING that targets the chair has its gate evaluated and transfers if it passes, and a READY chair runs the dispatcher. At a
staleness expiry a PRESENT or SETTLING chair becomes RELEASED with STALE set and its grace timer running, and a held loader loses its ramp
record; in RELEASED and ABSENT the timer only stops. -/
def Obligations.PresenceTimersExpire : Prop :=
  (∀ (s : State) (c : ChairId), s.Quiet → (s.chair c).settle ≠ none →
    let u := s.setChair c { s.chair c with presence := .present, settle := none, grace := none }
    (s.targetSlot c = none →
      (∀ i, s.heldSlot c = some i → (s.chair c).state ≠ .ready →
        exec (.settleExpiry c) s =
          .next (u.setEntry i
            { s.entry i with
              ramp := some { purpose := .engage, start := ⟨0, 0, 0, 0⟩, length := s.policy.engageRamp, progress := 1 } })) ∧
      (s.heldSlot c = none → (s.chair c).state ≠ .ready → exec (.settleExpiry c) s = .next u) ∧
      (s.heldSlot c = none → (s.chair c).state = .ready → exec (.settleExpiry c) s = .next (runDispatcher u))) ∧
    (s.OneHolderLaw → ∀ i, s.targetSlot c = some i → ∀ h, (s.entry i).handover = some h →
      exec (.settleExpiry c) s =
        .next (if h.phase = .gating ∧ gatePasses i h u = true then finish (transfer i h u) else u))) ∧
  ∀ (s : State) (c : ChairId), s.Quiet → (s.chair c).staleness ≠ none →
    let x := s.chair c
    let released : Chair :=
      { x with
        presence := .released, settle := none, grace := some (x.grace.getD s.policy.presenceGrace), staleness := none,
        port := { x.port with flags := x.port.flags ||| 0x020#16, errors := min 255 (x.port.errors + 1) } }
    (x.presence = .present → ∀ i, s.heldSlot c = some i →
      exec (.stalenessExpiry c) s = .next ((s.setChair c released).setEntry i { s.entry i with ramp := none })) ∧
    (x.presence = .settling ∨ x.presence = .present ∧ s.heldSlot c = none →
      exec (.stalenessExpiry c) s = .next (s.setChair c released)) ∧
    (x.presence = .released ∨ x.presence = .absent →
      exec (.stalenessExpiry c) s = .next (s.setChair c { x with staleness := none }))

/-- At a grace expiry the latch is cleared and a RELEASED chair becomes ABSENT, while a SETTLING one stays SETTLING. A holder whose loader
carries no record loses it: the entry becomes FREE with its stack kept, and the chair IDLE with LOST of cause ABSENT. One whose loader carries
a record loses it in the same way after the handover has been abandoned with SOURCE_LOST, so that its request is answered ahead of its LOST.
A chair that a record targets loses the handover and becomes IDLE. A READY chair becomes IDLE. -/
def Obligations.GraceExpiryTakesEverything : Prop :=
  ∀ (s : State) (c : ChairId), s.Quiet → (s.chair c).grace ≠ none →
    let x := s.chair c
    let y : Chair :=
      { x with grace := none, latch := false, presence := if x.presence = .released then .absent else x.presence }
    (∀ i, s.heldSlot c = some i → s.targetSlot c = none → (s.entry i).handover = none →
      exec (.graceExpiry c) s =
        .next ((s.setEntry i { s.entry i with state := .free, holder := none, ramp := none, zoneDrop := false }).setChair c
          (({ y with state := .idle } : Chair).queued (.notice (.lost i .absent))))) ∧
    (∀ i, s.heldSlot c = some i → s.targetSlot c = none → ∀ h, (s.entry i).handover = some h →
      let a := abandon i .sourceLost (s.setChair c y)
      exec (.graceExpiry c) s =
        .next (finish ((a.setEntry i
          { s.entry i with state := .free, holder := none, handover := none, ramp := none, zoneDrop := false }).setChair c
          (({ a.chair c with state := .idle } : Chair).queued (.notice (.lost i .absent)))))) ∧
    (∀ i, s.heldSlot c = none → s.targetSlot c = some i →
      exec (.graceExpiry c) s = .next (finish (abandon i .targetAbsent (s.setChair c y)))) ∧
    (s.heldSlot c = none → s.targetSlot c = none →
      exec (.graceExpiry c) s = .next (s.setChair c { y with state := if x.state = .ready then .idle else x.state }))

/-- READY from a PRESENT chair sets the latch and is answered DONE, and an IDLE chair becomes READY and runs the dispatcher; from any
other presence it is refused NOT_PRESENT. UNREADY clears the latch, a READY chair becomes IDLE, and the answer is DONE. -/
def Obligations.ReadyAndUnready : Prop :=
  ∀ (s : State) (c : ChairId) (tag : Tag), s.Quiet → s.Takes c →
    let x := s.chair c
    let told (k : RequestKind) (code : Code) : Answer :=
      { kind := k, tag := tag, code := code, content := Content.nothing }
    (x.presence = .present → x.state = .idle →
      exec (.ready ⟨.chair c, tag⟩) s =
        .next (runDispatcher (s.setChair c (({ x with latch := true, state := .ready } : Chair).replied (told RequestKind.ready .done))))) ∧
    (x.presence = .present → x.state ≠ .idle →
      exec (.ready ⟨.chair c, tag⟩) s = .next (s.setChair c (({ x with latch := true } : Chair).replied (told RequestKind.ready .done)))) ∧
    (x.presence ≠ .present →
      exec (.ready ⟨.chair c, tag⟩) s = .next (s.setChair c (x.replied (told RequestKind.ready .notPresent)))) ∧
    exec (.unready ⟨.chair c, tag⟩) s =
      .next (s.setChair c
        (({ x with latch := false, state := if x.state = .ready then .idle else x.state } : Chair).replied (told RequestKind.unready .done)))

/-! ### The authority table and handovers -/

/-- PARK by the holder, with no record on the entry: the entry becomes FREE with its stack kept, a RUNDOWN ramp starts from the applied
values when the holder is PRESENT and they are not all 0, and the chair becomes READY or IDLE by its latch with DONE and no LOST notice.
From any other chair the answer is NOT_HOLDER and nothing else changes. -/
def Obligations.ParkFreesTheLoader : Prop :=
  ∀ (s : State) (c : ChairId) (tag : Tag) (slot : Byte) (i : Slot), s.Quiet → s.Takes c → slotOf slot = some i →
    let e := s.entry i
    let x := s.chair c
    let told (code : Code) : Answer := { kind := .park, tag := tag, code := code, content := .slot slot }
    (e.state = .held ∧ e.holder = some (.chair c) → e.handover = none →
      exec (.park ⟨.chair c, tag⟩ slot) s =
        .next (ranIf x.latch
          ((s.setEntry i
            { e with
              state := .free, holder := none, zoneDrop := false
              ramp :=
                if x.presence = .present ∧ e.applied ≠ ⟨0, 0, 0, 0⟩ then
                  some { purpose := .rundown, start := e.applied, length := s.policy.rundownRamp, progress := 1 }
                else none }).setChair c (x.settled.replied (told .done))))) ∧
    (¬ (e.state = .held ∧ e.holder = some (.chair c)) →
      exec (.park ⟨.chair c, tag⟩ slot) s = .next (s.setChair c (x.replied (told .notHolder))))

/-- The gate of a handover passes when the policy gate and the request's gate are satisfied against the loader status and a chair target is
PRESENT and, for TAKE and CLAIM, has its held TRAVEL within the neutral window. A gate is satisfied under MATCH when its phase, if any, is
the loader's and the flags within its mask equal its value, and under DIFFER otherwise. A combined gate waits when each of its gates does. A
gate record is stored with value ∩ mask. -/
def Obligations.GatePassCondition : Prop :=
  (∀ (g : Gate) (ls : LoaderStatus),
    let condition := (g.phase = none ∨ g.phase = some ls.phase) ∧ ls.flags &&& g.mask = g.value
    (g.sense = .matching → (g.satisfied ls = true ↔ condition)) ∧ (g.sense = .differ → (g.satisfied ls = true ↔ ¬ condition))) ∧
  (∀ (s : State) (i : Slot) (h : Handover) (ls : LoaderStatus), (s.entry i).status = some ls →
    (gatePasses i h s = true ↔
      h.gate.policy.satisfied ls = true ∧ (∀ g ∈ h.gate.request, g.satisfied ls = true) ∧
      ∀ c, h.target = .chair c →
        (s.chair c).presence = .present ∧
        (h.kind = .take ∨ h.kind = .claim → (s.chair c).sample.axes.travel.natAbs ≤ s.policy.neutralWindow))) ∧
  (∀ g : CombinedGate, g.waits = true ↔ g.policy.wait = true ∧ ∀ r ∈ g.request, r.wait = true) ∧
  ∀ (g : GateIn) (r : Gate), gateOf g = some r →
    r.mask = g.mask ∧ r.value = g.value &&& g.mask ∧ r.sense = g.sense ∧ r.wait = g.wait ∧
    r.phase.map (fun p => BitVec.ofNat 8 p.val) = g.phase

/-- Abandonment of a record: the entry loses its record and nothing else; an attached call becomes unreserved at its place for the causes of
R63, with a CLAIM's chair target joining its declined set for DECLINED and OFFER_TIMEOUT; the chair target returns to READY or IDLE by its
latch; the requester's long request is answered with the cause; a chair target that is not the requester is notified, except one that
declined; and the dispatcher is due when a call was released or the target became READY. Nothing else changes. -/
def Obligations.AbandonmentEffects : Prop :=
  ∀ (s : State) (i : Slot) (h : Handover) (cause : Code), (s.entry i).handover = some h →
    let released := h.callAttached && [Code.declined, .offerTimeout, .gateFailed, .gateTimeout, .cancelled, .targetAbsent,
      .targetOffline, .notPermitted].contains cause
    let u := abandon i cause s
    (∀ j, u.entry j = if j = i then { s.entry i with handover := none } else s.entry j) ∧
    (u.calls =
      if released then
        s.calls.map fun k =>
          if k.slot = i then
            { k with
              reserved := false
              declined :=
                match h.kind, h.target with
                | .claim, .chair t =>
                  if cause = .declined ∨ cause = .offerTimeout then k.declined ||| (1#6 <<< t.val) else k.declined
                | _, _ => k.declined }
          else k
      else s.calls) ∧
    (∀ d, u.chair d =
      (let x := s.chair d
       let x := if h.target = .chair d then x.settled else x
       let x := if h.requester = some d then x.answered cause else x
       if h.target = .chair d ∧ h.requester ≠ some d ∧ cause ≠ .declined then
         x.queued (.notice (match h.phase with
           | .offering => .offerWithdrawn i cause
           | .gating => .abandoned i cause))
       else x)) ∧
    (u.dispatchDue = true ↔
      s.dispatchDue = true ∨ released = true ∨ ∃ t, h.target = .chair t ∧ (s.chair t).latch = true) ∧
    u.pointer = s.pointer ∧ u.service = s.service ∧ SameElsewhere s u

/-- A transfer: the target becomes holder, in HELD for a chair and AUTO for the autonomy; the stack is pushed with the source, or popped
by a RETURN; TAKE and CLAIM leave an ENGAGE ramp from 0, PASS and RETURN to a chair a PASS ramp from the applied values, a handover to AUTO
none; the record, the call and zone-drop pending go; the target becomes DRIVING, a chair source READY or IDLE by its latch, the requester
is answered DONE, and a chair target that did not ask receives HOLDING. Nothing else changes. That the PASS ramp starts from the applied
values also where the source was released after the last frame is the model's choice (log entry 29): R44 and R49 speak of neutral values. -/
def Obligations.TransferEffects : Prop :=
  ∀ (s : State) (i : Slot) (h : Handover),
    let e := s.entry i
    let u := transfer i h s
    (∀ j, j ≠ i → u.entry j = s.entry j) ∧
    u.entry i =
      { e with
        state := if h.target = .auto then .auto else .held
        holder := some h.target
        handover := none
        zoneDrop := false
        stack :=
          if h.kind = .returned then e.stack.drop 1
          else
            match h.source with
            | none => e.stack
            | some p => if e.stack.take 1 = [p] then e.stack else (p :: e.stack).take 4
        ramp :=
          if h.target = .auto then none
          else if h.kind = .take ∨ h.kind = .claim then
            some { purpose := .engage, start := ⟨0, 0, 0, 0⟩, length := s.policy.engageRamp, progress := 1 }
          else some { purpose := .pass, start := e.applied, length := s.policy.passRamp, progress := 1 } } ∧
    u.calls = s.calls.filter (fun k => k.slot ≠ i) ∧
    (∀ d, u.chair d =
      (let x := s.chair d
       let x := if h.target = .chair d then { x with state := .driving } else x
       let x := if h.source = some (.chair d) then x.settled else x
       let x := if h.requester = some d then x.answered .done else x
       if h.target = .chair d ∧ h.requester ≠ some d then x.queued (.notice (.holding i h.kind h.source)) else x)) ∧
    (u.dispatchDue = true ↔ s.dispatchDue = true ∨ ∃ c, h.source = some (.chair c) ∧ (s.chair c).latch = true) ∧
    u.pointer = s.pointer ∧ u.service = s.service ∧ SameElsewhere s u

/-- Leaving authority, in the order of R14: the record is abandoned first; then the entry is written; then the holder of a HELD entry
becomes READY or IDLE by its latch and receives LOST with the cause; and the call of an AUTO entry is removed. -/
def Obligations.LeavingAuthorityOrder : Prop :=
  ∀ (s : State) (i : Slot) (cause lost : Code) (f : Entry → Entry),
    let a := abandon i cause s
    let u := leave i cause (some lost) f s
    (∀ j, u.entry j = if j = i then f { s.entry i with handover := none } else s.entry j) ∧
    (∀ d, u.chair d =
      if (s.entry i).state = .held ∧ (s.entry i).holder = some (.chair d) then
        (a.chair d).settled.queued (.notice (.lost i lost))
      else a.chair d) ∧
    u.calls = (if (s.entry i).state = .auto then a.calls.filter (fun k => k.slot ≠ i) else a.calls) ∧
    u.pointer = s.pointer ∧ u.service = s.service ∧ SameElsewhere s u

/-! ### Requests of the handover engine -/

/-- TAKE: the checks of R32 in their order, each with its refusal, which changes nothing else. When all pass, a record is created in GATING
with target and requester the chair, the loader's unreserved call attached, and the chair ENGAGING with its slot occupied; then the handover
transfers if the gate passes, waits if the combined gate waits, and is abandoned with GATE_FAILED otherwise. -/
def Obligations.TakeRequest : Prop :=
  ∀ (s : State) (c : ChairId) (tag : Tag) (slot : Byte) (gate : Option GateIn) (g : Option Gate) (i : Slot),
    s.Quiet → s.Takes c → slotOf slot = some i → requestGate gate = some g →
    let e := s.entry i
    let x := s.chair c
    let cmd := Instr.take ⟨.chair c, tag⟩ slot gate
    let h := takeRecord s i c g
    let u : State :=
      (({ s with
          calls := if h.callAttached then s.calls.map (fun k => if k.slot = i then { k with reserved := true } else k) else s.calls
        } : State).setEntry i { e with handover := some h }).setChair c
        { x with state := .engaging, port := { x.port.heard with outstanding := some { kind := .take, tag := tag, slot := i } } }
    (∀ code, takeRefusal s i c = some code →
      exec cmd s = .next (s.setChair c (x.replied { kind := .take, tag := tag, code := code, content := .slot slot }))) ∧
    (takeRefusal s i c = none → gatePasses i h s = true → exec cmd s = .next (transfer i h u)) ∧
    (takeRefusal s i c = none → gatePasses i h s = false → h.gate.waits = true → exec cmd s = .next u) ∧
    (takeRefusal s i c = none → gatePasses i h s = false → h.gate.waits = false → exec cmd s = .next (finish (abandon i .gateFailed u)))

/-- PASS: the checks of R33 in their order, each with its refusal, which changes nothing else. When all pass, a record is created in
OFFERING from the holder to the named chair, which becomes OFFERED and is sent the OFFER notice; the holder stays DRIVING with its slot
occupied. -/
def Obligations.PassRequest : Prop :=
  ∀ (s : State) (c m : ChairId) (tag : Tag) (slot target : Byte) (gate : Option GateIn) (g : Option Gate) (i : Slot),
    s.Quiet → s.Takes c → slotOf slot = some i → chairOf target = some m → requestGate gate = some g →
    let e := s.entry i
    let x := s.chair c
    let y := s.chair m
    let cmd := Instr.pass ⟨.chair c, tag⟩ slot target gate
    let h : Handover :=
      { kind := .pass, source := some (.chair c), target := .chair m, phase := .offering,
        gate := { policy := s.policy.gatePass, request := g }, deadline := s.policy.offerTimeout, requester := some c,
        callAttached := false }
    (∀ code, passRefusal s i c m = some code →
      exec cmd s = .next (s.setChair c (x.replied { kind := .pass, tag := tag, code := code, content := .slot slot }))) ∧
    ∀ ls, e.status = some ls → passRefusal s i c m = none →
      exec cmd s =
        .next (((s.setEntry i { e with handover := some h }).setChair c
          { x with port := { x.port.heard with outstanding := some { kind := .pass, tag := tag, slot := i } } }).setChair m
          (({ y with state := .offered } : Chair).queued
            (.notice (.offer i (s.unitNumber i) ls.zone ls.phase .pass (.chair c)))))

/-- RETURN: the record and the holder are checked, then the newest stack entry is read. An empty stack is refused NO_PREVIOUS, a chair that
fails a check of a PASS target TARGET_UNAVAILABLE, and a refusal changes nothing else. A chair that passes is offered the loader as in a
PASS, with the kind RETURN. The autonomy starts a record in GATING, which transfers, waits or fails at once. The stack is not read again
before the transfer. -/
def Obligations.ReturnRequest : Prop :=
  ∀ (s : State) (c : ChairId) (tag : Tag) (slot : Byte) (gate : Option GateIn) (g : Option Gate) (i : Slot),
    s.Quiet → s.Takes c → slotOf slot = some i → requestGate gate = some g →
    let e := s.entry i
    let x := s.chair c
    let cmd := Instr.returnLoader ⟨.chair c, tag⟩ slot gate
    let x' : Chair := { x with port := { x.port.heard with outstanding := some { kind := .returnLoader, tag := tag, slot := i } } }
    (∀ code, returnRefusal s i c = some code →
      exec cmd s = .next (s.setChair c (x.replied { kind := .returnLoader, tag := tag, code := code, content := .slot slot }))) ∧
    (∀ ls, e.status = some ls → ∀ m, e.stack.head? = some (.chair m) → returnRefusal s i c = none →
      exec cmd s =
        .next (((s.setEntry i { e with handover := some (returnRecord s c (.chair m) g) }).setChair c x').setChair m
          (({ s.chair m with state := .offered } : Chair).queued
            (.notice (.offer i (s.unitNumber i) ls.zone ls.phase .returned (.chair c)))))) ∧
    (returnRefusal s i c = none → e.stack.head? = some .auto →
      let r := returnRecord s c .auto g
      let u := (s.setEntry i { e with handover := some r }).setChair c x'
      (gatePasses i r s = true → exec cmd s = .next (finish (transfer i r u))) ∧
      (gatePasses i r s = false → r.gate.waits = true → exec cmd s = .next u) ∧
      (gatePasses i r s = false → r.gate.waits = false → exec cmd s = .next (finish (abandon i .gateFailed u))))

/-- RESUME: the record and the holder are checked, and a refusal changes nothing else. A record to AUTO is created in GATING, with the
chair's slot occupied. If the gate passes, the entry is AUTO at once with the outgoing chair pushed, no ramp and no zone-drop pending, and the
chair is READY or IDLE with its DONE; it waits if the combined gate waits, and is abandoned with GATE_FAILED otherwise. -/
def Obligations.ResumeRequest : Prop :=
  ∀ (s : State) (c : ChairId) (tag : Tag) (slot : Byte) (gate : Option GateIn) (g : Option Gate) (i : Slot),
    s.Quiet → s.Takes c → slotOf slot = some i → requestGate gate = some g →
    let e := s.entry i
    let x := s.chair c
    let cmd := Instr.resume ⟨.chair c, tag⟩ slot gate
    let done (code : Code) : Answer := { kind := .resume, tag := tag, code := code, content := .slot slot }
    let h := resumeRecord s c g
    let u := (s.setEntry i { e with handover := some h }).setChair c
      { x with port := { x.port.heard with outstanding := some { kind := .resume, tag := tag, slot := i } } }
    (e.handover ≠ none → exec cmd s = .next (s.setChair c (x.replied (done .handoverPending)))) ∧
    (e.handover = none → ¬ (e.state = .held ∧ e.holder = some (.chair c)) →
      exec cmd s = .next (s.setChair c (x.replied (done .notHolder)))) ∧
    (e.handover = none → e.state = .held ∧ e.holder = some (.chair c) →
      (gatePasses i h s = true →
        exec cmd s =
          .next (ranIf x.latch
            ((({ s with calls := s.calls.filter (fun k => k.slot ≠ i) } : State).setEntry i
              { e with
                state := .auto, holder := some .auto, ramp := none, zoneDrop := false
                stack := if e.stack.head? = some (.chair c) then e.stack else (Party.chair c :: e.stack).take 4 }).setChair c
              (x.settled.replied (done .done))))) ∧
      (gatePasses i h s = false → h.gate.waits = true → exec cmd s = .next u) ∧
      (gatePasses i h s = false → h.gate.waits = false → exec cmd s = .next (finish (abandon i .gateFailed u))))

/-- ACCEPT and DECLINE of an offer to the chair. ACCEPT moves the record to GATING with its deadline restarted and the chair to ENGAGING,
queues DONE, and then transfers, waits, or fails. DECLINE abandons the handover with DECLINED and answers DONE. With no offer to the chair in
OFFERING on that loader, either is answered NO_OFFER and changes nothing else. -/
def Obligations.AcceptAndDecline : Prop :=
  ∀ (s : State) (c : ChairId) (tag : Tag) (slot : Byte) (i : Slot), s.Quiet → s.Takes c → slotOf slot = some i →
    let e := s.entry i
    let x := s.chair c
    let told (k : RequestKind) (code : Code) : Answer := { kind := k, tag := tag, code := code, content := .slot slot }
    (∀ h, e.handover = some h → h.phase = .offering → h.target = .chair c →
      let r : Handover := { h with phase := .gating, deadline := s.policy.gateTimeout }
      let u := (s.setEntry i { e with handover := some r }).setChair c
        (({ x with state := .engaging } : Chair).replied (told .accept .done))
      (gatePasses i r s = true → exec (.accept ⟨.chair c, tag⟩ slot) s = .next (finish (transfer i r u))) ∧
      (gatePasses i r s = false → r.gate.waits = true → exec (.accept ⟨.chair c, tag⟩ slot) s = .next u) ∧
      (gatePasses i r s = false → r.gate.waits = false →
        exec (.accept ⟨.chair c, tag⟩ slot) s = .next (finish (abandon i .gateFailed u))) ∧
      let a := abandon i .declined (s.setChair c { x with port := x.port.heard })
      exec (.decline ⟨.chair c, tag⟩ slot) s =
        .next (finish (a.setChair c ((a.chair c).queued (.answer (told .decline .done)))))) ∧
    ((∀ h, e.handover = some h → ¬ (h.phase = .offering ∧ h.target = .chair c)) →
      exec (.accept ⟨.chair c, tag⟩ slot) s = .next (s.setChair c (x.replied (told .accept .noOffer))) ∧
      exec (.decline ⟨.chair c, tag⟩ slot) s = .next (s.setChair c (x.replied (told .decline .noOffer))))

/-- CANCEL is taken whatever the slot holds. With a long request outstanding whose handover stands, the handover is abandoned with CANCELLED,
which answers the request, and then the CANCEL is answered DONE. With an empty slot, and on the service port, it is answered NOTHING_PENDING
and changes nothing else. -/
def Obligations.CancelRequest : Prop :=
  (∀ (s : State) (c : ChairId) (tag : Tag), s.Quiet → (s.chair c).state ≠ .offline →
    let x := s.chair c
    (∀ o, x.port.outstanding = some o → ∀ h, (s.entry o.slot).handover = some h → h.requester = some c →
      let a := abandon o.slot .cancelled (s.setChair c { x with port := x.port.heard })
      exec (.cancel ⟨.chair c, tag⟩) s =
        .next (finish (a.setChair c
          ((a.chair c).queued (.answer { kind := .cancel, tag := tag, code := .done, content := .nothing }))))) ∧
    (x.port.outstanding = none →
      exec (.cancel ⟨.chair c, tag⟩) s =
        .next (s.setChair c (x.replied { kind := .cancel, tag := tag, code := .nothingPending, content := .nothing })))) ∧
  ∀ (s : State) (tag : Tag), s.Quiet →
    exec (.cancel ⟨.service, tag⟩) s =
      .next (s.serviceReplied { kind := .cancel, tag := tag, code := .nothingPending, content := .nothing })

/-- The deadline of a record expires in the phase it runs for: in OFFERING the chair target's latch is cleared and the handover is abandoned
with OFFER_TIMEOUT; in GATING it is abandoned with GATE_TIMEOUT. -/
def Obligations.DeadlinesExpire : Prop :=
  ∀ (s : State) (i : Slot) (h : Handover), s.Quiet → (s.entry i).handover = some h →
    (∀ t, h.phase = .offering → h.target = .chair t →
      exec (.offerDeadlineExpiry i) s =
        .next (finish (abandon i .offerTimeout (s.setChair t { s.chair t with latch := false })))) ∧
    (h.phase = .gating → exec (.gateDeadlineExpiry i) s = .next (finish (abandon i .gateTimeout s)))

/-! ### Other requests -/

/-- A QUERY that names a field is answered DONE with that field as it stands, and changes nothing but what its own frame does. The fields of
an entry, of its call, of its discovery context, of a chair, of the service port, the call queue, the zones and the policy read as R26, R73,
R92, R129, R148, R170 and R172 give. Two points are read by inference: the bytes of a QUERY that no rule gives a use are not read (log entry
10), and the holder of a zone item that is not HELD is the entry's (log entry 24). That STATE outside HELD reads halted and zone-drop pending as
no is the model's choice (log entry 31). -/
def Obligations.QueriesRead : Prop :=
  (∀ (s : State) (c : ChairId) (tag : Tag) (target number field index : Byte) (content : Content), s.Quiet → s.Takes c →
    queryContent target number field index (s.setChair c { s.chair c with port := (s.chair c).port.heard }) = some content →
    exec (.query ⟨.chair c, tag⟩ target number field index) s =
      .next (s.setChair c ((s.chair c).replied { kind := .query, tag := tag, code := .done, content := content }))) ∧
  (∀ (s : State) (tag : Tag) (target number field index : Byte) (content : Content), s.Quiet → s.ServiceTakes →
    queryContent target number field index { s with service := { online := true, port := s.service.port.heard } } = some content →
    exec (.query ⟨.service, tag⟩ target number field index) s =
      .next (s.serviceReplied { kind := .query, tag := tag, code := .done, content := content })) ∧
  (∀ (s : State) (number index : Byte) (i : Slot), slotOf number = some i →
    let e := s.entry i
    let read (field : Byte) := queryContent 0#8 number field index s
    read 0#8 = some (.entryState e.state
      (e.state == .held && (match e.holder with
        | some (.chair c) => (s.chair c).presence != .present
        | _ => false)) (e.state == .held && e.zoneDrop)) ∧
    read 1#8 = some (.holder e.holder) ∧ read 2#8 = some (.handover e.handover) ∧ read 3#8 = some (.stack e.stack) ∧
    read 4#8 = some (.status e.status) ∧ read 5#8 = some (.applied e.applied e.lights e.ramp) ∧
    read 6#8 = some (.callOf (s.ignoredCalls i) ((s.findCall i).map fun k => (s.calls.findIdx (fun d => d.slot == i), k))) ∧
    read 7#8 = some (.unit (s.binding i).unit (s.binding i).used
      (if e.state = .discovering then (s.context i).stage else none) (if e.state = .discovering then (s.context i).read else none)
      (if e.state = .refused then (s.context i).refusal else none)) ∧
    (∀ n, (s.context i).name = some n → ∀ p, (s.context i).period = some p → ∀ w, (s.context i).watchdog = some w →
      read 8#8 = some (.name (some (n, p, w)))) ∧
    ((s.context i).name = none → read 8#8 = some (.name none)) ∧
    (index.toNat ≤ 23 →
      ((s.context i).descriptors[index.toNat]? = none → read 9#8 = some (.descriptor none)) ∧
      ∀ d, (s.context i).descriptors[index.toNat]? = some d →
        read 9#8 = some (.descriptor (some (d, (s.context i).admitted.bind fun a =>
          if d.direction.toNat = 0 then
            (match d.function.toNat with
              | 0 => some a.steer
              | 1 => some a.travel
              | 2 => some a.boom
              | 3 => some a.bucket
              | _ => none)
          else none))))) ∧
  (∀ (s : State) (number index : Byte) (c : ChairId), chairOf number = some c →
    let x := s.chair c
    let read (field : Byte) := queryContent 1#8 number field index s
    read 0#8 = some (.chairState x.state x.latch) ∧ read 1#8 = some (.presence x.presence x.grace.isSome x.sample) ∧
    read 3#8 = some (.flags x.port.flags) ∧ read 4#8 = some (.errorCount x.port.errors) ∧
    (x.state = .offline ∨ x.state = .idle ∨ x.state = .ready → read 2#8 = some (.loader .none)) ∧
    (x.state = .driving → ∀ i, s.heldSlot c = some i → read 2#8 = some (.loader (.driving i (x.presence != .present)))) ∧
    (x.state = .offered ∨ x.state = .engaging → ∀ i, s.targetSlot c = some i → ∀ h, (s.entry i).handover = some h →
      read 2#8 = some (.loader (.target i h.kind h.phase)))) ∧
  ∀ (s : State) (number field index : Byte),
    queryContent 2#8 number 3#8 index s = some (.flags s.service.port.flags) ∧
    queryContent 2#8 number 4#8 index s = some (.errorCount s.service.port.errors) ∧
    queryContent 3#8 number field index s = some (.queue s.pointer s.calls) ∧
    (∀ z, zoneOf number = some z →
      queryContent 4#8 number field index s =
        some (.zone (s.zone z) ((allSlots.filter fun i => (s.entry i).zone? == some z).map fun i =>
          { slot := i, state := (s.entry i).state, holder := (s.entry i).holder,
            zoneDrop := (s.entry i).state == .held && (s.entry i).zoneDrop }))) ∧
    (∀ f, numFields[field.toNat]? = some f →
      queryContent 5#8 number field index s = some (.policy (.number f) (.number (f.get s.policy)))) ∧
    (11 ≤ field.toNat → ∀ k, handoverKinds[field.toNat - 11]? = some k →
      queryContent 5#8 number field index s = some (.policy (.gate k) (.gate (s.policy.gateFor k)))) ∧
    queryContent 5#8 number 16#8 index s = some (.policy .writeCount (.number s.policy.writeCount))

/-- ACK clears the named flags of the sending port and, on the choice, its error count, and is answered DONE with both as they then stand. -/
def Obligations.AckClears : Prop :=
  ∀ (s : State) (tag : Tag) (flags : Half) (clear : Bool), s.Quiet →
    let cleared (r : PortRegs) : PortRegs :=
      { r with flags := r.flags &&& ~~~flags, errors := if clear then 0 else r.errors }
    let told (r : PortRegs) : Answer :=
      { kind := .ack, tag := tag, code := .done, content := .acknowledged (r.flags &&& ~~~flags) (if clear then 0 else r.errors) }
    (∀ c, s.Takes c →
      exec (.ack ⟨.chair c, tag⟩ flags clear) s =
        .next (s.setChair c (({ s.chair c with port := cleared (s.chair c).port } : Chair).replied (told (s.chair c).port)))) ∧
    (s.ServiceTakes →
      exec (.ack ⟨.service, tag⟩ flags clear) s =
        .next (({ s with service := { s.service with port := cleared s.service.port } } : State).serviceReplied
          (told s.service.port)))

/-- ZONE_SET stores the state and the allowed set as carried, the cap clamped to 2047 and the backoff clamped to the cap as stored, in the
record named and in no other, and answers DONE with the stored record. Closing locks every FREE, AUTO or HELD entry of the zone and removes
their calls; opening makes its LOCKED entries FREE, and sets zone-drop pending where it excludes the holder of a HELD entry. Closing abandons
the handovers of those entries with ZONE_CLOSED, and opening those whose chair target is excluded with NOT_PERMITTED: the target is notified
and the requester answered. A released holder is sent LOST, and one newly excluded a ZONE notice. Every other record stands, and every other
entry is as it was, but for a CLAIM that the dispatcher's run may place. The frames are those of queues with room. -/
def Obligations.ZoneSetWritesThePlan : Prop :=
  ∀ (s : State) (tag : Tag) (zone : Byte) (z : ZoneId) (st : ZoneState) (cap backoff : Half) (allowed : ChairSet),
    s.Quiet → s.CallerLaw → s.ServiceTakes → zoneOf zone = some z →
    let c := if 2047 < cap.toNat then 2047 else cap.toNat
    let r : Zone := { state := st, cap := c, backoff := if c < backoff.toNat then c else backoff.toNat, allowed := allowed }
    let open_ := (st = .opened)
    ∃ t, exec (.zoneSet ⟨.service, tag⟩ zone st cap backoff allowed) s = .next t ∧
      t.zone z = r ∧ (∀ y, y ≠ z → t.zone y = s.zone y) ∧
      (waitingAnswers s.service.port.queue < 15 →
        PortFrame.answer { kind := .zoneSet, tag := tag, code := .done, content := .zoneStored z r } ∈ t.service.port.queue) ∧
      (∀ i, (s.entry i).zone? = some z → (s.entry i).state.carries = true → ¬ open_ →
        t.entry i = { s.entry i with state := .locked, holder := none, handover := none, ramp := none, zoneDrop := false } ∧
        ∀ k ∈ t.calls, k.slot ≠ i) ∧
      (∀ i, (s.entry i).zone? = some z → (s.entry i).state = .locked → open_ →
        SameButRecord { s.entry i with state := .free, holder := none, ramp := none, zoneDrop := false } (t.entry i)) ∧
      (∀ i, (s.entry i).zone? = some z → (s.entry i).state.carries = true → open_ →
        SameButRecord
          { s.entry i with
            zoneDrop :=
              (s.entry i).zoneDrop ||
                (match (s.entry i).state, (s.entry i).holder with
                  | .held, some (.chair h) => !hasChair allowed h
                  | _, _ => false) }
          (t.entry i)) ∧
      (∀ i, ((s.entry i).zone? ≠ some z ∨ (¬ (s.entry i).state.carries = true ∧ ((s.entry i).state ≠ .locked ∨ ¬ open_))) →
        SameButRecord (s.entry i) (t.entry i)) ∧
      (∀ i, ∀ h, (s.entry i).handover = some h →
        ((s.entry i).zone? ≠ some z ∨ (open_ ∧ ∀ d, h.target = .chair d → hasChair allowed d = true)) →
        (t.entry i).handover = some h) ∧
      (s.OneHolderLaw → ∀ i, (s.entry i).zone? = some z → (s.entry i).state.carries = true → ∀ h, (s.entry i).handover = some h →
        (¬ open_ ∨ ∃ d, h.target = .chair d ∧ hasChair allowed d = false) →
        let cause := if open_ then Code.notPermitted else .zoneClosed
        (∀ h', (t.entry i).handover = some h' →
          open_ ∧ h'.kind = .claim ∧ h'.phase = .offering ∧ ∀ d, h'.target = .chair d → hasChair allowed d = true) ∧
        (∀ d, h.target = .chair d → h.requester ≠ some d → waitingAnswers (s.chair d).port.queue ≤ 12 →
          PortFrame.notice (match h.phase with
            | .offering => .offerWithdrawn i cause
            | .gating => .abandoned i cause) ∈ (t.chair d).port.queue) ∧
        (∀ r, h.requester = some r → ∀ o, (s.chair r).port.outstanding = some o → (s.chair r).state ≠ .offline →
          waitingAnswers (s.chair r).port.queue ≤ 12 →
          PortFrame.answer { kind := o.kind, tag := o.tag, code := cause, content := .slot (slotByte o.slot) } ∈
            (t.chair r).port.queue)) ∧
      (s.OneHolderLaw → ∀ i h, (s.entry i).zone? = some z → (s.entry i).heldBy h = true →
        waitingAnswers (s.chair h).port.queue ≤ 12 →
        (¬ open_ → PortFrame.notice (.lost i .zoneClosed) ∈ (t.chair h).port.queue) ∧
        (open_ → hasChair allowed h = false → (s.entry i).zoneDrop = false →
          PortFrame.notice (.zone i z true) ∈ (t.chair h).port.queue)) ∧
      t.policy = s.policy ∧ t.bindings = s.bindings ∧ t.contexts = s.contexts ∧ t.ignored = s.ignored ∧ t.fleet = s.fleet ∧
      t.fleetQueue = s.fleetQueue ∧ ∀ d, SameButOffer (s.chair d) (t.chair d)

/-- POLICY_SET clamps a number into the field's range, stores a gate record with value ∩ mask, increments WRITE_COUNT, which stops at
65535, and is answered DONE with the stored value and the count; no other field changes, and nothing in flight. A field the table does not
hold, WRITE_COUNT, a value of the other form, or a gate phase above 7 is answered FIELD_ERROR with FIELD set, and nothing is written. -/
def Obligations.PolicySetWritesTheTable : Prop :=
  ∀ (s : State) (tag : Tag) (field : Byte), s.Quiet → s.ServiceTakes →
    let told (code : Code) (content : Content) : Answer := { kind := .policySet, tag := tag, code := code, content := content }
    let refused : State :=
      (({ s with service := { s.service with port := s.service.port.raise .field } } : State).serviceReplied (told .fieldError .nothing))
    let count := if s.policy.writeCount < 65535 then s.policy.writeCount + 1 else 65535
    (∀ (v : Half) (f : NumField), numFields[field.toNat]? = some f →
      let stored := if v.toNat < f.range.1 then f.range.1 else if f.range.2 < v.toNat then f.range.2 else v.toNat
      ∃ t, exec (.policySet ⟨.service, tag⟩ field (.number v)) s = .next t ∧
        t = ({ s with policy := t.policy } : State).serviceReplied (told .done (.policyStored (.number f) (.number stored) count)) ∧
        f.get t.policy = stored ∧ t.policy.writeCount = count ∧ (∀ f' ∈ numFields, f' ≠ f → f'.get t.policy = f'.get s.policy) ∧
        ∀ k ∈ handoverKinds, t.policy.gateFor k = s.policy.gateFor k) ∧
    (∀ (g : GateIn) (r : Gate), gateOf g = some r → 11 ≤ field.toNat →
      ∀ k, handoverKinds[field.toNat - 11]? = some k →
      ∃ t, exec (.policySet ⟨.service, tag⟩ field (.gate g)) s = .next t ∧
        t = ({ s with policy := t.policy } : State).serviceReplied (told .done (.policyStored (.gate k) (.gate r) count)) ∧
        t.policy.gateFor k = r ∧ t.policy.writeCount = count ∧
        (∀ k' ∈ handoverKinds, k' ≠ k → t.policy.gateFor k' = s.policy.gateFor k') ∧
        ∀ f ∈ numFields, f.get t.policy = f.get s.policy) ∧
    (∀ v : Half, 11 ≤ field.toNat → exec (.policySet ⟨.service, tag⟩ field (.number v)) s = .next refused) ∧
    (∀ g : GateIn, field.toNat < 11 ∨ 16 ≤ field.toNat ∨ gateOf g = none →
      exec (.policySet ⟨.service, tag⟩ field (.gate g)) s = .next refused)

/-- FORCE_FREE of an entry in HELD, AUTO or FREE takes it out of authority with FORCED, in the order of R14, to FREE with an empty stack and
no ramp, and is answered DONE. In any other state it is refused NOT_AVAILABLE and changes nothing else. -/
def Obligations.ForceFreeFreesTheEntry : Prop :=
  ∀ (s : State) (tag : Tag) (slot : Byte) (i : Slot), s.Quiet → s.ServiceTakes → slotOf slot = some i →
    let told (code : Code) : Answer := { kind := .forceFree, tag := tag, code := code, content := .slot slot }
    ((s.entry i).state.carries = true →
      exec (.forceFree ⟨.service, tag⟩ slot) s =
        .next (finish ((leave i .forced (some .forced)
          (fun e => { e with state := .free, holder := none, ramp := none, zoneDrop := false, stack := [] }) s).serviceReplied
          (told .done)))) ∧
    ((s.entry i).state.carries = false →
      exec (.forceFree ⟨.service, tag⟩ slot) s = .next (s.serviceReplied (told .notAvailable)))

/-- LOADER_RESTART of an entry in TRIPPED, REFUSED or LINK_LOST places one RESTART frame, in the place of a waiting COMMAND frame of the
slot, starts discovery on the slot with READ_ID placed after it, and is answered DONE; no other slot changes, and no chair. In any other
state it is refused NOT_AVAILABLE and changes nothing else. READ_ID joins the queue behind the RESTART frame, unless a stale read of the slot
waits: that it then takes the place of that read, also ahead of the RESTART, is the model's choice (log entry 30). -/
def Obligations.LoaderRestartRediscovers : Prop :=
  ∀ (s : State) (tag : Tag) (slot : Byte) (i : Slot), s.Quiet → s.HolderLaw → s.RecordLaw → s.ServiceTakes → slotOf slot = some i →
    let told (code : Code) : Answer := { kind := .loaderRestart, tag := tag, code := code, content := .slot slot }
    let answered (code : Code) : Service := { online := true, port := s.service.port.heard.enqueue (.answer (told code)) }
    ((s.entry i).state = .tripped ∨ (s.entry i).state = .refused ∨ (s.entry i).state = .linkLost →
      ∃ t, exec (.loaderRestart ⟨.service, tag⟩ slot) s = .next t ∧ t.Rediscovering i ∧
        t.fleetQueue =
          placeRead (.read i (s.unitNumber i) .readId)
            (placeRestart (.command i (s.unitNumber i) .restart []) s.fleetQueue |>.filter fun f =>
              !(f.isCommandOf i && !f.isRestart)) ∧
        .command i (s.unitNumber i) .restart [] ∈ t.fleetQueue ∧
        t.service = answered .done ∧ t.chairs = s.chairs ∧ t.calls = s.calls ∧ t.bindings = s.bindings ∧
        t.zones = s.zones ∧ t.policy = s.policy ∧
        ∀ j, j ≠ i → t.entry j = s.entry j ∧ t.context j = s.context j ∧ t.fleetSlot j = s.fleetSlot j) ∧
    (¬ ((s.entry i).state = .tripped ∨ (s.entry i).state = .refused ∨ (s.entry i).state = .linkLost) →
      exec (.loaderRestart ⟨.service, tag⟩ slot) s = .next (s.serviceReplied (told .notAvailable)))

/-! ### Admission and the frames of the loaders -/

/-- A HELLO from a bound unit starts discovery on its slot, whatever the entry's state; from an unbound unit it binds the lowest slot whose
used mark is clear, failing that the lowest whose entry is EMPTY, with REBOUND for the unit it replaces, and starts discovery there; with no
such slot it queues SLOTS_FULL and nothing else changes. Discovery start leaves the slot as R23 and R135 give: DISCOVERING, READ_ID
outstanding and waiting, no waiting COMMAND frame but a RESTART, its former holder no longer DRIVING, its call gone. A handover ends with
LOADER_RESTART, of which its requester and its target learn, and then the holder is sent LOST of cause LOADER_RESTART, in queues with room. -/
def Obligations.HelloStartsDiscovery : Prop :=
  (∀ (s : State) (u : UnitNumber) (i : Slot), s.Quiet → s.AuthorityLaw → s.BindingLaw → s.OneHolderLaw → u ≠ 0#32 →
    let choice :=
      match allSlots.find? fun k => !(s.binding k).used with
      | some k => some k
      | none => allSlots.find? fun k => (s.entry k).state == .empty
    (s.binding i).unit = some u ∨ ((∀ k, (s.binding k).unit ≠ some u) ∧ choice = some i) →
    ∃ t, exec (.hello u) s = .next t ∧ t.Rediscovering i ∧ t.binding i = { unit := some u, used := true } ∧
      FleetFrame.read i u .readId ∈ t.fleetQueue ∧ (∀ f ∈ t.fleetQueue, f.isCommandOf i = true → f.isRestart = true) ∧
      (∀ k ∈ t.calls, k.slot ≠ i) ∧
      t.ignoredCalls i = (if (s.binding i).unit = some u then s.ignoredCalls i else 0) ∧
      (∀ c, (s.entry i).heldBy c = true → (t.chair c).state ≠ .driving) ∧ (∀ d, s.Queues t d (s.farewell i .loaderRestart d)) ∧
      (∀ v, (s.binding i).unit = some v → v ≠ u → s.service.online = true → waitingAnswers s.service.port.queue < 15 →
        PortFrame.notice (.rebound i v u) ∈ t.service.port.queue) ∧
      (∀ j, j ≠ i → SameButRecord (s.entry j) (t.entry j) ∧ t.binding j = s.binding j ∧ t.context j = s.context j ∧
        t.fleetSlot j = s.fleetSlot j ∧ t.ignoredCalls j = s.ignoredCalls j) ∧
      (∀ d, SameButOffer (s.chair d) (t.chair d)) ∧ t.zones = s.zones ∧ t.policy = s.policy) ∧
  ∀ (s : State) (u : UnitNumber), s.Quiet → u ≠ 0#32 → (∀ k, (s.binding k).unit ≠ some u) →
    (∀ k, (s.binding k).used = true ∧ (s.entry k).state ≠ .empty) →
    exec (.hello u) s = .next (s.told (.slotsFull u))

/-- An ID answer in READING_ID stores the name and the watchdog time as received and the period clamped to 20 to 200 ms, stops the answer
timer, and places READ_ENTRY 0, in READING_ENTRIES; in any other stage it is ignored. At its answer timer's expiry, discovery is refused with
NO_ANSWER: the stage and the read are recorded, the waiting read is withdrawn and REFUSED goes to the service link. -/
def Obligations.IdAnswersAndTimeouts : Prop :=
  (∀ (s : State) (u : UnitNumber) (name : LoaderName) (period watchdog : Half) (i : Slot), s.Quiet → s.slotOfUnit u = some i →
    let x := s.context i
    let p := if period.toNat < 20 then 20 else if 200 < period.toNat then 200 else period.toNat
    (x.stage = some .readingId →
      exec (.idAnswer u name period watchdog) s =
        .next ({ s with fleetQueue := placeRead (.read i (s.unitNumber i) (.readEntry 0#8)) s.fleetQueue }.setContext i
          { x with
            stage := some .readingEntries, read := some (.readEntry 0#8), answerTimer := none, name := some name,
            period := some p, watchdog := some watchdog.toNat })) ∧
    (x.stage ≠ some .readingId → exec (.idAnswer u name period watchdog) s = .next s)) ∧
  ∀ (s : State) (i : Slot), s.Quiet → (s.context i).answerTimer ≠ none →
    let x := s.context i
    ∀ st, x.stage = some st →
    let why : DiscoveryRefusal := { cause := .noAnswer, stage := st, read := x.read }
    exec (.answerTimerExpiry i) s =
      .next ((({ s with fleetQueue := s.fleetQueue.filter (fun f => !f.isReadOf i) }.setEntry i
        { s.entry i with state := .refused, holder := none, ramp := none, zoneDrop := false }).setContext i
        { x with stage := none, read := none, answerTimer := none, refusal := some why }).told
        (.refused i (s.unitNumber i) why))

/-- An ENTRY answer in READING_ENTRIES with the outstanding index: a descriptor joins the list and the next READ_ENTRY is placed, unless it
would be the thirteenth of its direction or the twenty-fifth of the list, which refuses DESCRIPTOR_OVERSIZE; END validates the list, which
fixes the gains and lengths and awaits the first TELEMETRY, or refuses with the cause. Any other ENTRY answer is ignored. -/
def Obligations.EntryAnswersBuildTheList : Prop :=
  ∀ (s : State) (u : UnitNumber) (i : Slot) (n : Byte), s.Quiet → s.slotOfUnit u = some i →
    let x := s.context i
    let refused (cause : Code) : State :=
      let why : DiscoveryRefusal := { cause := cause, stage := .readingEntries, read := some (.readEntry n) }
      (({ s with fleetQueue := s.fleetQueue.filter (fun f => !f.isReadOf i) }.setEntry i
        { s.entry i with state := .refused, holder := none, ramp := none, zoneDrop := false }).setContext i
        { x with stage := none, read := none, answerTimer := none, refusal := some why }).told
        (.refused i (s.unitNumber i) why)
    (x.stage = some .readingEntries → x.read = some (.readEntry n) →
      (∀ d, ¬ tooMany x.descriptors d →
        exec (.entryAnswer u n (some d)) s =
          .next ({ s with fleetQueue := placeRead (.read i (s.unitNumber i) (.readEntry (n + 1#8))) s.fleetQueue }.setContext i
            { x with read := some (.readEntry (n + 1#8)), answerTimer := none, descriptors := x.descriptors ++ [d] })) ∧
      (∀ d, tooMany x.descriptors d → exec (.entryAnswer u n (some d)) s = .next (refused .descriptorOversize)) ∧
      (∀ p, x.period = some p → ∀ w, x.watchdog = some w →
        (validate x.descriptors p w = none →
          exec (.entryAnswer u n none) s =
            .next (s.setContext i
              { x with
                stage := some .awaitingTelemetry, read := none, answerTimer := none, admitted := some (admissionOf x.descriptors) })) ∧
        ∀ cause, validate x.descriptors p w = some cause → exec (.entryAnswer u n none) s = .next (refused cause))) ∧
    (¬ (x.stage = some .readingEntries ∧ x.read = some (.readEntry n)) → ∀ d, exec (.entryAnswer u n d) s = .next s)

/-- Validation in the order of R140. A list of more than 128 bits in a direction is refused DESCRIPTOR_OVERSIZE. Otherwise, unless every
descriptor names a function, its direction and a kind it allows, with a size from its minimum to 16 bits and, for an analog OUT channel, raw
values in order and representable, no function but AUX is declared twice nor AUX three times, and the watchdog time is at least twice the
period, the list is refused DESCRIPTOR_INVALID. Otherwise one that lacks a required function is refused DESCRIPTOR_INCOMPLETE. Any other list
passes; its gains are then those of R108 and its payload lengths its totals rounded up to bytes. -/
def Obligations.ValidationAdmitsOnlyUsableLists : Prop :=
  ∀ (ds : List Descriptor) (period watchdog : Nat),
    let bits (direction : Byte) : Nat := ((ds.filter fun d => d.direction = direction).map fun d => d.size.toNat).sum
    let count (f : Nat) : Nat := ds.countP fun d => d.function.toNat = f
    let oversize : Prop := 128 < bits 0#8 ∨ 128 < bits 1#8
    let valid (d : Descriptor) : Prop :=
      let f := d.function.toNat
      let size := d.size.toNat
      let least := [1, 1, 1, 1, 2, 1, 1, 1, 3, 8, 9, 3, 2, 1].getD f 0
      f ≤ 13 ∧ d.direction.toNat = (if f < 8 then 0 else 1) ∧ d.kind.toNat ≤ 2 ∧ least ≤ size ∧ size ≤ 16 ∧
      (f < 4 → d.kind ≠ 2#8) ∧ (4 ≤ f → f < 8 → d.kind = 2#8) ∧ (f ∈ [8, 9, 10, 12] → d.kind ≠ 0#8) ∧
      (f < 4 →
        d.rawMin.toInt ≤ d.rawNeutral.toInt ∧ d.rawNeutral.toInt ≤ d.rawMax.toInt ∧
        (d.kind = 0#8 → -(2 ^ (size - 1) : Int) ≤ d.rawMin.toInt ∧ d.rawMax.toInt < (2 ^ (size - 1) : Int)) ∧
        (d.kind = 1#8 → 0 ≤ d.rawMin.toInt ∧ d.rawMax.toInt < (2 ^ size : Int)))
    let usable : Prop :=
      (∀ d ∈ ds, valid d) ∧ (∀ f, f < 13 → count f ≤ 1) ∧ count 13 ≤ 2 ∧ 2 * period ≤ watchdog
    let complete : Prop := ∀ f ∈ [0, 1, 2, 3, 4, 5, 8, 9, 10, 11, 12], 1 ≤ count f
    (oversize → validate ds period watchdog = some .descriptorOversize) ∧
    (¬ oversize → ¬ usable → validate ds period watchdog = some .descriptorInvalid) ∧
    (¬ oversize → usable → ¬ complete → validate ds period watchdog = some .descriptorIncomplete) ∧
    (¬ oversize → usable → complete →
      validate ds period watchdog = none ∧ (admissionOf ds).outBytes = (bits 0#8 + 7) / 8 ∧
      (admissionOf ds).inBytes = (bits 1#8 + 7) / 8 ∧
      ∀ d ∈ ds,
        let gain : Gain :=
          { pos := (d.rawMax.toInt - d.rawNeutral.toInt).toNat * 65536 / 2047
            neg := (d.rawNeutral.toInt - d.rawMin.toInt).toNat * 65536 / 2048 }
        (d.function.toNat = 0 → (admissionOf ds).steer = gain) ∧ (d.function.toNat = 1 → (admissionOf ds).travel = gain) ∧
        (d.function.toNat = 2 → (admissionOf ds).boom = gain) ∧ (d.function.toNat = 3 → (admissionOf ds).bucket = gain))

/-- CALL from a loader in AUTO: with no call it creates one at the tail of its class, unreserved when no record stands, which runs the
dispatcher, and otherwise reserved and attached to the record; a higher priority raises the reason and moves the call to the tail of its new
class, and runs the dispatcher for an unreserved call; any other has no effect. In any other state it is ignored and counted, up to 255.
CLEAR removes the call, and abandons the handover of a reserved one with CALL_CLEARED. -/
def Obligations.CallFramesAreTaken : Prop :=
  (∀ (s : State) (u : UnitNumber) (i : Slot) (r : CallReason), s.Quiet → s.slotOfUnit u = some i →
    let e := s.entry i
    let made (reserved : Bool) : Call := { slot := i, reason := r, reserved := reserved, declined := 0#6, unserved := 0 }
    let counted := s.setIgnored i (if s.ignoredCalls i < 255 then s.ignoredCalls i + 1 else 255)
    (e.state = .auto → s.findCall i = none → e.handover = none →
      exec (.call u r) s = .next (runDispatcher { s with calls := insertCall (made false) s.calls })) ∧
    (e.state = .auto → s.findCall i = none → ∀ h, e.handover = some h →
      exec (.call u r) s =
        .next ({ s with calls := insertCall (made true) s.calls }.setEntry i { e with handover := some { h with callAttached := true } })) ∧
    (e.state = .auto → ∀ k, s.findCall i = some k →
      (callClass r < callClass k.reason →
        exec (.call u r) s =
          .next (ranIf (!k.reserved)
            { s with calls := insertCall { k with reason := r } (s.calls.filter fun d => d.slot ≠ i) })) ∧
      (callClass k.reason ≤ callClass r → exec (.call u r) s = .next s)) ∧
    (e.state ≠ .auto → exec (.call u r) s = .next counted ∧ exec (.callClear u) s = .next counted) ∧
    (e.state = .auto → s.findCall i = none → exec (.callClear u) s = .next s) ∧
    (e.state = .auto → ∀ k, s.findCall i = some k →
      let left : State := { s with calls := s.calls.filter fun d => d.slot ≠ i }
      (k.reserved = false → exec (.callClear u) s = .next left) ∧
      (k.reserved = true → exec (.callClear u) s = .next (finish (abandon i .callCleared left))))) ∧
  ∀ (k : Call) (q : List Call),
    insertCall k q =
      q.takeWhile (fun d => callClass d.reason ≤ callClass k.reason) ++ k ::
        q.dropWhile (fun d => callClass d.reason ≤ callClass k.reason)

/-- A bad fleet frame sets its flag on the service port and changes nothing else, and so do a HELLO from unit 0 with FLEET_FORMAT, any
other fleet frame of an unbound unit with UNKNOWN_UNIT, and a CALL of a bound unit whose reason is none of the four with FLEET_FORMAT; none
counts in the error count. A TELEMETRY in EMPTY, REFUSED or before validation
changes nothing, and one of the wrong length only sets FLEET_FORMAT. -/
def Obligations.FleetFramesAreDropped : Prop :=
  (∀ (s : State), s.Quiet →
    let flagged (bit : Half) : State :=
      { s with service := { s.service with port := { s.service.port with flags := s.service.port.flags ||| bit } } }
    exec (.badFleetFrame .crc) s = .next (flagged 0x040#16) ∧
    exec (.badFleetFrame .framing) s = .next (flagged 0x080#16) ∧ exec (.badFleetFrame .format) s = .next (flagged 0x080#16) ∧
    exec (.badFleetFrame .unknownUnit) s = .next (flagged 0x100#16) ∧ exec (.hello 0#32) s = .next (flagged 0x080#16) ∧
    (∀ u i, s.slotOfUnit u = some i → exec (.badFleetFrame (.callReason u)) s = .next (flagged 0x080#16)) ∧
    ∀ (u : UnitNumber), s.slotOfUnit u = none →
      (∀ r, exec (.call u r) s = .next (flagged 0x100#16)) ∧ exec (.callClear u) s = .next (flagged 0x100#16) ∧
      (∀ p, exec (.telemetry u p) s = .next (flagged 0x100#16)) ∧
      (∀ n p w, exec (.idAnswer u n p w) s = .next (flagged 0x100#16)) ∧
      (∀ n d, exec (.entryAnswer u n d) s = .next (flagged 0x100#16)) ∧
      exec (.badFleetFrame (.callReason u)) s = .next (flagged 0x100#16)) ∧
  ∀ (s : State) (u : UnitNumber) (i : Slot) (payload : List Byte), s.Quiet → s.slotOfUnit u = some i →
    let e := s.entry i
    let x := s.context i
    let taken := e.state.carries = true ∨ e.state = .locked ∨ e.state = .linkLost ∨ e.state = .tripped ∨
      (e.state = .discovering ∧ x.stage = some .awaitingTelemetry)
    (¬ taken → exec (.telemetry u payload) s = .next s) ∧
    (∀ a, x.admitted = some a → taken → payload.length ≠ a.inBytes →
      exec (.telemetry u payload) s =
        .next { s with service := { s.service with port := { s.service.port with flags := s.service.port.flags ||| 0x080#16 } } })

/-- A TELEMETRY of the right length that shows no trip replaces the loader status, sets the heard mark and clears the miss count, and sets
ZONE_RANGE for a zone outside 0 to 7. In AWAITING_TELEMETRY it completes discovery, and in LINK_LOST it returns the entry with the forget
timer stopped: LOCKED in a CLOSED zone, FREE in an OPEN one. In TRIPPED it does nothing more, nor in FREE, AUTO, HELD or LOCKED in the zone
the loader was in, but that a record in GATING whose gate passes transfers. With a new zone that is CLOSED a FREE or AUTO entry becomes LOCKED,
its handover abandoned with ZONE_CLOSED and its call removed; with one that is OPEN it stays, a handover whose chair target is excluded is
abandoned with NOT_PERMITTED, and the gate of a record in GATING that stands is evaluated. The dispatcher runs for an AUTO entry. A LOCKED
entry becomes FREE in an OPEN zone. Nothing else changes. The loader status holds, from the channel of each function, a PHASE above 7 as 7,
the low eight bits of FLAGS, a SPEED above 400 as 400, a ZONE outside 0 to 7 as 0, FAULTS as received, and the AUX values in list order. A trip
is bit 0 or 1 of the faults, WATCHDOG_TRIP or ESTOP; STATIONARY is bit 0 of the flags. -/
def Obligations.TelemetryCompletesAndReturns : Prop :=
  (∀ (vs ahead behind : List (Descriptor × Int)) (d : Descriptor) (v : Int), vs = ahead ++ (d, v) :: behind →
    (∀ p ∈ ahead ++ behind, p.1.function ≠ d.function) →
    let ls := statusOf vs
    (d.function = 8#8 → 0 ≤ v → (ls.phase.val : Int) = min v 7) ∧
    (d.function = 9#8 → 0 ≤ v → (ls.flags.toNat : Int) = v % 256) ∧
    (d.function = 10#8 → 0 ≤ v → (ls.speed : Int) = min v 400) ∧
    (d.function = 11#8 → valueOf .zone vs = v ∧ (ls.zone.val : Int) = if 0 ≤ v ∧ v ≤ 7 then v else 0) ∧
    (d.function = 12#8 → 0 ≤ v → v < 65536 → (ls.faults.toNat : Int) = v)) ∧
  (∀ vs : List (Descriptor × Int), (statusOf vs).aux = (vs.filter fun p => p.1.function = 13#8).map fun p => p.2) ∧
  (∀ ls : LoaderStatus, ls.watchdogTrip = ls.faults.getLsbD 0 ∧ ls.estop = ls.faults.getLsbD 1 ∧
    ls.trips = (ls.faults.getLsbD 0 || ls.faults.getLsbD 1) ∧ ls.stationary = ls.flags.getLsbD 0) ∧
  ∀ (s : State) (u : UnitNumber) (i : Slot) (payload : List Byte) (a : Admitted), s.Quiet → s.slotOfUnit u = some i →
    (s.context i).admitted = some a → payload.length = a.inBytes →
    let e := s.entry i
    let x := s.context i
    let vs := unpack (x.descriptors.filter isIn) (numberOf payload)
    let ls := statusOf vs
    let f := s.fleetSlot i
    let bound := { e with status := some ls }
    let settled := { bound with
      state := if (s.zone ls.zone).state = .closed then .locked else .free, holder := none, ramp := none, zoneDrop := false }
    let heard := if valueOf .zone vs < 0 ∨ 7 < valueOf .zone vs then s.raise .service .zoneRange else s
    (ls.trips = false → e.state = .discovering ∧ x.stage = some .awaitingTelemetry →
      exec (.telemetry u payload) s =
        .next (((heard.setEntry i settled).setFleetSlot i { f with heard := true, misses := 0 }).setContext i
          { x with stage := none, read := none, answerTimer := none })) ∧
    (ls.trips = false → e.state = .linkLost →
      exec (.telemetry u payload) s =
        .next ((heard.setEntry i settled).setFleetSlot i { f with heard := true, misses := 0, forget := none })) ∧
    (e.state = .tripped →
      exec (.telemetry u payload) s = .next ((heard.setEntry i bound).setFleetSlot i { f with heard := true, misses := 0 })) ∧
    (ls.trips = false → e.state.carries = true ∨ e.state = .locked → e.zone? = some ls.zone →
      e.state ≠ .held ∨ e.zoneDrop = false →
      let v := (heard.setEntry i bound).setFleetSlot i { f with heard := true, misses := 0 }
      (e.handover = none → exec (.telemetry u payload) s = .next v) ∧
      ∀ h, e.handover = some h →
        exec (.telemetry u payload) s =
          .next (if h.phase = .gating ∧ gatePasses i h v = true then finish (transfer i h v) else v)) ∧
    (ls.trips = false → e.zone? ≠ some ls.zone → e.state = .free ∨ e.state = .auto →
      let z := s.zone ls.zone
      let w : State :=
        { (heard.setEntry i bound).setFleetSlot i { f with heard := true, misses := 0 } with dispatchDue := decide (e.state = .auto) }
      (z.state = .closed →
        exec (.telemetry u payload) s =
          .next (finish (leave i .zoneClosed (some .zoneClosed)
            (fun d => { d with state := .locked, holder := none, ramp := none, zoneDrop := false }) w))) ∧
      (z.state = .opened → e.handover = none → exec (.telemetry u payload) s = .next (finish w)) ∧
      (z.state = .opened → ∀ h, e.handover = some h →
        ((∃ d, h.target = .chair d ∧ hasChair z.allowed d = false) →
          exec (.telemetry u payload) s = .next (finish (abandon i .notPermitted w))) ∧
        ((∀ d, h.target = .chair d → hasChair z.allowed d = true) →
          exec (.telemetry u payload) s =
            .next (finish (if h.phase = .gating ∧ gatePasses i h w = true then transfer i h w else w))))) ∧
    (ls.trips = false → e.zone? ≠ some ls.zone → e.handover = none → ∀ n : EntryState,
      (e.state = .free ∧ (s.zone ls.zone).state = .closed ∧ n = .locked) ∨ (e.state = .free ∧ (s.zone ls.zone).state = .opened ∧ n = .free) ∨
        (e.state = .locked ∧ (s.zone ls.zone).state = .opened ∧ n = .free) ∨
        (e.state = .locked ∧ (s.zone ls.zone).state = .closed ∧ n = .locked) →
      exec (.telemetry u payload) s =
        .next ((heard.setEntry i
          (if n = e.state then bound else { bound with state := n, holder := none, ramp := none, zoneDrop := false })).setFleetSlot i
          { f with heard := true, misses := 0 }))

/-- A TELEMETRY that reports WATCHDOG_TRIP or ESTOP takes an entry in FREE, AUTO, HELD or LOCKED, in AWAITING_TELEMETRY or in LINK_LOST to
TRIPPED: no holder, record, ramp or zone-drop pending, the stack emptied, the forget timer stopped, the call gone, the former holder no longer
DRIVING, and a TRIPPED notice to the service link with the state left and its holder. A handover ends with TRIPPED, of which its requester and
its target learn, and then the holder is sent LOST of cause TRIPPED, in queues with room. -/
def Obligations.TelemetryTrips : Prop :=
  ∀ (s : State) (u : UnitNumber) (i : Slot) (payload : List Byte) (a : Admitted), s.Quiet → s.AuthorityLaw → s.OneHolderLaw →
    s.slotOfUnit u = some i → (s.context i).admitted = some a → payload.length = a.inBytes →
    let e := s.entry i
    let ls := statusOf (unpack ((s.context i).descriptors.filter isIn) (numberOf payload))
    let left : EntryState :=
      if e.state = .discovering then (if (s.zone ls.zone).state = .closed then .locked else .free) else e.state
    ls.trips = true →
    (e.state.carries = true ∨ e.state = .locked ∨ e.state = .linkLost ∨
      (e.state = .discovering ∧ (s.context i).stage = some .awaitingTelemetry)) →
    ∃ t, exec (.telemetry u payload) s = .next t ∧
      t.entry i =
        { e with
          state := .tripped, holder := none, handover := none, stack := [], status := some ls, ramp := none, zoneDrop := false } ∧
      t.fleetSlot i = { s.fleetSlot i with heard := true, misses := 0, forget := none } ∧
      (∀ k ∈ t.calls, k.slot ≠ i) ∧ (∀ c, e.heldBy c = true → (t.chair c).state ≠ .driving) ∧
      (∀ d, s.Queues t d (s.farewell i .tripped d)) ∧
      (s.service.online = true → waitingAnswers s.service.port.queue < 15 →
        PortFrame.notice (.tripped i (s.unitNumber i) ls.watchdogTrip ls.estop left e.holder) ∈ t.service.port.queue) ∧
      (∀ j, j ≠ i → SameButRecord (s.entry j) (t.entry j) ∧ t.context j = s.context j ∧ t.fleetSlot j = s.fleetSlot j) ∧
      (∀ d, SameButOffer (s.chair d) (t.chair d)) ∧ t.zones = s.zones ∧ t.policy = s.policy ∧ t.bindings = s.bindings

/-- A TELEMETRY that shows no trip, of a loader that a chair holds. A new zone that is OPEN sets zone-drop pending if it excludes the holder
and clears it if it allows the holder, each with a ZONE notice where the flag changes; a new zone that is CLOSED locks the entry, with LOST of
cause ZONE_CLOSED. In the zone it was in, or in another OPEN zone that excludes the holder, a flag already set before drops the loader at a
STATIONARY report: FREE, LOST of cause ZONE_EXIT, and ZONE_DROP to the service link; the frame that sets the flag drops nothing. A handover
on the entry is abandoned with ZONE_CLOSED by the lock and, before the holder is tested, with NOT_PERMITTED where an OPEN new zone excludes
its chair target; after the test the gate of a record in GATING that stands is evaluated, and a transfer comes before the drop, which
otherwise abandons the handover with SOURCE_LOST. A reported zone outside 0 to 7 counts as Z0 and sets ZONE_RANGE on the service port. -/
def Obligations.TelemetryMovesAHeldLoader : Prop :=
  ∀ (s : State) (u : UnitNumber) (i : Slot) (payload : List Byte) (a : Admitted) (c : ChairId), s.Quiet →
    s.slotOfUnit u = some i → (s.context i).admitted = some a → payload.length = a.inBytes →
    let e := s.entry i
    let x := s.chair c
    let vs := unpack ((s.context i).descriptors.filter isIn) (numberOf payload)
    let ls := statusOf vs
    e.state = .held → e.holder = some (.chair c) → x.state = .driving → ls.trips = false →
    let outside := valueOf .zone vs < 0 ∨ 7 < valueOf .zone vs
    let z := s.zone ls.zone
    let moved := e.zone? ≠ some ls.zone
    let told (n : Notice) : Chair := x.queued (.notice n)
    let lost (cause : Code) : Chair := (x.settled).queued (.notice (.lost i cause))
    let heard := (if outside then s.raise .service .zoneRange else s).setFleetSlot i { s.fleetSlot i with heard := true, misses := 0 }
    let bound := { e with status := some ls }
    let vacated (st : EntryState) (d : Entry) : Entry := { d with state := st, holder := none, ramp := none, zoneDrop := false }
    let dropped := e.zoneDrop = true ∧ ls.stationary = true
    (outside → ls.zone = 0) ∧ (¬ outside → (ls.zone.val : Int) = valueOf .zone vs) ∧
    (e.handover = none →
      (moved → z.state = .closed →
        exec (.telemetry u payload) s =
          .next (ranIf x.latch ((heard.setEntry i (vacated .locked bound)).setChair c (lost .zoneClosed)))) ∧
      (moved → z.state = .opened → hasChair z.allowed c = true →
        exec (.telemetry u payload) s =
          .next (if e.zoneDrop then (heard.setEntry i { bound with zoneDrop := false }).setChair c (told (.zone i ls.zone false))
            else heard.setEntry i bound)) ∧
      (moved → z.state = .opened → hasChair z.allowed c = false → e.zoneDrop = false →
        exec (.telemetry u payload) s =
          .next ((heard.setEntry i { bound with zoneDrop := true }).setChair c (told (.zone i ls.zone true)))) ∧
      ((¬ moved ∨ (z.state = .opened ∧ hasChair z.allowed c = false ∧ e.zoneDrop = true)) → ¬ dropped →
        exec (.telemetry u payload) s = .next (heard.setEntry i bound)) ∧
      ((¬ moved ∨ (z.state = .opened ∧ hasChair z.allowed c = false ∧ e.zoneDrop = true)) → dropped →
        exec (.telemetry u payload) s =
          .next (ranIf x.latch
            (((heard.setEntry i (vacated .free bound)).setChair c (lost .zoneExit)).told (.zoneDrop i c ls.zone))))) ∧
    ∀ h, e.handover = some h → h.target ≠ .chair c →
      let v := heard.setEntry i bound
      (moved → z.state = .closed →
        exec (.telemetry u payload) s = .next (finish (leave i .zoneClosed (some .zoneClosed) (vacated .locked) v))) ∧
      (¬ moved ∨ z.state = .opened →
        let barred := moved ∧ ∃ d, h.target = .chair d ∧ hasChair z.allowed d = false
        let flag := if moved then !hasChair z.allowed c else e.zoneDrop
        let p := if barred then abandon i .notPermitted v else v
        let q :=
          if flag = e.zoneDrop then p
          else (p.setEntry i { p.entry i with zoneDrop := flag }).setChair c ((p.chair c).queued (.notice (.zone i ls.zone flag)))
        (¬ barred → h.phase = .gating → gatePasses i h q = true →
          exec (.telemetry u payload) s = .next (finish (transfer i h q))) ∧
        (barred ∨ h.phase = .offering ∨ gatePasses i h q = false →
          exec (.telemetry u payload) s =
            .next (finish (if e.zoneDrop = true ∧ flag = true ∧ ls.stationary = true then
              (leave i .sourceLost (some .zoneExit) (vacated .free) q).told (.zoneDrop i c ls.zone)
            else q))))

/-- GATEWAY_READY_CHANGE sets the level and nothing else. While it is asserted, FLEET_FRAME_DEPART removes the frame at the head of the fleet
queue, which begins to be sent, and the departure of the outstanding discovery read starts its 250 ms answer timer; while it is deasserted,
no frame leaves. PORT_FRAME_DEPART removes the frame at the head of a port's queue, which begins to be sent. By inference, a departing read
that is not the outstanding one starts no timer (log entry 6), and the bytes of the frame last begun are kept (log entry 4); that the
departure command does nothing without GATEWAY_READY is the model's choice (log entry 20). The bytes of a frame are the sync byte, its kind,
its length, its payload by the tables of R186 and the CRC of R181. In these payloads the fields that are absent from a UNIT answer without a
refusal and from a LOADER answer are read by inference (log entries 11 and 12), STATE has its three bytes in every state by the model's choice
(log entry 31), and the bits that no rule names are left free (log entry 13). -/
def Obligations.FramesDepart : Prop :=
  (∀ (s : State) (b : Bool), s.Quiet → exec (.gatewayReadyChange b) s = .next { s with gatewayReady := b }) ∧
  (∀ (s : State) (f : FleetFrame) (q : List FleetFrame), s.Quiet → s.fleetQueue = f :: q →
    let u : State := { s with fleetQueue := q, fleetSending := fleetFrameBytes f }
    (s.gatewayReady = false → exec .fleetFrameDepart s = .next s) ∧
    (s.gatewayReady = true →
      exec .fleetFrameDepart s =
        .next (match f with
          | .command _ _ _ _ => u
          | .read i _ r =>
            if (s.context i).read = some r then u.setContext i { s.context i with answerTimer := some 250 } else u))) ∧
  (∀ (s : State) (p : Port) (f : PortFrame) (q : List PortFrame), s.Quiet → (s.port p).queue = f :: q →
    exec (.portFrameDepart p) s = .next (s.setPort p { s.port p with queue := q, sending := portFrameBytes f })) ∧
  (∀ f : PortFrame, Sends (portFrameAs f) (portFrameBytes f)) ∧ ∀ f : FleetFrame, Sends (fleetFrameAs f) (fleetFrameBytes f)

/-! ### The command stream -/

/-- A cycle expiry of a slot whose loader has been heard, whose misses do not count, or whose miss leaves the counter below miss_limit: the
heard mark is cleared, the counter is 0, as it was, or incremented, and the frame of R95 is placed, unless a RESTART frame of the slot waits,
which the model lets no frame replace, of whatever mode (log entry 7). A STOP frame has no payload and leaves the entry as it is; the others
carry the axes after ramp and cap, which become the applied values with LIGHTS, and advance a ramp record they used, removing it at k = K. A
HELD entry's chair is sent a STATUS frame. The timer restarts with the slot's period, or 50 ms before its ID answer. -/
def Obligations.CycleExpiriesBuildFrames : Prop :=
  ∀ (s : State) (i : Slot), s.Quiet → (s.fleetSlot i).cycle ≠ none → (s.entry i).state ≠ .empty →
    ((s.fleetSlot i).heard = true ∨ (s.entry i).state = .linkLost ∨ (s.entry i).state = .tripped ∨ (s.entry i).state = .refused ∨
      ((s.entry i).state = .discovering ∧ (s.context i).stage ≠ some .awaitingTelemetry) ∨
      (s.fleetSlot i).misses + 1 < s.policy.missLimit) →
    let e := s.entry i
    let f := s.fleetSlot i
    let running := (e.state.carries = true ∨ e.state = .locked ∨ (e.state = .discovering ∧ (s.context i).stage = some .awaitingTelemetry))
    let u := s.setFleetSlot i
      { f with
        heard := false, misses := if running then (if f.heard then 0 else f.misses + 1) else f.misses,
        cycle := some ((s.context i).period.getD 50) }
    (frameTable s i = none →
      exec (.cycleExpiry i) s =
        .next { u with fleetQueue := placeCommand (.command i (s.unitNumber i) .stop []) s.fleetQueue }) ∧
    ∀ src, frameTable s i = some src →
      let z := s.loaderZone i
      let capped := z.cap < src.axes.travel.natAbs
      let axes : Axes :=
        { src.axes with
          travel :=
            if capped then (if src.axes.travel < 0 then -((z.cap - z.backoff : Nat) : Int) else ((z.cap - z.backoff : Nat) : Int))
            else src.axes.travel }
      let v : State :=
        ({ u with fleetQueue := placeCommand (.command i (s.unitNumber i) src.mode (packFrame (s.context i) axes src)) s.fleetQueue } : State)
          |>.setEntry i
            { e with
              applied := axes, lights := src.lights
              ramp :=
                if src.ramped then
                  (match e.ramp with
                    | some r => if r.progress < r.length then some { r with progress := r.progress + 1 } else none
                    | none => none)
                else e.ramp }
      (e.state ≠ .held → exec (.cycleExpiry i) s = .next v) ∧
      (∀ c ls, e.state = .held → e.holder = some (.chair c) → (s.chair c).state ≠ .offline → e.status = some ls →
        exec (.cycleExpiry i) s =
          .next (v.setChair c ((s.chair c).queued
            (.status { slot := i, status := ls, applied := axes, capped := decide capped, rampActive := src.ramped }))))

/-- The TRAVEL of a frame, as written into the applied values, is never beyond the cap of its loader's zone: a cycle expiry is answered by a
next state in which, unless the entry is EMPTY, DISCOVERING or REFUSED, the applied TRAVEL has a magnitude no greater than the cap. -/
def Obligations.TravelNeverBeyondCap : Prop :=
  ∀ (s : State) (i : Slot) (z : ZoneId), (s.fleetSlot i).cycle ≠ none → (s.entry i).zone? = some z →
    ∃ t, exec (.cycleExpiry i) s = .next t ∧
      ((t.entry i).state ∉ [EntryState.empty, .discovering, .refused] → (t.entry i).applied.travel.natAbs ≤ (s.zone z).cap)

/-- The miss counter reaches miss_limit at a cycle expiry in FREE, AUTO, HELD or LOCKED: the entry becomes LINK_LOST with its stack and
status kept, the record abandoned, the call gone, the former holder no longer DRIVING, LINK_LOST to the service link, the forget timer
started, and the frame of the same expiry is a braked neutral HOLD frame. The handover ends with LINK_LOST, of which its requester and its
target learn, and then the holder is sent LOST of cause LINK_LOST, in queues with room. The HOLD frame is placed unless a RESTART frame of
the slot waits (the model's reading, log entry 7). The counter reaches miss_limit in AWAITING_TELEMETRY: the entry becomes REFUSED with
NO_ANSWER and its stage recorded, the context otherwise kept, REFUSED goes to the service link, and the frame of the expiry is STOP. At the
forget expiry the slot is as one that holds no loader, its COMMAND frame withdrawn and its binding kept. -/
def Obligations.LostLoadersAreForgotten : Prop :=
  (∀ (s : State) (i : Slot), s.Quiet → s.AuthorityLaw → s.OneHolderLaw → (s.fleetSlot i).cycle ≠ none →
    (s.entry i).state.carries = true ∨ (s.entry i).state = .locked → (s.fleetSlot i).heard = false →
    s.policy.missLimit ≤ (s.fleetSlot i).misses + 1 →
    let e := s.entry i
    let hold : FrameSource :=
      { mode := .hold, axes := ⟨0, 0, 0, 0⟩, gear := .n, parkBrake := true, horn := false, lights := e.lights, ramped := false }
    ∃ t, exec (.cycleExpiry i) s = .next t ∧
      t.entry i =
        { e with
          state := .linkLost, holder := none, handover := none, ramp := none, zoneDrop := false, applied := ⟨0, 0, 0, 0⟩ } ∧
      t.fleetQueue =
        placeCommand (.command i (s.unitNumber i) .hold (packFrame (s.context i) ⟨0, 0, 0, 0⟩ hold)) s.fleetQueue ∧
      t.fleetSlot i =
        { cycle := some ((s.context i).period.getD 50), heard := false, misses := (s.fleetSlot i).misses + 1,
          forget := some s.policy.forgetTime } ∧
      (∀ k ∈ t.calls, k.slot ≠ i) ∧ (∀ c, e.heldBy c = true → (t.chair c).state ≠ .driving) ∧
      (∀ d, s.Queues t d (s.farewell i .linkLost d)) ∧
      (s.service.online = true → waitingAnswers s.service.port.queue < 15 →
        PortFrame.notice (.linkLost i (s.unitNumber i) e.state e.holder) ∈ t.service.port.queue) ∧
      (∀ j, j ≠ i → SameButRecord (s.entry j) (t.entry j)) ∧ (∀ d, SameButOffer (s.chair d) (t.chair d)) ∧
      t.zones = s.zones ∧ t.policy = s.policy ∧ t.bindings = s.bindings ∧ t.contexts = s.contexts) ∧
  (∀ (s : State) (i : Slot), s.Quiet → (s.fleetSlot i).cycle ≠ none → (s.entry i).state = .discovering →
    (s.context i).stage = some .awaitingTelemetry → (s.fleetSlot i).heard = false →
    s.policy.missLimit ≤ (s.fleetSlot i).misses + 1 →
    let x := s.context i
    let why : DiscoveryRefusal := { cause := .noAnswer, stage := .awaitingTelemetry, read := x.read }
    exec (.cycleExpiry i) s =
      .next (((({ s with
          fleetQueue :=
            placeCommand (.command i (s.unitNumber i) .stop []) (s.fleetQueue.filter fun f => !f.isReadOf i) } : State).setEntry i
        { s.entry i with state := .refused, holder := none, ramp := none, zoneDrop := false }).setContext i
        { x with stage := none, read := none, answerTimer := none, refusal := some why }).setFleetSlot i
        { s.fleetSlot i with misses := (s.fleetSlot i).misses + 1, cycle := some (x.period.getD 50) } |>.told
        (.refused i (s.unitNumber i) why))) ∧
  ∀ (s : State) (i : Slot), s.Quiet → (s.fleetSlot i).forget ≠ none →
    ∃ t, exec (.forgetExpiry i) s = .next t ∧ t.Vacant i ∧ t.bindings = s.bindings ∧
      t.fleetQueue = s.fleetQueue.filter (fun f => !f.isCommandOf i) ∧
      (∀ j, j ≠ i → t.entry j = s.entry j ∧ t.context j = s.context j ∧ t.fleetSlot j = s.fleetSlot j) ∧
      t.chairs = s.chairs ∧ t.service = s.service ∧ t.calls = s.calls ∧ t.zones = s.zones ∧ t.policy = s.policy

/-! ### The dispatcher -/

/-- A visit to an unreserved call whose loader has no record. A saturated declined set is emptied first, with the unserved count raised and
UNSERVED to the service link. The chair chosen is the first at or after the pointer, in cyclic order, that is READY, PRESENT, allowed in the
loader's zone and not in the declined set; it is OFFERED with a CLAIM record and an OFFER notice, the call is reserved, and the pointer names
the chair after it. With no such chair the call stays as it is. A reserved call is passed over. A run visits each call of the queue once, from
head to tail, each visit in the state the one before it left. The dispatcher ends an event only if the event called for it. -/
def Obligations.DispatcherVisits : Prop :=
  (∀ (s : State) (i : Slot) (k : Call), s.findCall i = some k → k.reserved = true → visitCall s i = s) ∧
  (∀ (s : State) (i : Slot) (k : Call) (ls : LoaderStatus), s.findCall i = some k → k.reserved = false →
    (s.entry i).handover = none → (s.entry i).status = some ls →
    let allowed := (s.zone ls.zone).allowed
    let full := k.declined ≠ 0#6 ∧ ∀ c, (s.chair c).state ≠ .offline → hasChair allowed c = true → hasChair k.declined c = true
    let n := if k.unserved < 255 then k.unserved + 1 else 255
    let s₁ : State :=
      if full then
        ({ s with calls := s.calls.map fun d => if d.slot = i then { d with declined := 0#6, unserved := n } else d } : State).told
          (.unserved i k.reason ls.zone n)
      else s
    let declined := if full then 0#6 else k.declined
    let fit (c : ChairId) : Bool :=
      (s.chair c).state == .ready && (s.chair c).presence == .present && hasChair allowed c && !hasChair declined c
    ((∀ c, fit c = false) → visitCall s i = s₁) ∧
    ∀ m : ChairId, fit (s.pointer + m) = true → (∀ b, b < m → fit (s.pointer + b) = false) →
      let c := s.pointer + m
      visitCall s i =
        ((({ s₁ with
            pointer := c + 1
            calls := s₁.calls.map fun d => if d.slot = i then { d with reserved := true } else d } : State).setEntry i
          { s.entry i with
            handover := some
              { kind := .claim, source := some .auto, target := .chair c, phase := .offering,
                gate := { policy := s.policy.gateClaim, request := none }, deadline := s.policy.offerTimeout, requester := none,
                callAttached := true } }).setChair c
          (({ s.chair c with state := .offered } : Chair).queued
            (.notice (.offer i (s.unitNumber i) ls.zone ls.phase .claim (.call k.reason)))))) ∧
  (∀ s : State, runDispatcher s = (s.calls.map fun k => k.slot).foldl visitCall s) ∧
  ∀ s : State, finish s = ranIf s.dispatchDue { s with dispatchDue := false }

/-- The single walk leaves no call and chair that could still be paired: after a run of the dispatcher, no unreserved call has an eligible
chair; and the run makes no offer to a chair that was not READY and PRESENT. -/
def Obligations.OneWalkLeavesNoPair : Prop :=
  ∀ s : State, s.CallQueueLaw → s.ReservedLaw →
    let t := runDispatcher s
    (∀ k ∈ t.calls, k.reserved = false → ∀ c, eligible k c t = false) ∧
    (∀ c, t.chair c ≠ s.chair c → (s.chair c).state = .ready ∧ (s.chair c).presence = .present ∧ (t.chair c).state = .offered) ∧
    t.calls.map (fun k => (k.slot, k.reason)) = s.calls.map (fun k => (k.slot, k.reason)) ∧
    (∀ i, SameButRecord (s.entry i) (t.entry i)) ∧ SameElsewhere s t

/-! ### Arithmetic and layouts -/

/-- A ramp's output for an axis lies between its start and its target, is the exact value S + (T − S) × k / K rounded to the nearest integer
with a half toward S, and is the target at k = K. -/
def Obligations.RampOutputIsNearest : Prop :=
  ∀ (S T : Int) (k K : Nat), 1 ≤ k → k ≤ K →
    let out := rampAxis S T k K
    2 * (K * (out - S) - (T - S) * k).natAbs ≤ K ∧
    (2 * (K * (out - S) - (T - S) * k).natAbs = K → (K * (out - S)).natAbs ≤ ((T - S) * k).natAbs) ∧
    (min S T ≤ out ∧ out ≤ max S T) ∧ rampAxis S T K K = T

/-- Every raw value of an analog channel lies within its raw range; +2047 counts scale to raw_max, −2048 to raw_min and 0 to raw_neutral. -/
def Obligations.ScalingStaysInRange : Prop :=
  ∀ (lo mid hi n : Int), -32768 ≤ lo → lo ≤ mid → mid ≤ hi → hi ≤ 32767 → IsCounts n →
    let g := gainsOf lo mid hi
    lo ≤ scale g mid n ∧ scale g mid n ≤ hi ∧ scale g mid 2047 = hi ∧ scale g mid (-2048) = lo ∧ scale g mid 0 = mid

/-- Packing and unpacking agree: the values of a list of channels, each representable in its size and kind, stand in the payload of R111 one
behind the other from bit 0, each least significant bit first and in two's complement, with 0 above the last, and are read back from it. The
payload of a frame packs the OUT channels of a validated list in descriptor order: each axis scaled into its own channel's raw range by R108,
GEAR 0 N, 1 F and 2 R, PARK_BRAKE, HORN and LIGHTS 1 or 0; and each of these values is representable. -/
def Obligations.UnpackingReadsWhatPackingWrote : Prop :=
  let fits (p : Descriptor × Int) : Prop :=
    1 ≤ p.1.size.toNat ∧
      (if p.1.kind = 0#8 then -(2 ^ (p.1.size.toNat - 1) : Int) ≤ p.2 ∧ p.2 < (2 ^ (p.1.size.toNat - 1) : Int)
        else 0 ≤ p.2 ∧ p.2 < (2 ^ p.1.size.toNat : Int))
  let bits (cs : List (Descriptor × Int)) : Nat := (cs.map fun p => p.1.size.toNat).sum
  let packed (cs : List (Descriptor × Int)) : List Byte :=
    payloadOf (payloadBytes (cs.map (·.1))) (packNumber (cs.map fun p => (p.1.size.toNat, p.2)))
  (∀ (cs : List (Descriptor × Int)), (∀ p ∈ cs, fits p) →
    (packed cs).length = (bits cs + 7) / 8 ∧ unpack (cs.map (·.1)) (numberOf (packed cs)) = cs ∧
    (∀ n, bits cs ≤ n → ((packed cs).getD (n / 8) 0#8).getLsbD (n % 8) = false) ∧
    ∀ (ahead behind : List (Descriptor × Int)) (p : Descriptor × Int), cs = ahead ++ p :: behind →
      ∀ j, j < p.1.size.toNat →
        let n := bits ahead + j
        ((packed cs).getD (n / 8) 0#8).getLsbD (n % 8) = (BitVec.ofInt p.1.size.toNat p.2).getLsbD j) ∧
  ∀ (x : Context) (period watchdog : Nat) (axes : Axes) (src : FrameSource),
    validate x.descriptors period watchdog = none → x.admitted = some (admissionOf x.descriptors) → axes.InCounts →
    let cs := (x.descriptors.filter fun d => d.direction = 0#8).map fun d => (d, outValue axes src d)
    (∀ p ∈ cs, fits p) ∧ packFrame x axes src = packed cs

/-- The checks of a received run in their order: framing, CRC, length, kind and content on a chair or service link (R184), framing, CRC, and
length, kind and ENTRY marker on the fleet link (R154). An AXIS frame, a REQUEST frame of each request and length, and each frame of a loader,
written by the layouts of R186 whatever the bits that are not read, are received as the command with that content; a REQUEST of another code
or length is a bad frame of the content check, and so is an AXIS frame of another length or with a value outside the counts. A CALL of
another reason keeps its unit number. By inference, an ENTRY's marker is checked before its unit number (log entry 8), a CALL's reason after it
(log entry 9), and the fleet link's length check has no upper bound, so that a TELEMETRY of more than 48 payload bytes is received (log entry
26; R180 gives a length byte of 0 to 48). -/
def Obligations.AxisFramesAreReceived : Prop :=
  (∀ (p : Port) (run : List Byte), run.length < 5 ∨ run.head? ≠ some 0xA5#8 →
    receive p run = .badFrame p .framing ∧ receiveFleet run = .badFleetFrame .framing) ∧
  (∀ (p : Port) (kind len : Byte) (payload : List Byte) (sent : Half),
    let run : List Byte := 0xA5#8 :: kind :: len :: (payload ++ bytesOfHalf sent)
    let sum := crc (kind :: len :: payload)
    let short := len.toNat ≤ 48 ∧ len.toNat = payload.length
    let taken := kind = 0x00#8 ∨ kind = 0x02#8 ∨ (kind = 0x01#8 ∧ p ≠ .service)
    (sent ≠ sum → receive p run = .badFrame p .crc ∧ receiveFleet run = .badFleetFrame .crc) ∧
    (sent = sum → ¬ short → receive p run = .badFrame p .length) ∧
    (sent = sum → short → ¬ taken → receive p run = .badFrame p .kind) ∧
    (sent = sum → short → taken →
      (kind = 0x00#8 → receive p run = if payload = [] then .idle p else .badFrame p .content) ∧
      (kind = 0x01#8 → payload.length ≠ 9 → receive p run = .badFrame p .content) ∧
      (kind = 0x02#8 → (∀ code ∈ payload.head?, (code.toNat, payload.length) ∉ requestShapes) → receive p run = .badFrame p .content)) ∧
    (sent = sum → len.toNat ≠ payload.length ∨ ¬ fleetShape kind payload → receiveFleet run = .badFleetFrame .format)) ∧
  (∀ (c : ChairId) (f : AxisFrame) (spare : Byte), f.WellFormed →
    let bit (b : Bool) : Nat := if b then 1 else 0
    let payload : List Byte :=
      intHalf f.steer ++ intHalf f.travel ++ intHalf f.boom ++ intHalf f.bucket ++
        [(spare &&& 0xC0#8) ||| BitVec.ofNat 8 (bit f.enable + 2 * bit f.brakeReq + 4 * bit f.horn + 8 * bit f.lights + 16 * f.gear.toNat)]
    let body : List Byte := 0x01#8 :: 0x09#8 :: payload
    receive (.chair c) (frameBytes 0x01#8 payload) = .axis c f ∧
    receive .service (frameBytes 0x01#8 payload) = .badFrame .service .kind ∧
    ∀ k : Fin 16, receive (.chair c) (0xA5#8 :: body ++ bytesOfHalf (crc body ^^^ (1#16 <<< k.val))) = .badFrame (.chair c) .crc) ∧
  (∀ (c : ChairId) (steer travel boom bucket : Half) (discretes : Byte),
    ¬ (IsCounts steer.toInt ∧ IsCounts travel.toInt ∧ IsCounts boom.toInt ∧ IsCounts bucket.toInt) →
    receive (.chair c)
        (frameBytes 0x01#8 (bytesOfHalf steer ++ bytesOfHalf travel ++ bytesOfHalf boom ++ bytesOfHalf bucket ++ [discretes])) =
      .badFrame (.chair c) .content) ∧
  (∀ (spare : Byte) (cmd : Instr) (p : Port) (payload : List Byte), cmd.WellFormed → requestPayload spare cmd = some (p, payload) →
    receive p (frameBytes 0x02#8 payload) = cmd) ∧
  (∀ (cmd : Instr) (kind : Byte) (u : UnitNumber) (rest : List Byte), cmd.WellFormed → fleetContent cmd = some (kind, u, rest) →
    receiveFleet (frameBytes kind (bytesOfUnit u ++ rest)) = cmd) ∧
  ∀ (u : UnitNumber) (reason : Byte), 3 < reason.toNat →
    receiveFleet (frameBytes 0x12#8 (bytesOfUnit u ++ [reason])) = .badFleetFrame (.callReason u)

/-! ### Laws that every step keeps -/

/-- R2, R4, R58, R134 and R149 as one law, and the closed-zone law, are kept by every step from every state that has them. -/
def Obligations.StepsKeepTheClosedZoneLaw : Prop :=
  ∀ s t : State, step s = .next t → s.AuthorityLaw → s.ClosedZoneLaw → t.AuthorityLaw ∧ t.ClosedZoneLaw

/-- No chair holds two entries, a chair is DRIVING exactly while it holds one, OFFERED and ENGAGING exactly while one record targets it, and a
record's source is the entry's holder: kept by every step. -/
def Obligations.StepsKeepOneHolder : Prop :=
  ∀ s t : State, step s = .next t → s.AuthorityLaw → s.SourceLaw → s.OneHolderLaw → t.SourceLaw ∧ t.OneHolderLaw

/-- The call queue stays sorted by class with one call for each loader, of AUTO entries alone, so of at most 16 calls, and a call is reserved
exactly while its loader's record has it attached: kept by every step. -/
def Obligations.StepsKeepTheCallQueue : Prop :=
  ∀ s t : State, step s = .next t → s.AuthorityLaw → s.CallQueueLaw → s.ReservedLaw →
    t.CallQueueLaw ∧ t.ReservedLaw ∧ t.CallerLaw ∧ t.calls.length ≤ 16

/-- An entry's holder is fixed by its state, and a holder stack keeps at most 4 parties, none twice in adjacent positions: each is kept by
every step, of itself. -/
def Obligations.StepsKeepHoldersAndStacks : Prop :=
  (∀ s t : State, step s = .next t → s.HolderLaw → t.HolderLaw) ∧ ∀ s t : State, step s = .next t → s.StackLaw → t.StackLaw

/-- Every zone record keeps b ≤ c ≤ 2047, every policy field its range, and no unit number is bound twice or is 0: kept by every step. -/
def Obligations.StepsKeepThePlans : Prop :=
  ∀ s t : State, step s = .next t → s.ZonePlanLaw → s.PolicyLaw → s.BindingLaw → t.ZonePlanLaw ∧ t.PolicyLaw ∧ t.BindingLaw

/-- Every chair's presence timers are those of its presence, its latch suits its state, and an OFFLINE chair holds nothing: kept by every
step. -/
def Obligations.StepsKeepTheChairs : Prop :=
  ∀ s t : State, step s = .next t → s.ChairLaw → t.ChairLaw

/-- Placement in a port's transmit queue: an OFFLINE port discards the frame. On an online port an answer or a notice joins the tail while
fewer than 15 wait; with 15 waiting it is dropped, the queue stays as it is, TX_OVERFLOW is set and the error count raised. A STATUS frame
joins the tail where none waits, and otherwise takes the place of the waiting one. Every transmit queue holds at most 15 answers and notices
and one STATUS frame, none while its port is OFFLINE, and the bad-frame run stays below 4 and the error count at most 255: kept by every
step. -/
def Obligations.StepsKeepThePorts : Prop :=
  (∀ (s : State) (p : Port) (f : PortFrame),
    (s.online p = false → s.send p f = s) ∧ (s.online p = true → s.send p f = s.setPort p ((s.port p).enqueue f))) ∧
  (∀ (r : PortRegs) (f : PortFrame), f.reports = true →
    let waiting := r.queue.countP fun g => g.reports
    (waiting < 15 → r.enqueue f = { r with queue := r.queue ++ [f] }) ∧
    (15 ≤ waiting → r.enqueue f = { r with flags := r.flags ||| 0x008#16, errors := min 255 (r.errors + 1) })) ∧
  (∀ (r : PortRegs) (f : StatusFrame),
    ((∀ g ∈ r.queue, g.reports = true) → r.enqueue (.status f) = { r with queue := r.queue ++ [.status f] }) ∧
    ∀ (ahead behind : List PortFrame) (w : StatusFrame), r.queue = ahead ++ .status w :: behind → (∀ g ∈ ahead, g.reports = true) →
      r.enqueue (.status f) = { r with queue := ahead ++ .status f :: behind }) ∧
  ∀ s t : State, step s = .next t → s.PortLaw → t.PortLaw

/-- Placement in the fleet transmit queue: a frame with none of its slot and class waiting joins the tail; otherwise it takes the place of
the waiting one, but that a waiting RESTART frame keeps its place and the new COMMAND frame is not placed, whatever its mode (the model's
reading of R152, log entry 7), unless it is a RESTART. The queue holds at most one COMMAND frame and one discovery read for each slot, and so
never more than 32 frames: kept by every step. -/
def Obligations.StepsKeepTheFleetQueue : Prop :=
  (∀ (f : FleetFrame) (q : List FleetFrame),
    ((∀ g ∈ q, g.isCommandOf f.slot = false) → placeCommand f q = q ++ [f] ∧ placeRestart f q = q ++ [f]) ∧
    ((∀ g ∈ q, g.isReadOf f.slot = false) → placeRead f q = q ++ [f]) ∧
    ∀ (ahead behind : List FleetFrame) (g : FleetFrame), q = ahead ++ g :: behind →
      ((∀ k ∈ ahead, k.isCommandOf f.slot = false) → g.isCommandOf f.slot = true →
        placeRestart f q = ahead ++ f :: behind ∧
        (g.isRestart = false → placeCommand f q = ahead ++ f :: behind) ∧ (g.isRestart = true → placeCommand f q = q)) ∧
      ((∀ k ∈ ahead, k.isReadOf f.slot = false) → g.isReadOf f.slot = true → placeRead f q = ahead ++ f :: behind)) ∧
  (∀ s t : State, step s = .next t → s.FleetQueueLaw → t.FleetQueueLaw) ∧
  ∀ s : State, s.FleetQueueLaw → s.fleetQueue.length ≤ 32

/-- Held samples, applied values and ramps stay in their ranges: the counts that enter scaling always lie between −2048 and +2047. Kept by
every step that keeps the zone plan and the policy in range. -/
def Obligations.StepsKeepTheCounts : Prop :=
  ∀ s t : State, step s = .next t → s.ZonePlanLaw → s.PolicyLaw → s.CountsLaw → t.CountsLaw

/-- The state after power-on has every law that the steps keep, and its dispatcher flag is clear. -/
def Obligations.PowerOnHasEveryLaw : Prop :=
  State.reset.AuthorityLaw ∧ State.reset.ClosedZoneLaw ∧ State.reset.SourceLaw ∧ State.reset.OneHolderLaw ∧ State.reset.CallQueueLaw ∧
  State.reset.ReservedLaw ∧ State.reset.StackLaw ∧ State.reset.ZonePlanLaw ∧ State.reset.PolicyLaw ∧ State.reset.BindingLaw ∧
  State.reset.ChairLaw ∧ State.reset.PortLaw ∧ State.reset.FleetQueueLaw ∧ State.reset.CountsLaw ∧ State.reset.Quiet
end

