-- ==== Sys2Proof/Laws/Codec.lean ====
section
/-! SUPPORT. The arithmetic of payloads, ramps and the travel cap (R103, R105, R111), the splitting of a received run (R180), and the
CRC bit by bit (R181). -/

namespace Sys2Proof.Machine

@[simp] theorem payloadOf_length (n x : Nat) : (payloadOf n x).length = n := by
  induction n generalizing x with
  | zero => rfl
  | succ n ih => simp [payloadOf, ih]

/-- The bytes of a number spell it, as far as they reach. -/
theorem numberOf_payloadOf (n x : Nat) : numberOf (payloadOf n x) = x % 256 ^ n := by
  induction n generalizing x with
  | zero => simp [payloadOf, numberOf, Nat.mod_one]
  | succ n ih =>
    have first : (BitVec.ofNat 8 x).toNat = x % 256 := BitVec.toNat_ofNat x 8
    rw [payloadOf, numberOf, ih, first, pow_succ', Nat.mod_mul]

/-- A field holds no bit beyond its size. -/
theorem fieldBits_lt (size : Nat) (v : Int) : fieldBits size v < 2 ^ size := by
  have hpos : (0 : Int) < (2 ^ size : Nat) := by exact_mod_cast Nat.two_pow_pos size
  have h1 := Int.emod_nonneg v hpos.ne'
  have h2 := Int.emod_lt_of_pos v hpos
  unfold fieldBits
  omega

/-- A packed payload holds no bit beyond the total of its sizes. -/
theorem packNumber_lt (fs : List (Nat × Int)) : packNumber fs < 2 ^ (fs.map (·.1)).sum := by
  induction fs with
  | nil => simp [packNumber]
  | cons f fs ih =>
    obtain ⟨size, v⟩ := f
    have h := fieldBits_lt size v
    simp only [packNumber, List.map_cons, List.sum_cons, pow_add]
    calc fieldBits size v + 2 ^ size * packNumber fs
        < 2 ^ size + 2 ^ size * packNumber fs := by omega
      _ = 2 ^ size * (packNumber fs + 1) := by ring
      _ ≤ 2 ^ size * 2 ^ (fs.map (·.1)).sum := Nat.mul_le_mul_left _ ih

/-- The first field of a packed payload, and the rest. -/
theorem packNumber_split (size : Nat) (v : Int) (fs : List (Nat × Int)) :
    packNumber ((size, v) :: fs) % 2 ^ size = fieldBits size v ∧ packNumber ((size, v) :: fs) / 2 ^ size = packNumber fs := by
  have h := fieldBits_lt size v
  have hpos := Nat.two_pow_pos size
  simp only [packNumber]
  constructor
  · rw [Nat.add_mul_mod_self_left, Nat.mod_eq_of_lt h]
  · rw [Nat.add_mul_div_left _ _ hpos, Nat.div_eq_of_lt h, Nat.zero_add]

/-- A two-byte number is read back from its bytes (R180). -/
@[simp] theorem halfOf_bytesOfHalf (x : Half) : halfOf (x.extractLsb' 8 8) (x.extractLsb' 0 8) = x := by
  apply BitVec.eq_of_getLsbD_eq
  intro k hk
  simp only [halfOf, BitVec.getLsbD_append, BitVec.getLsbD_extractLsb']
  by_cases h : k < 8
  · simp [h]
  · simp [h, show k - 8 < 8 by omega, show 8 + (k - 8) = k by omega]

/-- A run of at least five bytes that begins with the sync byte is split into its parts (R180, R184). -/
theorem splitRun_frame (kind len : Byte) (payload : List Byte) (sent : Half) :
    splitRun (syncByte :: kind :: len :: (payload ++ bytesOfHalf sent)) = some (kind, len, payload, sent) := by
  simp [splitRun, bytesOfHalf]

/-- One shift of the CRC register with a byte's bits still to come in `m` takes the first of them. -/
theorem crcShift_xor (r m : Half) : crcShift (r ^^^ m) = crcBit r (m.getLsbD 15) ^^^ (m <<< 1) := by
  have hs : (r ^^^ m) <<< 1 = (r <<< 1) ^^^ (m <<< 1) := BitVec.shiftLeft_xor_distrib r m 1
  unfold crcShift crcBit
  rw [BitVec.getLsbD_xor, hs]
  cases r.getLsbD 15 <;> cases m.getLsbD 15 <;> simp [BitVec.xor_assoc, BitVec.xor_comm (4129#16)]

/-- The bits that a byte in the high half of the register still has to give. -/
theorem getLsbD_high (b : Byte) (k : Nat) (hk : k ≤ 7) : ((b ++ 0#8 : Half) <<< k).getLsbD 15 = b.getLsbD (7 - k) := by
  rw [BitVec.getLsbD_shiftLeft, BitVec.getLsbD_append]
  simp [show ¬ 15 - k < 8 by omega, show ¬ 15 < k by omega, show 15 - k - 8 = 7 - k by omega]

theorem shiftLeft_high (b : Byte) : (b ++ 0#8 : Half) <<< 8 = 0#16 := by
  apply BitVec.eq_of_getLsbD_eq
  intro i hi
  rw [BitVec.getLsbD_shiftLeft, BitVec.getLsbD_append]
  simp
  omega

/-- A byte into the CRC register is its eight bits, the most significant first. -/
theorem crcByte_eq (r : Half) (b : Byte) : crcByte r b = ([7, 6, 5, 4, 3, 2, 1, 0].map b.getLsbD).foldl crcBit r := by
  have h (k : Nat) (hk : k ≤ 7) (r : Half) :
      crcShift (r ^^^ ((b ++ 0#8 : Half) <<< k)) = crcBit r (b.getLsbD (7 - k)) ^^^ ((b ++ 0#8 : Half) <<< (k + 1)) := by
    rw [crcShift_xor, getLsbD_high b k hk, BitVec.shiftLeft_add]
  have h0 := h 0 (by omega) r
  rw [BitVec.shiftLeft_zero] at h0
  rw [crcByte, h0, h 1 (by omega), h 2 (by omega), h 3 (by omega), h 4 (by omega), h 5 (by omega), h 6 (by omega), h 7 (by omega),
    shiftLeft_high, BitVec.xor_zero]
  rfl

/-- The CRC taken bit by bit (R181). -/
theorem crc_eq_crcOfBits (bytes : List Byte) : crc bytes = crcOfBits bytes := by
  rw [crc, crcOfBits, List.foldl_flatMap]
  congr 1
  funext r b
  exact crcByte_eq r b

/-- TRAVEL after the cap stage lies within the cap (R105). -/
theorem capTravel_le (z : Zone) (travel : Int) : (capTravel z travel).natAbs ≤ z.cap := by
  unfold capTravel beyondCap
  split_ifs with h h2
  · simp
  · simp
  · simpa using h

/-- A TRAVEL within the cap is left as it is (R105). -/
theorem capTravel_of_le (z : Zone) (travel : Int) (h : travel.natAbs ≤ z.cap) : capTravel z travel = travel := by
  unfold capTravel beyondCap
  simp [Nat.not_lt.mpr h]

end Sys2Proof.Machine
end

