-- ==== Sys2Proof/Laws/State.lean ====
section
/-! SUPPORT. The small lemmas of the state's updates: what each leaves of every field, and what it writes. -/

namespace Sys2Proof.Machine

/-- A vector read at a place after a write to one. -/
theorem vector_get_set {α : Type} {n : Nat} (v : Vector α n) (i k : Fin n) (x : α) :
    (v.set i x).get k = if i = k then x else v.get k := by
  simp only [Vector.get_eq_getElem, Vector.getElem_set, Fin.ext_iff]

/-! ### `setEntry` -/

@[simp] theorem State.setEntry_chairs (s : State) (i : Slot) (e : Entry) : (s.setEntry i e).chairs = s.chairs := rfl
@[simp] theorem State.setEntry_service (s : State) (i : Slot) (e : Entry) : (s.setEntry i e).service = s.service := rfl
@[simp] theorem State.setEntry_calls (s : State) (i : Slot) (e : Entry) : (s.setEntry i e).calls = s.calls := rfl
@[simp] theorem State.setEntry_pointer (s : State) (i : Slot) (e : Entry) : (s.setEntry i e).pointer = s.pointer := rfl
@[simp] theorem State.setEntry_ignored (s : State) (i : Slot) (e : Entry) : (s.setEntry i e).ignored = s.ignored := rfl
@[simp] theorem State.setEntry_zones (s : State) (i : Slot) (e : Entry) : (s.setEntry i e).zones = s.zones := rfl
@[simp] theorem State.setEntry_policy (s : State) (i : Slot) (e : Entry) : (s.setEntry i e).policy = s.policy := rfl
@[simp] theorem State.setEntry_bindings (s : State) (i : Slot) (e : Entry) : (s.setEntry i e).bindings = s.bindings := rfl
@[simp] theorem State.setEntry_contexts (s : State) (i : Slot) (e : Entry) : (s.setEntry i e).contexts = s.contexts := rfl
@[simp] theorem State.setEntry_fleet (s : State) (i : Slot) (e : Entry) : (s.setEntry i e).fleet = s.fleet := rfl
@[simp] theorem State.setEntry_fleetQueue (s : State) (i : Slot) (e : Entry) : (s.setEntry i e).fleetQueue = s.fleetQueue := rfl
@[simp] theorem State.setEntry_gatewayReady (s : State) (i : Slot) (e : Entry) : (s.setEntry i e).gatewayReady = s.gatewayReady := rfl
@[simp] theorem State.setEntry_fleetSending (s : State) (i : Slot) (e : Entry) : (s.setEntry i e).fleetSending = s.fleetSending := rfl
@[simp] theorem State.setEntry_dispatchDue (s : State) (i : Slot) (e : Entry) : (s.setEntry i e).dispatchDue = s.dispatchDue := rfl
@[simp] theorem State.setEntry_pending (s : State) (i : Slot) (e : Entry) : (s.setEntry i e).pending = s.pending := rfl
@[simp] theorem State.setEntry_chair (s : State) (i : Slot) (e : Entry) (k : ChairId) : (s.setEntry i e).chair k = s.chair k := rfl
@[simp] theorem State.setEntry_zone (s : State) (i : Slot) (e : Entry) (k : ZoneId) : (s.setEntry i e).zone k = s.zone k := rfl
@[simp] theorem State.setEntry_binding (s : State) (i : Slot) (e : Entry) (k : Slot) : (s.setEntry i e).binding k = s.binding k := rfl
@[simp] theorem State.setEntry_context (s : State) (i : Slot) (e : Entry) (k : Slot) : (s.setEntry i e).context k = s.context k := rfl
@[simp] theorem State.setEntry_fleetSlot (s : State) (i : Slot) (e : Entry) (k : Slot) : (s.setEntry i e).fleetSlot k = s.fleetSlot k := rfl
@[simp] theorem State.setEntry_ignoredCalls (s : State) (i : Slot) (e : Entry) (k : Slot) : (s.setEntry i e).ignoredCalls k = s.ignoredCalls k := rfl

/-- The record written is the one read back, and no other changes. -/
theorem State.entry_setEntry (s : State) (i : Slot) (e : Entry) (k : Slot) :
    (s.setEntry i e).entry k = if i = k then e else s.entry k :=
  vector_get_set s.entries i k e

@[simp] theorem State.entry_setEntry_self (s : State) (i : Slot) (e : Entry) : (s.setEntry i e).entry i = e := by
  simp [State.entry_setEntry]

@[simp] theorem State.entry_setEntry_of_ne (s : State) {i : Slot} (e : Entry) {k : Slot} (h : i ≠ k) :
    (s.setEntry i e).entry k = s.entry k := by
  simp [State.entry_setEntry, h]

/-! ### `setChair` -/

@[simp] theorem State.setChair_entries (s : State) (c : ChairId) (x : Chair) : (s.setChair c x).entries = s.entries := rfl
@[simp] theorem State.setChair_service (s : State) (c : ChairId) (x : Chair) : (s.setChair c x).service = s.service := rfl
@[simp] theorem State.setChair_calls (s : State) (c : ChairId) (x : Chair) : (s.setChair c x).calls = s.calls := rfl
@[simp] theorem State.setChair_pointer (s : State) (c : ChairId) (x : Chair) : (s.setChair c x).pointer = s.pointer := rfl
@[simp] theorem State.setChair_ignored (s : State) (c : ChairId) (x : Chair) : (s.setChair c x).ignored = s.ignored := rfl
@[simp] theorem State.setChair_zones (s : State) (c : ChairId) (x : Chair) : (s.setChair c x).zones = s.zones := rfl
@[simp] theorem State.setChair_policy (s : State) (c : ChairId) (x : Chair) : (s.setChair c x).policy = s.policy := rfl
@[simp] theorem State.setChair_bindings (s : State) (c : ChairId) (x : Chair) : (s.setChair c x).bindings = s.bindings := rfl
@[simp] theorem State.setChair_contexts (s : State) (c : ChairId) (x : Chair) : (s.setChair c x).contexts = s.contexts := rfl
@[simp] theorem State.setChair_fleet (s : State) (c : ChairId) (x : Chair) : (s.setChair c x).fleet = s.fleet := rfl
@[simp] theorem State.setChair_fleetQueue (s : State) (c : ChairId) (x : Chair) : (s.setChair c x).fleetQueue = s.fleetQueue := rfl
@[simp] theorem State.setChair_gatewayReady (s : State) (c : ChairId) (x : Chair) : (s.setChair c x).gatewayReady = s.gatewayReady := rfl
@[simp] theorem State.setChair_fleetSending (s : State) (c : ChairId) (x : Chair) : (s.setChair c x).fleetSending = s.fleetSending := rfl
@[simp] theorem State.setChair_dispatchDue (s : State) (c : ChairId) (x : Chair) : (s.setChair c x).dispatchDue = s.dispatchDue := rfl
@[simp] theorem State.setChair_pending (s : State) (c : ChairId) (x : Chair) : (s.setChair c x).pending = s.pending := rfl
@[simp] theorem State.setChair_entry (s : State) (c : ChairId) (x : Chair) (k : Slot) : (s.setChair c x).entry k = s.entry k := rfl
@[simp] theorem State.setChair_zone (s : State) (c : ChairId) (x : Chair) (k : ZoneId) : (s.setChair c x).zone k = s.zone k := rfl
@[simp] theorem State.setChair_binding (s : State) (c : ChairId) (x : Chair) (k : Slot) : (s.setChair c x).binding k = s.binding k := rfl
@[simp] theorem State.setChair_context (s : State) (c : ChairId) (x : Chair) (k : Slot) : (s.setChair c x).context k = s.context k := rfl
@[simp] theorem State.setChair_fleetSlot (s : State) (c : ChairId) (x : Chair) (k : Slot) : (s.setChair c x).fleetSlot k = s.fleetSlot k := rfl
@[simp] theorem State.setChair_ignoredCalls (s : State) (c : ChairId) (x : Chair) (k : Slot) : (s.setChair c x).ignoredCalls k = s.ignoredCalls k := rfl

/-- The record written is the one read back, and no other changes. -/
theorem State.chair_setChair (s : State) (c : ChairId) (x : Chair) (k : ChairId) :
    (s.setChair c x).chair k = if c = k then x else s.chair k :=
  vector_get_set s.chairs c k x

@[simp] theorem State.chair_setChair_self (s : State) (c : ChairId) (x : Chair) : (s.setChair c x).chair c = x := by
  simp [State.chair_setChair]

@[simp] theorem State.chair_setChair_of_ne (s : State) {c : ChairId} (x : Chair) {k : ChairId} (h : c ≠ k) :
    (s.setChair c x).chair k = s.chair k := by
  simp [State.chair_setChair, h]

/-! ### `setZone` -/

@[simp] theorem State.setZone_entries (s : State) (z : ZoneId) (r : Zone) : (s.setZone z r).entries = s.entries := rfl
@[simp] theorem State.setZone_chairs (s : State) (z : ZoneId) (r : Zone) : (s.setZone z r).chairs = s.chairs := rfl
@[simp] theorem State.setZone_service (s : State) (z : ZoneId) (r : Zone) : (s.setZone z r).service = s.service := rfl
@[simp] theorem State.setZone_calls (s : State) (z : ZoneId) (r : Zone) : (s.setZone z r).calls = s.calls := rfl
@[simp] theorem State.setZone_pointer (s : State) (z : ZoneId) (r : Zone) : (s.setZone z r).pointer = s.pointer := rfl
@[simp] theorem State.setZone_ignored (s : State) (z : ZoneId) (r : Zone) : (s.setZone z r).ignored = s.ignored := rfl
@[simp] theorem State.setZone_policy (s : State) (z : ZoneId) (r : Zone) : (s.setZone z r).policy = s.policy := rfl
@[simp] theorem State.setZone_bindings (s : State) (z : ZoneId) (r : Zone) : (s.setZone z r).bindings = s.bindings := rfl
@[simp] theorem State.setZone_contexts (s : State) (z : ZoneId) (r : Zone) : (s.setZone z r).contexts = s.contexts := rfl
@[simp] theorem State.setZone_fleet (s : State) (z : ZoneId) (r : Zone) : (s.setZone z r).fleet = s.fleet := rfl
@[simp] theorem State.setZone_fleetQueue (s : State) (z : ZoneId) (r : Zone) : (s.setZone z r).fleetQueue = s.fleetQueue := rfl
@[simp] theorem State.setZone_gatewayReady (s : State) (z : ZoneId) (r : Zone) : (s.setZone z r).gatewayReady = s.gatewayReady := rfl
@[simp] theorem State.setZone_fleetSending (s : State) (z : ZoneId) (r : Zone) : (s.setZone z r).fleetSending = s.fleetSending := rfl
@[simp] theorem State.setZone_dispatchDue (s : State) (z : ZoneId) (r : Zone) : (s.setZone z r).dispatchDue = s.dispatchDue := rfl
@[simp] theorem State.setZone_pending (s : State) (z : ZoneId) (r : Zone) : (s.setZone z r).pending = s.pending := rfl
@[simp] theorem State.setZone_entry (s : State) (z : ZoneId) (r : Zone) (k : Slot) : (s.setZone z r).entry k = s.entry k := rfl
@[simp] theorem State.setZone_chair (s : State) (z : ZoneId) (r : Zone) (k : ChairId) : (s.setZone z r).chair k = s.chair k := rfl
@[simp] theorem State.setZone_binding (s : State) (z : ZoneId) (r : Zone) (k : Slot) : (s.setZone z r).binding k = s.binding k := rfl
@[simp] theorem State.setZone_context (s : State) (z : ZoneId) (r : Zone) (k : Slot) : (s.setZone z r).context k = s.context k := rfl
@[simp] theorem State.setZone_fleetSlot (s : State) (z : ZoneId) (r : Zone) (k : Slot) : (s.setZone z r).fleetSlot k = s.fleetSlot k := rfl
@[simp] theorem State.setZone_ignoredCalls (s : State) (z : ZoneId) (r : Zone) (k : Slot) : (s.setZone z r).ignoredCalls k = s.ignoredCalls k := rfl

/-- The record written is the one read back, and no other changes. -/
theorem State.zone_setZone (s : State) (z : ZoneId) (r : Zone) (k : ZoneId) :
    (s.setZone z r).zone k = if z = k then r else s.zone k :=
  vector_get_set s.zones z k r

@[simp] theorem State.zone_setZone_self (s : State) (z : ZoneId) (r : Zone) : (s.setZone z r).zone z = r := by
  simp [State.zone_setZone]

@[simp] theorem State.zone_setZone_of_ne (s : State) {z : ZoneId} (r : Zone) {k : ZoneId} (h : z ≠ k) :
    (s.setZone z r).zone k = s.zone k := by
  simp [State.zone_setZone, h]

/-! ### `setBinding` -/

@[simp] theorem State.setBinding_entries (s : State) (i : Slot) (b : Binding) : (s.setBinding i b).entries = s.entries := rfl
@[simp] theorem State.setBinding_chairs (s : State) (i : Slot) (b : Binding) : (s.setBinding i b).chairs = s.chairs := rfl
@[simp] theorem State.setBinding_service (s : State) (i : Slot) (b : Binding) : (s.setBinding i b).service = s.service := rfl
@[simp] theorem State.setBinding_calls (s : State) (i : Slot) (b : Binding) : (s.setBinding i b).calls = s.calls := rfl
@[simp] theorem State.setBinding_pointer (s : State) (i : Slot) (b : Binding) : (s.setBinding i b).pointer = s.pointer := rfl
@[simp] theorem State.setBinding_ignored (s : State) (i : Slot) (b : Binding) : (s.setBinding i b).ignored = s.ignored := rfl
@[simp] theorem State.setBinding_zones (s : State) (i : Slot) (b : Binding) : (s.setBinding i b).zones = s.zones := rfl
@[simp] theorem State.setBinding_policy (s : State) (i : Slot) (b : Binding) : (s.setBinding i b).policy = s.policy := rfl
@[simp] theorem State.setBinding_contexts (s : State) (i : Slot) (b : Binding) : (s.setBinding i b).contexts = s.contexts := rfl
@[simp] theorem State.setBinding_fleet (s : State) (i : Slot) (b : Binding) : (s.setBinding i b).fleet = s.fleet := rfl
@[simp] theorem State.setBinding_fleetQueue (s : State) (i : Slot) (b : Binding) : (s.setBinding i b).fleetQueue = s.fleetQueue := rfl
@[simp] theorem State.setBinding_gatewayReady (s : State) (i : Slot) (b : Binding) : (s.setBinding i b).gatewayReady = s.gatewayReady := rfl
@[simp] theorem State.setBinding_fleetSending (s : State) (i : Slot) (b : Binding) : (s.setBinding i b).fleetSending = s.fleetSending := rfl
@[simp] theorem State.setBinding_dispatchDue (s : State) (i : Slot) (b : Binding) : (s.setBinding i b).dispatchDue = s.dispatchDue := rfl
@[simp] theorem State.setBinding_pending (s : State) (i : Slot) (b : Binding) : (s.setBinding i b).pending = s.pending := rfl
@[simp] theorem State.setBinding_entry (s : State) (i : Slot) (b : Binding) (k : Slot) : (s.setBinding i b).entry k = s.entry k := rfl
@[simp] theorem State.setBinding_chair (s : State) (i : Slot) (b : Binding) (k : ChairId) : (s.setBinding i b).chair k = s.chair k := rfl
@[simp] theorem State.setBinding_zone (s : State) (i : Slot) (b : Binding) (k : ZoneId) : (s.setBinding i b).zone k = s.zone k := rfl
@[simp] theorem State.setBinding_context (s : State) (i : Slot) (b : Binding) (k : Slot) : (s.setBinding i b).context k = s.context k := rfl
@[simp] theorem State.setBinding_fleetSlot (s : State) (i : Slot) (b : Binding) (k : Slot) : (s.setBinding i b).fleetSlot k = s.fleetSlot k := rfl
@[simp] theorem State.setBinding_ignoredCalls (s : State) (i : Slot) (b : Binding) (k : Slot) : (s.setBinding i b).ignoredCalls k = s.ignoredCalls k := rfl

/-- The record written is the one read back, and no other changes. -/
theorem State.binding_setBinding (s : State) (i : Slot) (b : Binding) (k : Slot) :
    (s.setBinding i b).binding k = if i = k then b else s.binding k :=
  vector_get_set s.bindings i k b

@[simp] theorem State.binding_setBinding_self (s : State) (i : Slot) (b : Binding) : (s.setBinding i b).binding i = b := by
  simp [State.binding_setBinding]

@[simp] theorem State.binding_setBinding_of_ne (s : State) {i : Slot} (b : Binding) {k : Slot} (h : i ≠ k) :
    (s.setBinding i b).binding k = s.binding k := by
  simp [State.binding_setBinding, h]

/-! ### `setContext` -/

@[simp] theorem State.setContext_entries (s : State) (i : Slot) (x : Context) : (s.setContext i x).entries = s.entries := rfl
@[simp] theorem State.setContext_chairs (s : State) (i : Slot) (x : Context) : (s.setContext i x).chairs = s.chairs := rfl
@[simp] theorem State.setContext_service (s : State) (i : Slot) (x : Context) : (s.setContext i x).service = s.service := rfl
@[simp] theorem State.setContext_calls (s : State) (i : Slot) (x : Context) : (s.setContext i x).calls = s.calls := rfl
@[simp] theorem State.setContext_pointer (s : State) (i : Slot) (x : Context) : (s.setContext i x).pointer = s.pointer := rfl
@[simp] theorem State.setContext_ignored (s : State) (i : Slot) (x : Context) : (s.setContext i x).ignored = s.ignored := rfl
@[simp] theorem State.setContext_zones (s : State) (i : Slot) (x : Context) : (s.setContext i x).zones = s.zones := rfl
@[simp] theorem State.setContext_policy (s : State) (i : Slot) (x : Context) : (s.setContext i x).policy = s.policy := rfl
@[simp] theorem State.setContext_bindings (s : State) (i : Slot) (x : Context) : (s.setContext i x).bindings = s.bindings := rfl
@[simp] theorem State.setContext_fleet (s : State) (i : Slot) (x : Context) : (s.setContext i x).fleet = s.fleet := rfl
@[simp] theorem State.setContext_fleetQueue (s : State) (i : Slot) (x : Context) : (s.setContext i x).fleetQueue = s.fleetQueue := rfl
@[simp] theorem State.setContext_gatewayReady (s : State) (i : Slot) (x : Context) : (s.setContext i x).gatewayReady = s.gatewayReady := rfl
@[simp] theorem State.setContext_fleetSending (s : State) (i : Slot) (x : Context) : (s.setContext i x).fleetSending = s.fleetSending := rfl
@[simp] theorem State.setContext_dispatchDue (s : State) (i : Slot) (x : Context) : (s.setContext i x).dispatchDue = s.dispatchDue := rfl
@[simp] theorem State.setContext_pending (s : State) (i : Slot) (x : Context) : (s.setContext i x).pending = s.pending := rfl
@[simp] theorem State.setContext_entry (s : State) (i : Slot) (x : Context) (k : Slot) : (s.setContext i x).entry k = s.entry k := rfl
@[simp] theorem State.setContext_chair (s : State) (i : Slot) (x : Context) (k : ChairId) : (s.setContext i x).chair k = s.chair k := rfl
@[simp] theorem State.setContext_zone (s : State) (i : Slot) (x : Context) (k : ZoneId) : (s.setContext i x).zone k = s.zone k := rfl
@[simp] theorem State.setContext_binding (s : State) (i : Slot) (x : Context) (k : Slot) : (s.setContext i x).binding k = s.binding k := rfl
@[simp] theorem State.setContext_fleetSlot (s : State) (i : Slot) (x : Context) (k : Slot) : (s.setContext i x).fleetSlot k = s.fleetSlot k := rfl
@[simp] theorem State.setContext_ignoredCalls (s : State) (i : Slot) (x : Context) (k : Slot) : (s.setContext i x).ignoredCalls k = s.ignoredCalls k := rfl

/-- The record written is the one read back, and no other changes. -/
theorem State.context_setContext (s : State) (i : Slot) (x : Context) (k : Slot) :
    (s.setContext i x).context k = if i = k then x else s.context k :=
  vector_get_set s.contexts i k x

@[simp] theorem State.context_setContext_self (s : State) (i : Slot) (x : Context) : (s.setContext i x).context i = x := by
  simp [State.context_setContext]

@[simp] theorem State.context_setContext_of_ne (s : State) {i : Slot} (x : Context) {k : Slot} (h : i ≠ k) :
    (s.setContext i x).context k = s.context k := by
  simp [State.context_setContext, h]

/-! ### `setFleetSlot` -/

@[simp] theorem State.setFleetSlot_entries (s : State) (i : Slot) (x : FleetSlot) : (s.setFleetSlot i x).entries = s.entries := rfl
@[simp] theorem State.setFleetSlot_chairs (s : State) (i : Slot) (x : FleetSlot) : (s.setFleetSlot i x).chairs = s.chairs := rfl
@[simp] theorem State.setFleetSlot_service (s : State) (i : Slot) (x : FleetSlot) : (s.setFleetSlot i x).service = s.service := rfl
@[simp] theorem State.setFleetSlot_calls (s : State) (i : Slot) (x : FleetSlot) : (s.setFleetSlot i x).calls = s.calls := rfl
@[simp] theorem State.setFleetSlot_pointer (s : State) (i : Slot) (x : FleetSlot) : (s.setFleetSlot i x).pointer = s.pointer := rfl
@[simp] theorem State.setFleetSlot_ignored (s : State) (i : Slot) (x : FleetSlot) : (s.setFleetSlot i x).ignored = s.ignored := rfl
@[simp] theorem State.setFleetSlot_zones (s : State) (i : Slot) (x : FleetSlot) : (s.setFleetSlot i x).zones = s.zones := rfl
@[simp] theorem State.setFleetSlot_policy (s : State) (i : Slot) (x : FleetSlot) : (s.setFleetSlot i x).policy = s.policy := rfl
@[simp] theorem State.setFleetSlot_bindings (s : State) (i : Slot) (x : FleetSlot) : (s.setFleetSlot i x).bindings = s.bindings := rfl
@[simp] theorem State.setFleetSlot_contexts (s : State) (i : Slot) (x : FleetSlot) : (s.setFleetSlot i x).contexts = s.contexts := rfl
@[simp] theorem State.setFleetSlot_fleetQueue (s : State) (i : Slot) (x : FleetSlot) : (s.setFleetSlot i x).fleetQueue = s.fleetQueue := rfl
@[simp] theorem State.setFleetSlot_gatewayReady (s : State) (i : Slot) (x : FleetSlot) : (s.setFleetSlot i x).gatewayReady = s.gatewayReady := rfl
@[simp] theorem State.setFleetSlot_fleetSending (s : State) (i : Slot) (x : FleetSlot) : (s.setFleetSlot i x).fleetSending = s.fleetSending := rfl
@[simp] theorem State.setFleetSlot_dispatchDue (s : State) (i : Slot) (x : FleetSlot) : (s.setFleetSlot i x).dispatchDue = s.dispatchDue := rfl
@[simp] theorem State.setFleetSlot_pending (s : State) (i : Slot) (x : FleetSlot) : (s.setFleetSlot i x).pending = s.pending := rfl
@[simp] theorem State.setFleetSlot_entry (s : State) (i : Slot) (x : FleetSlot) (k : Slot) : (s.setFleetSlot i x).entry k = s.entry k := rfl
@[simp] theorem State.setFleetSlot_chair (s : State) (i : Slot) (x : FleetSlot) (k : ChairId) : (s.setFleetSlot i x).chair k = s.chair k := rfl
@[simp] theorem State.setFleetSlot_zone (s : State) (i : Slot) (x : FleetSlot) (k : ZoneId) : (s.setFleetSlot i x).zone k = s.zone k := rfl
@[simp] theorem State.setFleetSlot_binding (s : State) (i : Slot) (x : FleetSlot) (k : Slot) : (s.setFleetSlot i x).binding k = s.binding k := rfl
@[simp] theorem State.setFleetSlot_context (s : State) (i : Slot) (x : FleetSlot) (k : Slot) : (s.setFleetSlot i x).context k = s.context k := rfl
@[simp] theorem State.setFleetSlot_ignoredCalls (s : State) (i : Slot) (x : FleetSlot) (k : Slot) : (s.setFleetSlot i x).ignoredCalls k = s.ignoredCalls k := rfl

/-- The record written is the one read back, and no other changes. -/
theorem State.fleetSlot_setFleetSlot (s : State) (i : Slot) (x : FleetSlot) (k : Slot) :
    (s.setFleetSlot i x).fleetSlot k = if i = k then x else s.fleetSlot k :=
  vector_get_set s.fleet i k x

@[simp] theorem State.fleetSlot_setFleetSlot_self (s : State) (i : Slot) (x : FleetSlot) : (s.setFleetSlot i x).fleetSlot i = x := by
  simp [State.fleetSlot_setFleetSlot]

@[simp] theorem State.fleetSlot_setFleetSlot_of_ne (s : State) {i : Slot} (x : FleetSlot) {k : Slot} (h : i ≠ k) :
    (s.setFleetSlot i x).fleetSlot k = s.fleetSlot k := by
  simp [State.fleetSlot_setFleetSlot, h]

/-! ### `setIgnored` -/

@[simp] theorem State.setIgnored_entries (s : State) (i : Slot) (n : Nat) : (s.setIgnored i n).entries = s.entries := rfl
@[simp] theorem State.setIgnored_chairs (s : State) (i : Slot) (n : Nat) : (s.setIgnored i n).chairs = s.chairs := rfl
@[simp] theorem State.setIgnored_service (s : State) (i : Slot) (n : Nat) : (s.setIgnored i n).service = s.service := rfl
@[simp] theorem State.setIgnored_calls (s : State) (i : Slot) (n : Nat) : (s.setIgnored i n).calls = s.calls := rfl
@[simp] theorem State.setIgnored_pointer (s : State) (i : Slot) (n : Nat) : (s.setIgnored i n).pointer = s.pointer := rfl
@[simp] theorem State.setIgnored_zones (s : State) (i : Slot) (n : Nat) : (s.setIgnored i n).zones = s.zones := rfl
@[simp] theorem State.setIgnored_policy (s : State) (i : Slot) (n : Nat) : (s.setIgnored i n).policy = s.policy := rfl
@[simp] theorem State.setIgnored_bindings (s : State) (i : Slot) (n : Nat) : (s.setIgnored i n).bindings = s.bindings := rfl
@[simp] theorem State.setIgnored_contexts (s : State) (i : Slot) (n : Nat) : (s.setIgnored i n).contexts = s.contexts := rfl
@[simp] theorem State.setIgnored_fleet (s : State) (i : Slot) (n : Nat) : (s.setIgnored i n).fleet = s.fleet := rfl
@[simp] theorem State.setIgnored_fleetQueue (s : State) (i : Slot) (n : Nat) : (s.setIgnored i n).fleetQueue = s.fleetQueue := rfl
@[simp] theorem State.setIgnored_gatewayReady (s : State) (i : Slot) (n : Nat) : (s.setIgnored i n).gatewayReady = s.gatewayReady := rfl
@[simp] theorem State.setIgnored_fleetSending (s : State) (i : Slot) (n : Nat) : (s.setIgnored i n).fleetSending = s.fleetSending := rfl
@[simp] theorem State.setIgnored_dispatchDue (s : State) (i : Slot) (n : Nat) : (s.setIgnored i n).dispatchDue = s.dispatchDue := rfl
@[simp] theorem State.setIgnored_pending (s : State) (i : Slot) (n : Nat) : (s.setIgnored i n).pending = s.pending := rfl
@[simp] theorem State.setIgnored_entry (s : State) (i : Slot) (n : Nat) (k : Slot) : (s.setIgnored i n).entry k = s.entry k := rfl
@[simp] theorem State.setIgnored_chair (s : State) (i : Slot) (n : Nat) (k : ChairId) : (s.setIgnored i n).chair k = s.chair k := rfl
@[simp] theorem State.setIgnored_zone (s : State) (i : Slot) (n : Nat) (k : ZoneId) : (s.setIgnored i n).zone k = s.zone k := rfl
@[simp] theorem State.setIgnored_binding (s : State) (i : Slot) (n : Nat) (k : Slot) : (s.setIgnored i n).binding k = s.binding k := rfl
@[simp] theorem State.setIgnored_context (s : State) (i : Slot) (n : Nat) (k : Slot) : (s.setIgnored i n).context k = s.context k := rfl
@[simp] theorem State.setIgnored_fleetSlot (s : State) (i : Slot) (n : Nat) (k : Slot) : (s.setIgnored i n).fleetSlot k = s.fleetSlot k := rfl

/-- The record written is the one read back, and no other changes. -/
theorem State.ignoredCalls_setIgnored (s : State) (i : Slot) (n : Nat) (k : Slot) :
    (s.setIgnored i n).ignoredCalls k = if i = k then n else s.ignoredCalls k :=
  vector_get_set s.ignored i k n

@[simp] theorem State.ignoredCalls_setIgnored_self (s : State) (i : Slot) (n : Nat) : (s.setIgnored i n).ignoredCalls i = n := by
  simp [State.ignoredCalls_setIgnored]

@[simp] theorem State.ignoredCalls_setIgnored_of_ne (s : State) {i : Slot} (n : Nat) {k : Slot} (h : i ≠ k) :
    (s.setIgnored i n).ignoredCalls k = s.ignoredCalls k := by
  simp [State.ignoredCalls_setIgnored, h]

/-! ### Records taken together -/

/-- Two vectors that agree at every place are equal. -/
theorem vector_eq_of_get {α : Type} {n : Nat} {v w : Vector α n} (h : ∀ k, v.get k = w.get k) : v = w := by
  apply Vector.ext
  intro k hk
  simpa [Vector.get_eq_getElem] using h ⟨k, hk⟩

theorem State.entries_eq_of_entry {s t : State} (h : ∀ k, t.entry k = s.entry k) : t.entries = s.entries := vector_eq_of_get h
theorem State.chairs_eq_of_chair {s t : State} (h : ∀ k, t.chair k = s.chair k) : t.chairs = s.chairs := vector_eq_of_get h
theorem State.zones_eq_of_zone {s t : State} (h : ∀ k, t.zone k = s.zone k) : t.zones = s.zones := vector_eq_of_get h
theorem State.bindings_eq_of_binding {s t : State} (h : ∀ k, t.binding k = s.binding k) : t.bindings = s.bindings := vector_eq_of_get h
theorem State.contexts_eq_of_context {s t : State} (h : ∀ k, t.context k = s.context k) : t.contexts = s.contexts := vector_eq_of_get h
theorem State.fleet_eq_of_fleetSlot {s t : State} (h : ∀ k, t.fleetSlot k = s.fleetSlot k) : t.fleet = s.fleet := vector_eq_of_get h
theorem State.ignored_eq_of_ignoredCalls {s t : State} (h : ∀ k, t.ignoredCalls k = s.ignoredCalls k) : t.ignored = s.ignored := vector_eq_of_get h

end Sys2Proof.Machine
end

