-- ==== Sys2Proof/Laws/Elsewhere.lean ====
section
/-! SUPPORT. What the shared operations of the authority table, the handover engine, the dispatcher and the ports leave alone: none
touches the zone plan, the policy, the admission unit, the fleet port or the waiting commands. -/

namespace Sys2Proof.Machine

theorem SameElsewhere.refl (s : State) : SameElsewhere s s := ⟨rfl, rfl, rfl, rfl, rfl, rfl, rfl, rfl, rfl, rfl⟩

theorem SameElsewhere.trans {s t u : State} (h : SameElsewhere s t) (k : SameElsewhere t u) : SameElsewhere s u := by
  obtain ⟨h1, h2, h3, h4, h5, h6, h7, h8, h9, h10⟩ := h
  obtain ⟨k1, k2, k3, k4, k5, k6, k7, k8, k9, k10⟩ := k
  exact ⟨k1.trans h1, k2.trans h2, k3.trans h3, k4.trans h4, k5.trans h5, k6.trans h6, k7.trans h7, k8.trans h8, k9.trans h9,
    k10.trans h10⟩

/-! ### Records, ports and chairs -/

theorem setEntry_elsewhere (i : Slot) (e : Entry) (s : State) : SameElsewhere s (s.setEntry i e) := .refl s
theorem modEntry_elsewhere (i : Slot) (f : Entry → Entry) (s : State) : SameElsewhere s (s.modEntry i f) := .refl s
theorem setChair_elsewhere (c : ChairId) (x : Chair) (s : State) : SameElsewhere s (s.setChair c x) := .refl s
theorem modChair_elsewhere (c : ChairId) (f : Chair → Chair) (s : State) : SameElsewhere s (s.modChair c f) := .refl s
theorem modCall_elsewhere (i : Slot) (f : Call → Call) (s : State) : SameElsewhere s (s.modCall i f) := .refl s
theorem removeCall_elsewhere (i : Slot) (s : State) : SameElsewhere s (s.removeCall i) := .refl s
theorem due_elsewhere (s : State) : SameElsewhere s s.due := .refl s

theorem modPort_elsewhere (p : Port) (f : PortRegs → PortRegs) (s : State) : SameElsewhere s (s.modPort p f) := by
  cases p <;> exact .refl s

theorem raise_elsewhere (p : Port) (f : Sticky) (s : State) : SameElsewhere s (s.raise p f) := modPort_elsewhere p _ s

theorem send_elsewhere (p : Port) (f : PortFrame) (s : State) : SameElsewhere s (s.send p f) := by
  unfold State.send
  split
  · exact modPort_elsewhere p _ s
  · exact .refl s

theorem notify_elsewhere (p : Port) (n : Notice) (s : State) : SameElsewhere s (s.notify p n) := send_elsewhere p _ s
theorem answer_elsewhere (p : Port) (a : Answer) (s : State) : SameElsewhere s (s.answer p a) := send_elsewhere p _ s

theorem answerOutstanding_elsewhere (c : ChairId) (code : Code) (s : State) :
    SameElsewhere s (s.answerOutstanding c code) := by
  unfold State.answerOutstanding
  split
  · exact .refl s
  · exact (modPort_elsewhere _ _ s).trans (answer_elsewhere _ _ _)

theorem settleChair_elsewhere (c : ChairId) (s : State) : SameElsewhere s (s.settleChair c) := by
  unfold State.settleChair
  split <;> exact .refl s

/-! ### Handovers -/

theorem releaseCall_elsewhere (i : Slot) (h : Handover) (cause : Code) (s : State) :
    SameElsewhere s (releaseCall i h cause s) := .refl s

theorem notifyTarget_elsewhere (i : Slot) (h : Handover) (cause : Code) (s : State) :
    SameElsewhere s (notifyTarget i h cause s) := by
  unfold notifyTarget
  split
  · exact .refl s
  · split
    · exact .refl s
    · split <;> exact notify_elsewhere _ _ s

theorem abandon_elsewhere (i : Slot) (cause : Code) (s : State) : SameElsewhere s (abandon i cause s) := by
  unfold abandon
  split
  · exact .refl s
  · rename_i h _
    have release : ∀ u, SameElsewhere u (if h.callAttached && cause.releasesCall then releaseCall i h cause u else u) :=
      fun u => by split <;> exact .refl u
    have target : ∀ u, SameElsewhere u (match h.target with
        | .chair t => u.settleChair t
        | .auto => u) := fun u => by
      split
      · exact settleChair_elsewhere _ u
      · exact .refl u
    have answered : ∀ u, SameElsewhere u (match h.requester with
        | some r => u.answerOutstanding r cause
        | none => u) := fun u => by
      split
      · exact answerOutstanding_elsewhere _ _ u
      · exact .refl u
    exact (modEntry_elsewhere i _ s).trans
      ((release _).trans ((target _).trans ((answered _).trans (notifyTarget_elsewhere i h cause _))))

theorem releaseHolder_elsewhere (i : Slot) (e : Entry) (lost : Option Code) (s : State) :
    SameElsewhere s (releaseHolder i e lost s) := by
  unfold releaseHolder
  split
  · rename_i c _ _
    refine (settleChair_elsewhere c s).trans ?_
    dsimp only
    split
    · exact notify_elsewhere _ _ _
    · exact .refl _
  · exact .refl s

theorem leave_elsewhere (i : Slot) (cause : Code) (lost : Option Code) (f : Entry → Entry) (s : State) :
    SameElsewhere s (leave i cause lost f s) := by
  have h := ((abandon_elsewhere i cause s).trans (modEntry_elsewhere i f _)).trans (releaseHolder_elsewhere i (s.entry i) lost _)
  unfold leave
  dsimp only
  split
  · exact h.trans (removeCall_elsewhere i _)
  · exact h

theorem lock_elsewhere (i : Slot) (s : State) : SameElsewhere s (lock i s) := leave_elsewhere ..
theorem unlock_elsewhere (i : Slot) (s : State) : SameElsewhere s (unlock i s) := .refl s
theorem dropHolder_elsewhere (i : Slot) (lost : Code) (s : State) : SameElsewhere s (dropHolder i lost s) := leave_elsewhere ..

theorem transfer_elsewhere (i : Slot) (h : Handover) (s : State) : SameElsewhere s (transfer i h s) := by
  unfold transfer
  dsimp only
  have moved : SameElsewhere s ((s.modEntry i (entryAfter h s.policy)).removeCall i) := .refl s
  have target : ∀ u, SameElsewhere u (match h.target with
      | .chair t => u.setChairState t .driving
      | .auto => u) := fun u => by cases h.target <;> exact .refl u
  have source : ∀ u, SameElsewhere u (match h.source with
      | some (.chair c) => u.settleChair c
      | _ => u) := fun u => by
    split
    · exact settleChair_elsewhere _ u
    · exact .refl u
  have answered : ∀ u, SameElsewhere u (match h.requester with
      | some r => u.answerOutstanding r .done
      | none => u) := fun u => by
    split
    · exact answerOutstanding_elsewhere _ _ u
    · exact .refl u
  have told : ∀ u, SameElsewhere u (match h.target with
      | .chair t => if h.requester = some t then u else u.notify (.chair t) (.holding i h.kind h.source)
      | .auto => u) := fun u => by
    split
    · split
      · exact .refl u
      · exact notify_elsewhere _ _ u
    · exact .refl u
  exact moved.trans ((target _).trans ((source _).trans ((answered _).trans (told _))))

theorem evaluateGate_elsewhere (i : Slot) (s : State) : SameElsewhere s (evaluateGate i s) := by
  unfold evaluateGate
  split
  · exact .refl s
  · split
    · exact .refl s
    · split
      · exact transfer_elsewhere ..
      · exact .refl s

theorem enterGating_elsewhere (i : Slot) (s : State) : SameElsewhere s (enterGating i s) := by
  unfold enterGating
  split
  · exact .refl s
  · split
    · exact transfer_elsewhere ..
    · split
      · exact .refl s
      · exact abandon_elsewhere ..

theorem evaluateTargeting_elsewhere (c : ChairId) (s : State) : SameElsewhere s (evaluateTargeting c s) := by
  unfold evaluateTargeting
  split
  · exact .refl s
  · exact evaluateGate_elsewhere ..

theorem startHandover_elsewhere (i : Slot) (h : Handover) (s : State) : SameElsewhere s (startHandover i h s) := by
  unfold startHandover
  dsimp only
  split <;> split <;> exact .refl s

/-! ### The dispatcher -/

theorem testSaturation_elsewhere (c : Call) (s : State) : SameElsewhere s (testSaturation c s) := by
  unfold testSaturation
  split
  · exact (modCall_elsewhere _ _ s).trans (notify_elsewhere _ _ _)
  · exact .refl s

theorem offerCall_elsewhere (c : Call) (k : ChairId) (s : State) : SameElsewhere s (offerCall c k s) :=
  (startHandover_elsewhere _ _ s).trans (notify_elsewhere _ _ _)

theorem visitCall_elsewhere (s : State) (i : Slot) : SameElsewhere s (visitCall s i) := by
  unfold visitCall
  split
  · exact .refl s
  · split
    · exact .refl s
    · rename_i c _ _
      refine (testSaturation_elsewhere c s).trans ?_
      dsimp only
      split
      · exact .refl _
      · split
        · exact .refl _
        · exact offerCall_elsewhere ..

theorem foldl_visitCall_elsewhere (l : List Slot) (s : State) : SameElsewhere s (l.foldl visitCall s) := by
  induction l generalizing s with
  | nil => exact .refl s
  | cons i l ih => exact (visitCall_elsewhere s i).trans (ih _)

theorem runDispatcher_elsewhere (s : State) : SameElsewhere s (runDispatcher s) := foldl_visitCall_elsewhere _ s

theorem finish_elsewhere (s : State) : SameElsewhere s (finish s) := by
  unfold finish
  split
  · exact runDispatcher_elsewhere { s with dispatchDue := false }
  · exact .refl s

/-- An event leaves elsewhere what its own effects leave. -/
theorem event_elsewhere {f : State → State} {s : State}
    (h : SameElsewhere { s with dispatchDue := false } (f { s with dispatchDue := false })) : SameElsewhere s (event f s) :=
  .trans (t := { s with dispatchDue := false }) (.refl s) (h.trans (finish_elsewhere _))

/-! ### Ports and presence -/

theorem goodFrame_elsewhere (p : Port) (s : State) : SameElsewhere s (goodFrame p s) := by
  refine .trans ?_ (modPort_elsewhere p _ _)
  unfold comeOnline
  split
  · exact .refl s
  · cases p <;> exact .refl s

theorem setHeldRamp_elsewhere (c : ChairId) (ramp : State → Option Ramp) (s : State) :
    SameElsewhere s (setHeldRamp c ramp s) := by
  unfold setHeldRamp
  split <;> exact .refl s

theorem becomePresent_elsewhere (c : ChairId) (s : State) : SameElsewhere s (becomePresent c s) := by
  have present : ∀ u : State, SameElsewhere u (if (u.chair c).state = .ready then u.due else u) :=
    fun u => by split <;> exact .refl u
  exact (modChair_elsewhere c _ s).trans
    ((setHeldRamp_elsewhere c _ _).trans ((evaluateTargeting_elsewhere c _).trans (present _)))

theorem press_elsewhere (c : ChairId) (s : State) : SameElsewhere s (press c s) := by
  unfold press
  split
  any_goals exact .refl s
  all_goals
    split
    · exact becomePresent_elsewhere c s
    · exact .refl s

theorem letGo_elsewhere (c : ChairId) (s : State) : SameElsewhere s (letGo c s) := by
  unfold letGo
  split
  any_goals exact .refl s
  exact ((modChair_elsewhere c _ s).trans (setHeldRamp_elsewhere c _ _)).trans (evaluateTargeting_elsewhere c _)

theorem chairOffline_elsewhere (c : ChairId) (s : State) : SameElsewhere s (chairOffline c s) := by
  unfold chairOffline
  dsimp only
  have held : ∀ u : State, SameElsewhere u (match u.heldSlot c with
      | some i => dropHolder i .link u
      | none => u) := fun u => by
    split
    · exact dropHolder_elsewhere ..
    · exact .refl u
  have target : ∀ u : State, SameElsewhere u (match u.targetSlot c with
      | some i => abandon i .targetOffline u
      | none => u) := fun u => by
    split
    · exact abandon_elsewhere ..
    · exact .refl u
  exact (modPort_elsewhere (.chair c) _ s).trans ((held _).trans ((target _).trans (.refl _)))

theorem goOffline_elsewhere (p : Port) (s : State) : SameElsewhere s (goOffline p s) := by
  cases p with
  | chair c => exact chairOffline_elsewhere c s
  | service => exact .refl s

theorem takeBadFrame_elsewhere (p : Port) (why : BadFrame) (s : State) : SameElsewhere s (takeBadFrame p why s) := by
  refine (raise_elsewhere p (badFrameFlag why) s).trans ?_
  unfold takeBadFrame
  dsimp only
  split
  · split
    · exact modPort_elsewhere p _ _
    · exact goOffline_elsewhere p _
  · exact .refl _

theorem reply_elsewhere (b : Sender) (kind : RequestKind) (code : Code) (content : Content) (s : State) :
    SameElsewhere s (reply b kind code content s) := answer_elsewhere ..

theorem fieldError_elsewhere (b : Sender) (kind : RequestKind) (content : Content) (s : State) :
    SameElsewhere s (fieldError b kind content s) := (raise_elsewhere _ _ s).trans (reply_elsewhere ..)

/-- A request leaves elsewhere what its owning block leaves. -/
theorem takeRequest_elsewhere (b : Sender) (kind : RequestKind) (content : Content) {owner : State → State}
    (h : ∀ u, SameElsewhere u (owner u)) (s : State) : SameElsewhere s (takeRequest b kind content owner s) := by
  refine (goodFrame_elsewhere b.port s).trans ?_
  unfold takeRequest
  dsimp only
  split
  · exact reply_elsewhere ..
  · split
    · exact h _
    · exact fieldError_elsewhere ..

end Sys2Proof.Machine
end

