-- ==== Sys2Proof/Laws/Queues.lean ====
section
/-! SUPPORT. What the placements into the part's lists do: the transmit queues (R152, R189), the call queue (R58) and the holder
stack (R10, R11). -/

namespace Sys2Proof.Machine

/-! ### Transmit queues of the consoles -/

@[simp] theorem waitingAnswers_nil : waitingAnswers [] = 0 := rfl

theorem waitingAnswers_append (q r : List PortFrame) : waitingAnswers (q ++ r) = waitingAnswers q + waitingAnswers r := by
  simp [waitingAnswers, List.countP_append]

/-- A STATUS frame placed changes no count of answers and notices. -/
@[simp] theorem waitingAnswers_placeStatus (f : StatusFrame) (q : List PortFrame) :
    waitingAnswers (placeStatus f q) = waitingAnswers q := by
  induction q with
  | nil => rfl
  | cons g q ih => cases g <;> simp_all [placeStatus, waitingAnswers, PortFrame.isStatus]

/-- After a STATUS frame has been placed, as many wait as waited, and at least one. -/
theorem countP_placeStatus (f : StatusFrame) (q : List PortFrame) :
    (placeStatus f q).countP (·.isStatus) = max 1 (q.countP (·.isStatus)) := by
  induction q with
  | nil => rfl
  | cons g q ih => cases g <;> simp_all [placeStatus, PortFrame.isStatus]

/-- A placed frame other than a STATUS frame joins the tail, or is dropped with TX_OVERFLOW. -/
theorem enqueue_answerOrNotice (f : PortFrame) (p : PortRegs) (h : f.isStatus = false) :
    p.enqueue f = if waitingAnswers p.queue < 15 then { p with queue := p.queue ++ [f] } else p.raise .txOverflow := by
  cases f with
  | answer a => rfl
  | notice n => rfl
  | status st => simp [PortFrame.isStatus] at h

/-- A placement keeps the room for at most 15 answers and notices. -/
theorem waitingAnswers_enqueue_le (f : PortFrame) (p : PortRegs) (h : waitingAnswers p.queue ≤ 15) :
    waitingAnswers (p.enqueue f).queue ≤ 15 := by
  cases hf : f.isStatus with
  | true => cases f <;> simp_all [PortRegs.enqueue, PortFrame.isStatus]
  | false =>
    rw [enqueue_answerOrNotice f p hf]
    split
    · simp [waitingAnswers_append]
      have : waitingAnswers [f] ≤ 1 := List.countP_le_length
      omega
    · simpa [PortRegs.raise] using h

/-- What a placement leaves of a port but its queue, its flags and its error count. -/
theorem enqueue_frame (f : PortFrame) (p : PortRegs) :
    (p.enqueue f).silence = p.silence ∧ (p.enqueue f).badRun = p.badRun ∧ (p.enqueue f).outstanding = p.outstanding ∧
      (p.enqueue f).sending = p.sending := by
  cases f with
  | status st => exact ⟨rfl, rfl, rfl, rfl⟩
  | answer a => simp only [PortRegs.enqueue]; split_ifs <;> exact ⟨rfl, rfl, rfl, rfl⟩
  | notice n => simp only [PortRegs.enqueue]; split_ifs <;> exact ⟨rfl, rfl, rfl, rfl⟩

/-- An answer or a notice placed leaves what waits where it stands. -/
theorem queue_isPrefix_enqueue (f : PortFrame) (p : PortRegs) (h : f.isStatus = false) : p.queue <+: (p.enqueue f).queue := by
  rw [enqueue_answerOrNotice f p h]
  split
  · exact List.prefix_append _ _
  · exact List.prefix_rfl

/-! ### The fleet transmit queue -/

theorem placeCommand_filter_of_ne (f : FleetFrame) (i : Slot) (h : f.slot ≠ i) (q : List FleetFrame) :
    (placeCommand f q).filter (·.isCommandOf i) = q.filter (·.isCommandOf i) := by
  have hf : f.isCommandOf i = false := by cases f <;> simp_all [FleetFrame.isCommandOf, FleetFrame.slot]
  induction q with
  | nil => simp [placeCommand, hf]
  | cons g q ih =>
    simp only [placeCommand]
    split
    · rename_i hg
      have hgi : g.isCommandOf i = false := by
        cases g <;> simp_all [FleetFrame.isCommandOf]
      split <;> simp [hf, hgi]
    · simp [List.filter_cons, ih]

/-- A placed COMMAND frame leaves at most one of its slot, if at most one waited. -/
theorem countP_placeCommand (f : FleetFrame) (q : List FleetFrame) (h : q.countP (·.isCommandOf f.slot) ≤ 1) :
    (placeCommand f q).countP (·.isCommandOf f.slot) ≤ 1 := by
  induction q with
  | nil => simpa [placeCommand] using List.countP_le_length (l := [f])
  | cons g q ih =>
    rw [List.countP_cons] at h
    simp only [placeCommand]
    split
    · split
      · rw [List.countP_cons]; exact h
      · rename_i hg _
        simp only [hg, if_true] at h
        rw [List.countP_cons]
        split <;> omega
    · rename_i hg
      simp only [hg] at h
      rw [List.countP_cons]
      simp [hg]
      exact ih (by simpa using h)

/-- The frame placed last for a slot with no RESTART waiting is the one that waits. -/
theorem mem_placeCommand (f : FleetFrame) (q : List FleetFrame)
    (h : ∀ g ∈ q, g.isCommandOf f.slot = true → g.isRestart = false) : f ∈ placeCommand f q := by
  induction q with
  | nil => simp [placeCommand]
  | cons g q ih =>
    simp only [placeCommand]
    split
    · rename_i hg
      simp [h g (by simp) hg]
    · simp [ih fun k hk => h k (by simp [hk])]

/-- A RESTART frame placed is in the queue. -/
theorem mem_placeRestart (f : FleetFrame) (q : List FleetFrame) : f ∈ placeRestart f q := by
  induction q with
  | nil => simp [placeRestart]
  | cons g q ih => simp only [placeRestart]; split <;> simp [ih]

/-- A discovery read placed is in the queue. -/
theorem mem_placeRead (f : FleetFrame) (q : List FleetFrame) : f ∈ placeRead f q := by
  induction q with
  | nil => simp [placeRead]
  | cons g q ih => simp only [placeRead]; split <;> simp [ih]

/-- A COMMAND frame passes over the frames ahead that are no COMMAND frame of its slot. -/
theorem placeCommand_append (f : FleetFrame) (ahead rest : List FleetFrame) (h : ∀ k ∈ ahead, k.isCommandOf f.slot = false) :
    placeCommand f (ahead ++ rest) = ahead ++ placeCommand f rest := by
  induction ahead with
  | nil => rfl
  | cons g ahead ih => simp [placeCommand, h g (by simp), ih fun k hk => h k (by simp [hk])]

/-- A RESTART frame passes over the frames ahead that are no COMMAND frame of its slot. -/
theorem placeRestart_append (f : FleetFrame) (ahead rest : List FleetFrame) (h : ∀ k ∈ ahead, k.isCommandOf f.slot = false) :
    placeRestart f (ahead ++ rest) = ahead ++ placeRestart f rest := by
  induction ahead with
  | nil => rfl
  | cons g ahead ih => simp [placeRestart, h g (by simp), ih fun k hk => h k (by simp [hk])]

/-- A discovery read passes over the frames ahead that are no read of its slot. -/
theorem placeRead_append (f : FleetFrame) (ahead rest : List FleetFrame) (h : ∀ k ∈ ahead, k.isReadOf f.slot = false) :
    placeRead f (ahead ++ rest) = ahead ++ placeRead f rest := by
  induction ahead with
  | nil => rfl
  | cons g ahead ih => simp [placeRead, h g (by simp), ih fun k hk => h k (by simp [hk])]

/-! ### The call queue -/

/-- A call placed is in the queue with every call that was there, and no other. -/
theorem insertCall_perm (c : Call) (q : List Call) : (insertCall c q).Perm (c :: q) := by
  induction q with
  | nil => exact List.Perm.refl _
  | cons d q ih =>
    simp only [insertCall]
    split
    · exact List.Perm.refl _
    · exact (ih.cons d).trans (List.Perm.swap c d q)

/-- A call placed keeps the queue sorted by class. -/
theorem insertCall_sorted (c : Call) (q : List Call)
    (h : q.Pairwise fun a b => callClass a.reason ≤ callClass b.reason) :
    (insertCall c q).Pairwise fun a b => callClass a.reason ≤ callClass b.reason := by
  induction q with
  | nil => simp [insertCall]
  | cons d q ih =>
    obtain ⟨hd, hq⟩ := List.pairwise_cons.1 h
    simp only [insertCall]
    split
    · rename_i hc
      refine List.pairwise_cons.2 ⟨fun e he => ?_, h⟩
      rcases List.mem_cons.1 he with rfl | he
      · omega
      · exact le_trans (le_of_lt hc) (hd e he)
    · rename_i hc
      refine List.pairwise_cons.2 ⟨fun e he => ?_, ih hq⟩
      rcases List.mem_cons.1 ((insertCall_perm c q).mem_iff.1 he) with rfl | he
      · omega
      · exact hd e he

/-! ### The holder stack -/

theorem stackFits_take (n : Nat) (st : List Party) (h : stackFits st = true) : stackFits (st.take n) = true := by
  induction st generalizing n with
  | nil => simp [stackFits]
  | cons a st ih =>
    match n, st with
    | 0, _ => rfl
    | n + 1, [] => simp [stackFits]
    | 1, _ :: _ => rfl
    | n + 2, b :: st =>
      simp only [stackFits, Bool.and_eq_true] at h
      have := ih (n + 1) h.2
      simp_all [stackFits]

/-- A push keeps a stack of the form R10 allows. -/
theorem pushStack_fits (p : Party) (st : List Party) (h : st.length ≤ 4 ∧ stackFits st = true) :
    (pushStack p st).length ≤ 4 ∧ stackFits (pushStack p st) = true := by
  unfold pushStack
  split
  · exact h
  · rename_i hp
    refine ⟨by simp, stackFits_take 4 _ ?_⟩
    cases st with
    | nil => rfl
    | cons a st =>
      have hne : p ≠ a := by rintro rfl; exact hp rfl
      simp_all [stackFits]

/-- A pop keeps a stack of the form R10 allows. -/
theorem tail_fits (st : List Party) (h : st.length ≤ 4 ∧ stackFits st = true) :
    st.tail.length ≤ 4 ∧ stackFits st.tail = true := by
  match st, h with
  | [], h => exact h
  | [_], _ => simp [stackFits]
  | _ :: b :: st, h =>
    simp only [stackFits, Bool.and_eq_true, List.length_cons] at h
    exact ⟨by simp; omega, h.2.2⟩

end Sys2Proof.Machine
end

