-- ==== Sys2Proof/Laws/Records.lean ====
section
/-! SUPPORT. What the operations on chairs and ports write of the entries and chairs, and what handovers do to the entries. -/

namespace Sys2Proof.Machine

/-! ### Entries, calls and the pointer under the operations on ports and chairs -/

/-- The authority table, the call queue and the pointer are as they were. -/
abbrev SameTable (s t : State) : Prop := t.entries = s.entries ∧ t.calls = s.calls ∧ t.pointer = s.pointer

theorem SameTable.refl (s : State) : SameTable s s := ⟨rfl, rfl, rfl⟩

theorem SameTable.trans {s t u : State} (h : SameTable s t) (k : SameTable t u) : SameTable s u :=
  ⟨k.1.trans h.1, k.2.1.trans h.2.1, k.2.2.trans h.2.2⟩

theorem SameTable.entry {s t : State} (h : SameTable s t) (i : Slot) : t.entry i = s.entry i := by
  simp [State.entry, h.1]

theorem modPort_table (p : Port) (f : PortRegs → PortRegs) (s : State) : SameTable s (s.modPort p f) := by
  cases p <;> exact .refl s

theorem send_table (p : Port) (f : PortFrame) (s : State) : SameTable s (s.send p f) := by
  unfold State.send
  split
  · exact modPort_table p _ s
  · exact .refl s

theorem answerOutstanding_table (c : ChairId) (code : Code) (s : State) : SameTable s (s.answerOutstanding c code) := by
  unfold State.answerOutstanding
  split
  · exact .refl s
  · exact (modPort_table _ _ s).trans (send_table _ _ _)

theorem settleChair_table (c : ChairId) (s : State) : SameTable s (s.settleChair c) := by
  unfold State.settleChair
  split <;> exact .refl s

theorem notifyTarget_table (i : Slot) (h : Handover) (cause : Code) (s : State) : SameTable s (notifyTarget i h cause s) := by
  unfold notifyTarget
  split
  · exact .refl s
  · split
    · exact .refl s
    · split <;> exact send_table _ _ s

theorem releaseHolder_table (i : Slot) (e : Entry) (lost : Option Code) (s : State) :
    SameTable s (releaseHolder i e lost s) := by
  unfold releaseHolder
  split
  · rename_i c _ _
    refine (settleChair_table c s).trans ?_
    dsimp only
    split
    · exact send_table _ _ _
    · exact .refl _
  · exact .refl s

theorem goodFrame_table (p : Port) (s : State) : SameTable s (goodFrame p s) := by
  refine .trans ?_ (modPort_table p _ _)
  unfold comeOnline
  split
  · exact .refl s
  · cases p <;> exact .refl s

/-! ### One chair under the operations on ports and chairs -/

theorem chair_modPort_chair (s : State) (c d : ChairId) (f : PortRegs → PortRegs) :
    (s.modPort (.chair c) f).chair d =
      if c = d then { s.chair d with port := f (s.chair d).port } else s.chair d := by
  show (s.setChair c _).chair d = _
  rw [State.chair_setChair]
  split
  · rename_i h; subst h; rfl
  · rfl

/-- A frame sent to a chair changes that chair's port alone, and only while the chair is online. -/
theorem chair_send_chair (s : State) (c d : ChairId) (f : PortFrame) :
    (s.send (.chair c) f).chair d =
      if c = d ∧ (s.chair c).state ≠ .offline then (s.chair d).queued f else s.chair d := by
  by_cases h : (s.chair c).state = .offline
  · simp [State.send, State.online, h]
  · by_cases hc : c = d
    · subst hc
      simp [State.send, State.online, h, chair_modPort_chair, Chair.queued]
    · simp [State.send, State.online, h, chair_modPort_chair, hc]

/-- A frame sent to the service port changes no chair. -/
theorem chair_send_service (s : State) (d : ChairId) (f : PortFrame) : (s.send .service f).chair d = s.chair d := by
  unfold State.send
  split <;> rfl

theorem chair_settleChair (s : State) (c d : ChairId) :
    (s.settleChair c).chair d = if c = d then (s.chair d).settled else s.chair d := by
  have key : (s.settleChair c).chair d = (s.setChair c (s.chair c).settled).chair d := by
    unfold State.settleChair Chair.settled
    split <;> rfl
  rw [key, State.chair_setChair]
  split
  · rename_i h; subst h; rfl
  · rfl

/-- A frame sent to a chair leaves the service port as it was. -/
theorem service_send_chair (s : State) (c : ChairId) (f : PortFrame) : (s.send (.chair c) f).service = s.service := by
  unfold State.send
  split <;> rfl

/-! ### Entries under handovers -/

/-- An abandonment takes the record away and leaves every entry otherwise as it was. -/
theorem abandon_entry (i j : Slot) (cause : Code) (s : State) :
    (abandon i cause s).entry j = if i = j then { s.entry j with handover := none } else s.entry j := by
  unfold abandon
  split
  · rename_i h
    by_cases hj : i = j
    · subst hj
      simp only [if_true]
      rw [← h]
    · simp [hj]
  · rename_i h _
    have release : ∀ u : State, (if h.callAttached && cause.releasesCall then releaseCall i h cause u else u).entries = u.entries :=
      fun u => by split <;> rfl
    have target : ∀ u : State, (match h.target with
        | .chair t => u.settleChair t
        | .auto => u).entries = u.entries := fun u => by
      split
      · exact (settleChair_table _ u).1
      · rfl
    have answered : ∀ u : State, (match h.requester with
        | some r => u.answerOutstanding r cause
        | none => u).entries = u.entries := fun u => by
      split
      · exact (answerOutstanding_table _ _ u).1
      · rfl
    have written := State.entry_setEntry s i { s.entry i with handover := none } j
    have all := (notifyTarget_table i h cause _).1.trans ((answered _).trans ((target _).trans (release
      (s.modEntry i fun e => { e with handover := none }))))
    refine (congrArg (fun v => Vector.get v j) all).trans (written.trans ?_)
    split
    · rename_i hj; subst hj; rfl
    · rfl

/-- A transfer writes its own entry as `entryAfter` gives, and no other. -/
theorem transfer_entry (i j : Slot) (h : Handover) (s : State) :
    (transfer i h s).entry j = if i = j then entryAfter h s.policy (s.entry j) else s.entry j := by
  unfold transfer
  dsimp only
  have target : ∀ u : State, (match h.target with
      | .chair t => u.setChairState t .driving
      | .auto => u).entries = u.entries := fun u => by cases h.target <;> rfl
  have source : ∀ u : State, (match h.source with
      | some (.chair c) => u.settleChair c
      | _ => u).entries = u.entries := fun u => by
    split
    · exact (settleChair_table _ u).1
    · rfl
  have answered : ∀ u : State, (match h.requester with
      | some r => u.answerOutstanding r .done
      | none => u).entries = u.entries := fun u => by
    split
    · exact (answerOutstanding_table _ _ u).1
    · rfl
  have told : ∀ u : State, (match h.target with
      | .chair t => if h.requester = some t then u else u.notify (.chair t) (.holding i h.kind h.source)
      | .auto => u).entries = u.entries := fun u => by
    split
    · split
      · rfl
      · exact (send_table _ _ u).1
    · rfl
  have all := (told _).trans ((answered _).trans ((source _).trans (target
    ((s.modEntry i (entryAfter h s.policy)).removeCall i))))
  refine (congrArg (fun v => Vector.get v j) all).trans
    ((State.entry_setEntry s i (entryAfter h s.policy (s.entry i)) j).trans ?_)
  split
  · rename_i hj; subst hj; rfl
  · rfl

/-- An event that leaves authority writes its own entry, without its record, and no other. -/
theorem leave_entry (i j : Slot) (cause : Code) (lost : Option Code) (f : Entry → Entry) (s : State) :
    (leave i cause lost f s).entry j = if i = j then f { s.entry j with handover := none } else s.entry j := by
  have released := (releaseHolder_table i (s.entry i) lost ((abandon i cause s).modEntry i f)).entry j
  have written := State.entry_setEntry (abandon i cause s) i (f ((abandon i cause s).entry i)) j
  have removed : ∀ u : State, (if (s.entry i).state = .auto then u.removeCall i else u).entry j = u.entry j := fun u => by
    split <;> rfl
  refine (removed _).trans (released.trans (written.trans ?_))
  simp only [abandon_entry]
  split
  · rename_i hj; subst hj; simp
  · rfl

end Sys2Proof.Machine
end

