-- ==== Sys2Proof/Tests/Slice0.lean ====
section
/-! SUPPORT. Tests of the model: ill-formed commands that `WellFormed` refuses, the worked examples of the manual one step at a time, and
for each statement states and operands that meet its hypotheses. -/

namespace Sys2Proof.Tests

open Sys2Proof.Machine

/-! ### Small states -/

/-- The OUT channels of the scaling example and the IN channels of the discovery example (chapters 5 and 7). -/
def analog (f : Byte) : Descriptor := ⟨f, 0#8, 10#8, 1#8, 0#16, 512#16, 1023#16⟩
def discrete (f size : Byte) : Descriptor := ⟨f, 0#8, size, 2#8, 0#16, 0#16, 0#16⟩
def incoming (f size kind : Byte) : Descriptor := ⟨f, 1#8, size, kind, 0#16, 0#16, 0#16⟩
def channels : List Descriptor :=
  [analog 0#8, analog 1#8, analog 2#8, analog 3#8, discrete 4#8 2#8, discrete 5#8 1#8, discrete 6#8 1#8, discrete 7#8 1#8] ++
  [incoming 8#8 3#8 1#8, incoming 9#8 8#8 2#8, incoming 10#8 9#8 1#8, incoming 11#8 3#8 1#8, incoming 12#8 8#8 2#8,
    incoming 13#8 12#8 0#8]

/-- The gains and lengths the examples work out. -/
def lengths : Admitted := ⟨⟨16359, 16384⟩, ⟨16359, 16384⟩, ⟨16359, 16384⟩, ⟨16359, 16384⟩, 6, 6⟩

def known : Context :=
  { Context.cleared with
    name := some ⟨75#8, 52#8, 48#8, 55#8⟩, period := some 50, watchdog := some 150, descriptors := channels, admitted := some lengths }

/-- Payloads of the IN channels above, bit by bit: FLAGS from bit 3, ZONE from bit 20, FAULTS from bit 23. -/
def atRest (zoneBits : Byte) : List Byte := [0x08#8, 0x00#8, zoneBits, 0x00#8, 0x00#8, 0x00#8]
def moving (zoneBits : Byte) : List Byte := [0x00#8, 0x00#8, zoneBits, 0x00#8, 0x00#8, 0x00#8]

/-- A report from zone `z`, MUCKING, with the flags given. -/
def report (z : ZoneId) (flags : Byte := 1#8) : LoaderStatus :=
  { phase := 3, flags := flags, speed := 0, zone := z, faults := 0#16, aux := [] }

def entryIn (st : EntryState) (holder : Option Party := none) (z : ZoneId := 1) : Entry :=
  { Entry.blank st with holder := holder, status := some (report z) }

/-- A chair in a state, PRESENT, with its link up; its latch is set but in IDLE. -/
def seated (st : ChairState) : Chair :=
  { Chair.reset with
    state := st, latch := st != .idle, presence := .present, staleness := some 200
    port := { PortRegs.reset with silence := some 1000 } }

/-- The plan of the operating sequences (section 11): Z1 and Z2 OPEN, L2 bound to unit 7002, C1 and C3 seated, the service port online. -/
def mine (l2 : Entry) (c1 c3 : Chair) : State :=
  let s := (State.reset.setZone 1 ⟨.opened, 1600, 100, 0b001011#6⟩).setZone 2 ⟨.opened, 1200, 0, 0b001010#6⟩
  let s := ((s.setBinding 2 ⟨some 7002#32, true⟩).setContext 2 known).setFleetSlot 2 ⟨some 50, true, 0, none⟩
  let s := ((s.setEntry 2 l2).setChair 1 c1).setChair 3 c3
  { s with service := { online := true, port := { PortRegs.reset with silence := some 1000 } } }

def freeL2 : State := mine (entryIn .free) (seated .ready) (seated .ready)
def heldL2 : State := mine (entryIn .held (some (.chair 1))) (seated .driving) (seated .ready)
def autoL2 : State := mine (entryIn .auto (some .auto)) (seated .ready) (seated .ready)
def lockedL2 : State := mine (entryIn .locked none 0) (seated .ready) (seated .ready)
def lostL2 : State := (mine (entryIn .linkLost) (seated .ready) (seated .ready)).setFleetSlot 2 ⟨some 50, false, 5, some 60⟩
def trippedL2 : State := mine (entryIn .tripped) (seated .ready) (seated .ready)

/-- L2 in discovery, at a stage, with a read outstanding and the channels received so far. -/
def findingL2 (stage : Stage) (read : Option Read) (ds : List Descriptor) (a : Option Admitted := none) : State :=
  (mine (Entry.blank .discovering) (seated .ready) (seated .ready)).setContext 2
    { known with stage := some stage, read := read, answerTimer := read.map fun _ => 250, descriptors := ds, admitted := a }

def recordOf (kind : HandoverKind) (source : Option Party) (target : Party) (phase : HandoverPhase) (requester : Option ChairId)
    (call : Bool := false) (policy : Gate := Gate.stationary) : Handover :=
  { kind := kind, source := source, target := target, phase := phase, gate := ⟨policy, none⟩, deadline := 8, requester := requester,
    callAttached := call }

def callL2 (reserved : Bool) (declined : ChairSet := 0#6) : Call :=
  { slot := 2, reason := .hangup, reserved := reserved, declined := declined, unserved := 0 }

/-- A CLAIM of L2 offered to C1, and the same accepted and waiting. -/
def offeredL2 (phase : HandoverPhase := .offering) (flags : Byte := 1#8) : State :=
  { mine { entryIn .auto (some .auto) with
      status := some (report 1 flags), handover := some (recordOf .claim (some .auto) (.chair 1) phase none true) }
      (seated (if phase = .offering then .offered else .engaging)) (seated .ready) with
    calls := [callL2 true] }

/-- C1's PASS of L2 offered to C3. -/
def passingL2 : State :=
  mine { entryIn .held (some (.chair 1)) with
      handover := some (recordOf .pass (some (.chair 1)) (.chair 3) .offering (some 1) false Gate.always), stack := [.auto] }
    { seated .driving with port := { PortRegs.reset with silence := some 1000, outstanding := some ⟨.pass, 3, 2⟩ } } (seated .offered)

/-- The state a command leads to; the state itself where it leads to none. -/
def after (cmd : Instr) (s : State) : State :=
  match exec cmd s with
  | .next t => t
  | _ => s

def from1 : Sender := ⟨.chair 1, 3⟩
def from3 : Sender := ⟨.chair 3, 3⟩
def fromService : Sender := ⟨.service, 3⟩

def axisOf (travel : Int) (enable : Bool := true) (gear : BitVec 2 := 1#2) : AxisFrame :=
  { steer := 0, travel := travel, boom := 0, bucket := 0, enable := enable, brakeReq := false, horn := false, lights := false, gear := gear }

/-! ### Ill-formed commands -/

theorem test_wellFormed_refuses_an_axis_beyond_the_counts :
    ¬ (Instr.axis 0 (axisOf 2048)).WellFormed ∧ ¬ (Instr.axis 0 (axisOf (-2049))).WellFormed ∧
      (Instr.axis 0 (axisOf 2047)).WellFormed ∧ (Instr.axis 0 (axisOf (-2048))).WellFormed := by decide

def phaseless : GateIn := ⟨some 0xFF#8, 0#8, 0#8, .matching, true⟩

theorem test_wellFormed_refuses_a_phase_of_the_absent_code :
    ¬ (Instr.take from1 2#8 (some phaseless)).WellFormed ∧ ¬ (Instr.pass from1 2#8 3#8 (some phaseless)).WellFormed ∧
      ¬ (Instr.returnLoader from1 2#8 (some phaseless)).WellFormed ∧ ¬ (Instr.resume from1 2#8 (some phaseless)).WellFormed ∧
      ¬ (Instr.policySet fromService 11#8 (.gate phaseless)).WellFormed ∧
      (Instr.take from1 2#8 (some { phaseless with phase := some 9#8 })).WellFormed := by decide

theorem test_wellFormed_refuses_a_payload_no_frame_carries :
    ¬ (Instr.telemetry 7002#32 (List.replicate 252 0#8)).WellFormed ∧ (Instr.telemetry 7002#32 (List.replicate 251 0#8)).WellFormed := by decide +kernel

/-! ### Frames (chapter 10) -/

/-- The IDLE frame of the example of section 10.1, and its CRC after each byte. -/
theorem test_idle_frame_bytes :
    frameBytes 0x00#8 [] = [0xA5#8, 0x00#8, 0x00#8, 0x1D#8, 0x0F#8] ∧ crc [0#8] = 0xE1F0#16 := by decide +kernel

theorem test_idle_frame_is_received :
    receive (.chair 4) [0xA5#8, 0x00#8, 0x00#8, 0x1D#8, 0x0F#8] = .idle (.chair 4) ∧
      receive .service [0xA5#8, 0x00#8, 0x00#8, 0x1D#8, 0x0E#8] = .badFrame .service .crc ∧
      receive .service [0xA5#8, 0x00#8, 0x00#8, 0x1D#8] = .badFrame .service .framing ∧
      receiveFleet [0xA5#8, 0x00#8, 0x00#8, 0x1D#8, 0x0F#8] = .badFleetFrame .format := by decide +kernel

/-- Requests by their codes: TAKE 0x01 with and without a gate record, POLICY_SET 0x21, CANCEL 0x0A with a spare byte (R185, R186). -/
theorem test_request_frames_are_received :
    receive (.chair 1) (frameBytes 0x02#8 [0x01#8, 0x03#8, 0x02#8]) = .take from1 2#8 none ∧
      receive (.chair 1) (frameBytes 0x02#8 [0x01#8, 0x03#8, 0x02#8, 0xFF#8, 0x04#8, 0x04#8, 0x02#8]) =
        .take from1 2#8 (some ⟨none, 4#8, 4#8, .matching, true⟩) ∧
      receive .service (frameBytes 0x02#8 [0x21#8, 0x03#8, 0x07#8, 0x13#8, 0x88#8]) = .policySet fromService 7#8 (.number 5000#16) ∧
      receive (.chair 1) (frameBytes 0x02#8 [0x0A#8, 0x03#8, 0x00#8]) = .badFrame (.chair 1) .content := by decide +kernel

theorem test_fleet_frames_are_received :
    receiveFleet (frameBytes 0x10#8 [0x00#8, 0x00#8, 0x1B#8, 0x5A#8]) = .hello 7002#32 ∧
      receiveFleet (frameBytes 0x12#8 [0x00#8, 0x00#8, 0x1B#8, 0x5A#8, 0x03#8]) = .callClear 7002#32 ∧
      receiveFleet (frameBytes 0x12#8 [0x00#8, 0x00#8, 0x1B#8, 0x5A#8, 0x09#8]) = .badFleetFrame (.callReason 7002#32) := by decide +kernel

/-- Characters two character times apart belong to two runs (R180). -/
theorem test_runs_end_at_an_idle_period : receivedRuns [(9, 1#8), (0, 2#8), (2, 3#8), (1, 4#8)] = [[1#8, 2#8], [3#8, 4#8]] := by decide

/-! ### Arithmetic (chapters 5, 6 and 11) -/

/-- The PASS ramp of section 11.4: STEER from 210 and TRAVEL from 600, both to 0, K = 8. -/
theorem test_pass_ramp_rounds_toward_its_start :
    [1, 2, 3, 4, 5, 6, 7, 8].map (fun k => (rampAxis 210 0 k 8, rampAxis 600 0 k 8)) =
      [(184, 525), (158, 450), (131, 375), (105, 300), (79, 225), (53, 150), (26, 75), (0, 0)] := by decide

/-- The rundown of chapter 5: TRAVEL 905 and STEER −300 to 0, K = 6. -/
theorem test_rundown_ramp :
    [1, 2, 3, 4, 5, 6].map (fun k => (rampAxis 905 0 k 6, rampAxis (-300) 0 k 6)) =
      [(754, -250), (603, -200), (453, -150), (302, -100), (151, -50), (0, 0)] := by decide

/-- The ramp of chapter 5 from 1300 to 401 with K = 4, and the raw values the gains give. -/
theorem test_scaling_of_the_pass_on_L3 :
    gainsOf 0 512 1023 = ⟨16359, 16384⟩ ∧ [1, 2, 3, 4].map (fun k => rampAxis 1300 401 k 4) = [1075, 851, 626, 401] ∧
      [1300, 1075, 851, 626, 401, 2047, -2048, -700].map (scale ⟨16359, 16384⟩ 512) = [837, 780, 724, 668, 612, 1023, 0, 337] := by
  decide

theorem test_cap_and_backoff :
    [1400, 1401, -1401, 1500].map (capTravel ⟨.opened, 1400, 100, 0#6⟩) = [1400, 1300, -1300, 1300] := by decide

/-- The clamping examples of R117. -/
theorem test_zone_values_are_clamped :
    [(1400#16, 100#16), (3000#16, 100#16), (900#16, 1200#16), (5000#16, 4000#16), (0#16, 50#16)].map
      (fun p => ((zoneStored .opened p.1 p.2 0#6).cap, (zoneStored .opened p.1 p.2 0#6).backoff)) =
      [(1400, 100), (2047, 100), (900, 900), (2047, 2047), (0, 0)] := by decide

/-- The discovery example of chapter 7: the list is valid at 40 ms and 120 ms, and not at 20 ms and 30 ms. -/
theorem test_validation_of_the_example :
    validate channels 40 120 = none ∧ admissionOf channels = lengths ∧ validate channels 20 30 = some .descriptorInvalid ∧
      validate (channels.drop 1) 40 120 = some .descriptorIncomplete := by decide

/-! ### Requests, one step each -/

/-- TAKE of a FREE loader at rest transfers at once and pushes nothing (section 11.2). -/
theorem test_take_from_free :
    ((after (.take from1 2#8 none) freeL2).entry 2).heldBy 1 = true ∧ ((after (.take from1 2#8 none) freeL2).entry 2).stack = [] := by
  decide

theorem test_take_refused_in_a_closed_zone :
    ((after (.take from1 2#8 none) lockedL2).chair 1).port.queue = [.answer ⟨.take, 3, .zoneClosed, .slot 2#8⟩] := by decide

theorem test_pass_offers : ((after (.pass from1 2#8 3#8 none) heldL2).chair 3).port.queue =
    [.notice (.offer 2 7002#32 1 3 .pass (.chair 1))] := by decide

theorem test_pass_to_oneself_is_refused : ((after (.pass from1 2#8 1#8 none) heldL2).chair 1).port.queue =
    [.answer ⟨.pass, 3, .self, .slot 2#8⟩] := by decide

theorem test_return_needs_a_stack : ((after (.returnLoader from1 2#8 none) heldL2).chair 1).port.queue =
    [.answer ⟨.returnLoader, 3, .noPrevious, .slot 2#8⟩] := by decide

/-- RESUME at rest: AUTO with the chair pushed, and the chair READY with its DONE (section 11.2). -/
theorem test_resume : ((after (.resume from1 2#8 none) heldL2).entry 2).state = .auto ∧
    ((after (.resume from1 2#8 none) heldL2).entry 2).stack = [.chair 1] ∧
    ((after (.resume from1 2#8 none) heldL2).chair 1).state = .ready := by decide

/-- ACCEPT of the PASS of section 11.4: C3 holds, C1 is pushed, DONE stands before HOLDING. -/
theorem test_accept : ((after (.accept from3 2#8) passingL2).entry 2).stack = [.chair 1, .auto] ∧
    ((after (.accept from3 2#8) passingL2).chair 3).port.queue =
      [.answer ⟨.accept, 3, .done, .slot 2#8⟩, .notice (.holding 2 .pass (some (.chair 1)))] := by decide

/-- DECLINE puts C1 into the declined set and the dispatcher then offers the call to C3 (chapter 3). -/
theorem test_decline : (after (.decline from1 2#8) offeredL2).calls = [callL2 true 0b000010#6] ∧
    ((after (.decline from1 2#8) offeredL2).entry 2).targets 3 = true := by decide

theorem test_ready : ((after (.ready from1) (freeL2.setChair 1 (seated .idle))).chair 1).state = .ready := by decide

theorem test_unready : ((after (.unready from1) freeL2).chair 1).state = .idle := by decide

/-- PARK starts a rundown from the applied values and keeps the stack (R15). -/
theorem test_park :
    ((after (.park from1 2#8) (heldL2.modEntry 2 fun e => { e with applied := ⟨-300, 905, 0, 0⟩ })).entry 2).ramp =
      some ⟨.rundown, ⟨-300, 905, 0, 0⟩, 6, 1⟩ := by decide

theorem test_cancel_answers_both : ((after (.cancel ⟨.chair 1, 5⟩) passingL2).chair 1).port.queue =
    [.answer ⟨.pass, 3, .cancelled, .slot 2#8⟩, .answer ⟨.cancel, 5, .done, .nothing⟩] := by decide

theorem test_query_of_a_holder : ((after (.query from3 0#8 2#8 1#8 0#8) heldL2).chair 3).port.queue =
    [.answer ⟨.query, 3, .done, .holder (some (.chair 1))⟩] := by decide

/-- ACK clears, and its own answer to a full queue sets TX_OVERFLOW again (the overflow example of chapter 10). -/
theorem test_ack_into_a_full_queue :
    ((after (.ack from3 8#16 true) (freeL2.modChair 3 fun x =>
      { x with port := { x.port with flags := 8#16, errors := 1, queue := List.replicate 15 (.notice (.slotsFull 0#32)) } })).chair 3).port.errors
      = 1 := by decide

/-- Closing Z1 locks its loader and answers with the clamped record; L2 in Z2 would be untouched (chapter 6). -/
theorem test_zone_set_closes : ((after (.zoneSet fromService 1#8 .closed 3000#16 0#16 0#6) heldL2).entry 2).state = .locked ∧
    ((after (.zoneSet fromService 1#8 .closed 3000#16 0#16 0#6) heldL2).chair 1).port.queue = [.notice (.lost 2 .zoneClosed)] ∧
    (after (.zoneSet fromService 1#8 .closed 3000#16 0#16 0#6) heldL2).service.port.queue =
      [.answer ⟨.zoneSet, 3, .done, .zoneStored 1 ⟨.closed, 2047, 0, 0#6⟩⟩] := by decide

/-- The policy writes of chapter 9: presence_grace 5000 is stored as 3000, and a gate's value as value ∩ mask. -/
theorem test_policy_set : (after (.policySet fromService 7#8 (.number 5000#16)) freeL2).service.port.queue =
      [.answer ⟨.policySet, 3, .done, .policyStored (.number .presenceGrace) (.number 3000) 1⟩] ∧
    (after (.policySet fromService 11#8 (.gate ⟨none, 3#8, 5#8, .matching, true⟩)) freeL2).policy.gateTake =
      ⟨none, 3#8, 1#8, .matching, true⟩ := by decide

theorem test_force_free : ((after (.forceFree fromService 2#8) heldL2).entry 2).state = .free ∧
    ((after (.forceFree fromService 2#8) heldL2).chair 1).port.queue = [.notice (.lost 2 .forced)] := by decide

/-- RESTART stands before READ_ID (R145). -/
theorem test_loader_restart : (after (.loaderRestart fromService 2#8) trippedL2).fleetQueue =
    [.command 2 7002#32 .restart [], .read 2 7002#32 .readId] := by decide

theorem test_reset_all : (after (.resetAll fromService) heldL2).service.port.queue = [.answer ⟨.resetAll, 3, .done, .nothing⟩] ∧
    ((after (.resetAll fromService) heldL2).zone 1).state = .closed := by decide

theorem test_reset_keep : ((after (.resetKeep fromService) heldL2).entry 2).state = .discovering ∧
    ((after (.resetKeep fromService) heldL2).zone 1).state = .opened := by decide

theorem test_power_on : ((after .powerOn heldL2).entry 2).state = .empty ∧ ((after .powerOn heldL2).zone 2).cap = 1024 := by decide

/-! ### Events of the chairs, one step each -/

/-- The AXIS of section 11.3 that brings TRAVEL within the window passes the CLAIM's gate. -/
theorem test_axis_passes_the_gate :
    ((after (.axis 1 (axisOf 40))
      ((offeredL2 .gating).modChair 1 fun x => { x with sample := { x.sample with axes := ⟨0, 300, 0, 0⟩ } })).entry 2).heldBy 1 = true := by
  decide

/-- ENABLE clear halts the held loader and starts the grace timer (section 11.5). -/
theorem test_axis_releases : ((after (.axis 1 (axisOf 0 false)) heldL2).chair 1).grace = some 600 ∧
    (after (.axis 1 (axisOf 0 false)) heldL2).halted 2 = true := by decide

theorem test_idle_brings_a_chair_online : ((after (.idle (.chair 5)) freeL2).chair 5).state = .idle := by decide

theorem test_fourth_bad_frame_takes_the_link : ((after (.badFrame (.chair 1) .crc)
    (heldL2.modChair 1 fun x => { x with port := { x.port with badRun := 3 } })).entry 2).state = .free := by decide

/-- A settle expiry of the holder starts an ENGAGE ramp of 12 cycles (section 11.5). -/
theorem test_settle_expiry : ((after (.settleExpiry 1)
    (heldL2.modChair 1 fun x => { x with presence := .settling, settle := some 100, grace := some 600 })).entry 2).ramp =
      some ⟨.engage, Axes.neutral, 12, 1⟩ := by decide

theorem test_grace_expiry : ((after (.graceExpiry 1)
    (heldL2.modChair 1 fun x => { x with presence := .released, grace := some 600 })).chair 1).port.queue =
      [.notice (.lost 2 .absent)] := by decide

theorem test_staleness_expiry : hasSticky ((after (.stalenessExpiry 1) heldL2).chair 1).port.flags .stale = true := by decide

theorem test_silence_expiry : ((after (.silenceExpiry (.chair 1)) heldL2).chair 1).state = .offline := by decide

theorem test_offer_deadline_clears_the_latch : ((after (.offerDeadlineExpiry 2) offeredL2).chair 1).latch = false := by decide

theorem test_gate_deadline_keeps_the_latch :
    ((after (.gateDeadlineExpiry 2) (offeredL2 .gating 0#8)).chair 1).latch = true ∧
      (after (.gateDeadlineExpiry 2) (offeredL2 .gating 0#8)).calls = [callL2 true] := by decide

theorem test_port_frame_departs : ((after (.portFrameDepart (.chair 3)) (after (.cancel from3) freeL2)).chair 3).port.sending =
    frameBytes 0x81#8 [0x0A#8, 0x03#8, 0x04#8] := by decide +kernel

/-! ### Events of the loaders, one step each -/

/-- The first frame after the transfer of the engage example: TRAVEL 1500 through k = 1 of 12 is 125 (chapter 5). -/
theorem test_cycle_expiry_through_a_ramp :
    ((after (.cycleExpiry 2)
      ((heldL2.modEntry 2 fun e => { e with ramp := some ⟨.engage, Axes.neutral, 12, 1⟩ }).modChair 1 fun x =>
        { x with sample := { x.sample with axes := ⟨0, 1500, 0, 0⟩ } })).entry 2).applied = ⟨0, 125, 0, 0⟩ := by decide

/-- The DRIVE frame under the cap of chapter 5, packed: STEER 512, TRAVEL 837, BOOM 512, BUCKET 512, GEAR 1. -/
theorem test_cycle_expiry_packs_the_frame :
    (after (.cycleExpiry 2)
      ((heldL2.setZone 1 ⟨.opened, 1400, 100, 0b001011#6⟩).modChair 1 fun x =>
        { x with sample := { x.sample with axes := ⟨0, 1500, 0, 0⟩, gear := .f } })).fleetQueue =
      [.command 2 7002#32 .drive [0x00#8, 0x16#8, 0x0D#8, 0x20#8, 0x80#8, 0x01#8]] := by decide

theorem test_forget_expiry : ((after (.forgetExpiry 2) lostL2).entry 2).state = .empty := by decide

theorem test_answer_timer_expiry :
    ((after (.answerTimerExpiry 2) (findingL2 .readingId (some .readId) [])).context 2).refusal =
      some ⟨.noAnswer, .readingId, some .readId⟩ := by decide

/-- A HELLO of a held loader releases its holder with LOST of cause LOADER_RESTART (R131). -/
theorem test_hello : ((after (.hello 7002#32) heldL2).chair 1).port.queue = [.notice (.lost 2 .loaderRestart)] := by decide

theorem test_hello_of_a_new_unit : ((after (.hello 7003#32) heldL2).binding 0).unit = some 7003#32 := by decide

/-- An ID answer's period of 10 ms is stored as 20 ms (chapter 7). -/
theorem test_id_answer_clamps : ((after (.idAnswer 7002#32 ⟨75#8, 52#8, 48#8, 55#8⟩ 10#16 30#16)
    (findingL2 .readingId (some .readId) [])).context 2).period = some 20 := by decide

theorem test_entry_answer_reads_on : ((after (.entryAnswer 7002#32 0#8 (some (analog 0#8)))
    (findingL2 .readingEntries (some (.readEntry 0#8)) [])).context 2).read = some (.readEntry 1#8) := by decide

theorem test_entry_answer_end : ((after (.entryAnswer 7002#32 14#8 none)
    (findingL2 .readingEntries (some (.readEntry 14#8)) channels)).context 2).admitted = some lengths := by decide

/-- The pointer at C1 with C1 and C3 eligible: C1 is offered and the pointer names C2 (section 11.3). -/
theorem test_call_is_dispatched : ((after (.call 7002#32 .hangup) { autoL2 with pointer := 1 }).entry 2).targets 1 = true ∧
    (after (.call 7002#32 .hangup) { autoL2 with pointer := 1 }).pointer = 2 := by decide

theorem test_call_of_a_held_loader_is_counted : (after (.call 7002#32 .muck) heldL2).ignoredCalls 2 = 1 := by decide

theorem test_call_clear_takes_the_offer : ((after (.callClear 7002#32) offeredL2).chair 1).port.queue =
    [.notice (.offerWithdrawn 2 .callCleared)] := by decide

/-- WATCHDOG_TRIP at a return trips the entry and names the state it left (section 11.7). -/
theorem test_telemetry_trips : (after (.telemetry 7002#32 (moving 0xA0#8)) lostL2).service.port.queue =
    [.notice (.tripped 2 7002#32 true false .linkLost none)] := by decide

/-- The completing TELEMETRY of section 7: zone 2 OPEN, so the entry is FREE. -/
theorem test_telemetry_completes : ((after (.telemetry 7002#32 (atRest 0x20#8))
    (findingL2 .awaitingTelemetry none channels (some lengths))).entry 2).state = .free := by decide

theorem test_bad_fleet_frame : (after (.badFleetFrame .crc) freeL2).service.port.flags = 0x040#16 := by decide

theorem test_gateway_ready : (after (.gatewayReadyChange true) freeL2).gatewayReady = true := by decide

/-- A departing discovery read starts its answer timer at 250 ms (R136). -/
theorem test_fleet_frame_departs : ((after .fleetFrameDepart { after (.hello 7002#32) freeL2 with gatewayReady := true }).context 2).answerTimer
    = some 250 := by decide

/-! ### Witnesses: states and operands that meet the hypotheses of the statements, clause by clause -/

theorem witness_StepRunsFrontCommand :
    ({ heldL2 with pending := [.idle .service, .powerOn] } : State).pending = .idle .service :: [.powerOn] ∧
      State.reset.pending = [] := by decide

theorem witness_ResetsClearThePart : heldL2.Quiet ∧ heldL2.ServiceTakes := by decide

theorem witness_ResetKeepRediscovers : heldL2.Quiet ∧ heldL2.ServiceTakes ∧ (heldL2.entry 0).state = .empty ∧
    (heldL2.entry 2).state ≠ .empty := by decide

/-- A PARK of C1 while its PASS is outstanding; a ZONE_SET at a chair port and a TAKE at the service port. -/
theorem witness_RequestsAreScreened :
    passingL2.Quiet ∧ requestOf (.park from1 2#8) = some (from1, .park, .slot 2#8) ∧
      ((goodFrame from1.port passingL2).port from1.port).outstanding ≠ none ∧
      requestOf (.zoneSet from3 1#8 .closed 0#16 0#16 0#6) = some (from3, .zoneSet, .nothing) ∧
      ((goodFrame from3.port passingL2).port from3.port).outstanding = none ∧ acceptedKind .zoneSet from3.port = false ∧
      requestOf (.take fromService 2#8 none) = some (fromService, .take, .slot 2#8) ∧
      ((goodFrame fromService.port passingL2).port fromService.port).outstanding = none ∧
      acceptedKind .take fromService.port = false := by decide

/-- A CANCEL and a TAKE of C5, which is OFFLINE. -/
theorem witness_RequestsAreScreened_offline :
    (freeL2.chair 5).state = .offline ∧ Instr.cancel ⟨.chair 5, 3⟩ = .cancel ⟨.chair 5, 3⟩ ∧
      (requestOf (.take ⟨.chair 5, 3⟩ 2#8 none)).map (·.1) = some ⟨.chair 5, 3⟩ := by decide

/-- Every number at the first value out of its range. -/
theorem witness_NumbersOutOfRangeAreRefused :
    freeL2.Quiet ∧ ((goodFrame from1.port freeL2).port from1.port).outstanding = none ∧
      ((goodFrame fromService.port freeL2).port fromService.port).outstanding = none ∧
      requestOf (.accept from1 16#8) = some (from1, .accept, .slot 16#8) ∧ acceptedKind .accept from1.port = true ∧
      15 < (16#8).toNat ∧ acceptedKind .pass from1.port = true ∧ 5 < (6#8).toNat ∧ 7 < (8#8).toNat ∧
      acceptedKind .take from1.port = true ∧ 23 < (24#8).toNat ∧ 9 < (10#8).toNat ∧ 4 < (5#8).toNat ∧ 16 < (17#8).toNat ∧
      (2#8).toNat ≠ 3 ∧ (5#8).toNat ≠ 4 ∧ acceptedKind .zoneSet fromService.port = true := by decide

theorem witness_IdleFramesKeepTheLinkUp :
    freeL2.Quiet ∧ (freeL2.chair 5).state = .offline ∧ (freeL2.chair 1).state ≠ .offline ∧ (freeL2.chair 1).port.silence ≠ none ∧
      freeL2.heldSlot 1 = none ∧ freeL2.targetSlot 1 = none ∧ freeL2.service.port.silence ≠ none := by decide

theorem witness_BadFramesAreCounted :
    freeL2.Quiet ∧ freeL2.online (.chair 5) = false ∧ freeL2.online (.chair 1) = true ∧ (freeL2.port (.chair 1)).badRun < 3 ∧
      State.reset.online .service = false ∧ freeL2.online .service = true ∧ (freeL2.port .service).badRun < 3 ∧
      ¬ (axisOf 2048).WellFormed := by decide

/-- The holder C1 and the target C3 of a PASS, silent or with three bad frames in a row; and the service port. -/
def threeBad (s : State) (c : ChairId) : State := s.modChair c fun x => { x with port := { x.port with badRun := 3 } }

theorem witness_LinksGoOffline :
    heldL2.Quiet ∧ (heldL2.chair 1).port.silence ≠ none ∧ heldL2.heldSlot 1 = some 2 ∧
      (passingL2.chair 3).port.silence ≠ none ∧ passingL2.targetSlot 3 = some 2 ∧ passingL2.Quiet ∧
      (threeBad heldL2 1).Quiet ∧ ((threeBad heldL2 1).chair 1).state ≠ .offline ∧ ((threeBad heldL2 1).chair 1).port.badRun = 3 ∧
      heldL2.service.port.silence ≠ none ∧ heldL2.service.online = true ∧
      ({ heldL2 with service := { heldL2.service with port := { heldL2.service.port with badRun := 3 } } } : State).service.port.badRun = 3 := by
  decide

/-- C1, which holds L2 and passes it to C3, and C3, which the PASS targets; C1, to which a called loader is offered. -/
theorem witness_LinksGoOffline_records :
    (passingL2.CallerLaw ∧ passingL2.OneHolderLaw ∧ offeredL2.CallerLaw ∧ offeredL2.OneHolderLaw) ∧
      (passingL2.heldSlot 1 = some 2 ∧ passingL2.endFrames 2 .sourceLost 3 = [.notice (.offerWithdrawn 2 .sourceLost)] ∧
        passingL2.targetSlot 3 = some 2 ∧ passingL2.endFrames 2 .targetOffline 1 = [.answer ⟨.pass, 3, .targetOffline, .slot 2#8⟩] ∧
        waitingAnswers (passingL2.chair 1).port.queue + 1 ≤ 15 ∧ (passingL2.chair 1).state ≠ .offline ∧ (passingL2.chair 3).state ≠ .offline) ∧
      (offeredL2.Quiet ∧ (offeredL2.chair 1).port.silence ≠ none ∧ offeredL2.targetSlot 1 = some 2 ∧
        (offeredL2.entry 2).handover = some (recordOf .claim (some .auto) (.chair 1) .offering none true) ∧
        callL2 true ∈ offeredL2.calls) := by
  refine ⟨?_, ?_, ?_⟩ <;> decide +kernel

theorem witness_AxisFramesAreTaken :
    heldL2.Quiet ∧ (axisOf (-2048) false).WellFormed ∧ (axisOf 2047 true 3#2).WellFormed ∧ (axisOf 0 true 3#2).gear = 3#2 ∧
      heldL2.heldSlot 1 = some 2 ∧ heldL2.targetSlot 1 = none ∧ (heldL2.chair 1).presence = .present ∧ (axisOf 0 false).enable = false := by
  decide

/-- The accepted CLAIM of C1, whose gate passes at rest and waits for a moving loader. -/
theorem witness_AxisFramesAreTaken_gating :
    (offeredL2 .gating).Quiet ∧ (offeredL2 .gating).OneHolderLaw ∧ (axisOf 40).WellFormed ∧ (offeredL2 .gating).targetSlot 1 = some 2 ∧
      ((offeredL2 .gating).entry 2).handover = some (recordOf .claim (some .auto) (.chair 1) .gating none true) ∧
      gatePasses 2 (recordOf .claim (some .auto) (.chair 1) .gating none true) (offeredL2 .gating) = true ∧
      gatePasses 2 (recordOf .claim (some .auto) (.chair 1) .gating none true) (offeredL2 .gating 0#8) = false := by
  refine ⟨?_, ?_, ?_, ?_, ?_, ?_, ?_⟩ <;> decide +kernel

/-- C1 with its settle timer running, as a holder, IDLE and READY. -/
def settlingChair (st : ChairState) (s : State) : State :=
  s.setChair 1 { seated st with presence := .settling, settle := some 100, grace := some 600 }

/-- C1 in a presence, with its staleness timer running. -/
def inPresence (p : Presence) (s : State) : State := s.modChair 1 fun x => { x with presence := p }

theorem witness_PresenceTimersExpire :
    ((settlingChair .driving heldL2).Quiet ∧ ((settlingChair .driving heldL2).chair 1).settle ≠ none ∧
        (settlingChair .driving heldL2).targetSlot 1 = none ∧ (settlingChair .driving heldL2).heldSlot 1 = some 2 ∧
        ((settlingChair .driving heldL2).chair 1).state ≠ .ready) ∧
      ((settlingChair .idle freeL2).heldSlot 1 = none ∧ (settlingChair .idle freeL2).targetSlot 1 = none ∧
        ((settlingChair .idle freeL2).chair 1).state ≠ .ready ∧ ((settlingChair .ready freeL2).chair 1).state = .ready ∧
        (settlingChair .ready freeL2).targetSlot 1 = none) ∧
      (heldL2.chair 1).staleness ≠ none ∧ (heldL2.chair 1).presence = .present ∧ heldL2.heldSlot 1 = some 2 ∧
      (∀ p, (inPresence p freeL2).Quiet ∧ ((inPresence p freeL2).chair 1).staleness ≠ none ∧
        ((inPresence p freeL2).chair 1).presence = p ∧ (inPresence p freeL2).heldSlot 1 = none) := by
  refine ⟨by decide, by decide, by decide, by decide, by decide, fun p => ?_⟩
  cases p <;> decide

/-- The accepted CLAIM of C1, whose settle timer runs. -/
theorem witness_PresenceTimersExpire_gating :
    (settlingChair .engaging (offeredL2 .gating)).Quiet ∧ ((settlingChair .engaging (offeredL2 .gating)).chair 1).settle ≠ none ∧
      (settlingChair .engaging (offeredL2 .gating)).OneHolderLaw ∧ (settlingChair .engaging (offeredL2 .gating)).targetSlot 1 = some 2 ∧
      ((settlingChair .engaging (offeredL2 .gating)).entry 2).handover =
        some (recordOf .claim (some .auto) (.chair 1) .gating none true) := by
  refine ⟨?_, ?_, ?_, ?_, ?_⟩ <;> decide +kernel

/-- The holder C1, RELEASED, with press_settle 0: it becomes PRESENT at an AXIS frame. -/
theorem witness_AxisFramesAreTaken_at_once :
    ({ inPresence .released heldL2 with policy := { heldL2.policy with pressSettle := 0 } } : State).Quiet ∧
      (({ inPresence .released heldL2 with policy := { heldL2.policy with pressSettle := 0 } } : State).chair 1).presence = .released ∧
      ({ inPresence .released heldL2 with policy := { heldL2.policy with pressSettle := 0 } } : State).heldSlot 1 = some 2 ∧
      ({ inPresence .released heldL2 with policy := { heldL2.policy with pressSettle := 0 } } : State).targetSlot 1 = none ∧
      presenceAfter true 0 .released = .present := by decide

/-- C1 with its grace timer running. -/
def inGrace (s : State) : State := s.modChair 1 fun x => { x with presence := .released, grace := some 600 }

theorem witness_GraceExpiryTakesEverything :
    (inGrace heldL2).Quiet ∧ ((inGrace heldL2).chair 1).grace ≠ none ∧ (inGrace heldL2).heldSlot 1 = some 2 ∧
      (inGrace heldL2).targetSlot 1 = none ∧ ((inGrace heldL2).entry 2).handover = none ∧
      ((inGrace offeredL2).chair 1).grace ≠ none ∧ (inGrace offeredL2).heldSlot 1 = none ∧
      (inGrace offeredL2).targetSlot 1 = some 2 ∧ ((inGrace freeL2).chair 1).grace ≠ none ∧ (inGrace freeL2).heldSlot 1 = none ∧
      (inGrace freeL2).targetSlot 1 = none := by decide

/-- C1 holds L2 and its PASS to C3 is offered. -/
theorem witness_GraceExpiryTakesEverything_of_a_source :
    (inGrace passingL2).Quiet ∧ ((inGrace passingL2).chair 1).grace ≠ none ∧ (inGrace passingL2).heldSlot 1 = some 2 ∧
      (inGrace passingL2).targetSlot 1 = none ∧
      ((inGrace passingL2).entry 2).handover =
        some (recordOf .pass (some (.chair 1)) (.chair 3) .offering (some 1) false Gate.always) := by decide

theorem witness_ReadyAndUnready :
    freeL2.Quiet ∧ freeL2.Takes 1 ∧ (freeL2.chair 1).presence = .present ∧ (freeL2.chair 1).state ≠ .idle ∧
      (freeL2.setChair 1 (seated .idle)).Takes 1 ∧ ((freeL2.setChair 1 (seated .idle)).chair 1).state = .idle ∧
      ((freeL2.setChair 1 (seated .idle)).chair 1).presence = .present ∧ (inPresence .released freeL2).Takes 1 ∧
      ((inPresence .released freeL2).chair 1).presence ≠ .present := by decide

theorem witness_ParkFreesTheLoader :
    heldL2.Quiet ∧ heldL2.Takes 1 ∧ slotOf 2#8 = some 2 ∧ (heldL2.entry 2).state = .held ∧
      (heldL2.entry 2).holder = some (.chair 1) ∧ (heldL2.entry 2).handover = none ∧ heldL2.Takes 3 ∧
      (heldL2.entry 2).holder ≠ some (.chair 3) ∧ slotOf 15#8 = some 15 ∧ (heldL2.entry 15).state ≠ .held := by decide

theorem witness_GatePassCondition :
    (freeL2.entry 2).status = some (report 1) ∧ Gate.stationary.sense = .matching ∧
      (⟨none, 0#8, 0#8, .differ, true⟩ : Gate).sense = .differ ∧
      gateOf ⟨some 7#8, 3#8, 5#8, .differ, false⟩ = some ⟨some 7, 3#8, 1#8, .differ, false⟩ := by decide

theorem witness_AbandonmentEffects :
    (offeredL2.entry 2).handover = some (recordOf .claim (some .auto) (.chair 1) .offering none true) ∧
      (passingL2.entry 2).handover = some (recordOf .pass (some (.chair 1)) (.chair 3) .offering (some 1) false Gate.always) := by decide

/-- A FREE and an AUTO loader that move, so that the default gates of TAKE and RESUME wait. -/
def movingL2 (e : Entry) (c1 : ChairState) : State := mine { e with status := some (report 1 0#8) } (seated c1) (seated .ready)

/-- A request gate that needs LIFTED_CLEAR and does not wait. -/
def atOnce : Gate := ⟨none, 4#8, 4#8, .matching, false⟩
def atOnceIn : GateIn := ⟨none, 4#8, 4#8, .matching, false⟩

theorem witness_TakeRequest :
    (freeL2.Quiet ∧ freeL2.Takes 1 ∧ slotOf 2#8 = some 2 ∧ requestGate none = some none ∧ requestGate (some atOnceIn) = some (some atOnce)) ∧
      (takeRefusal freeL2 2 1 = none ∧ gatePasses 2 (takeRecord freeL2 2 1 none) freeL2 = true) ∧
      (takeRefusal autoL2 2 1 = none ∧ gatePasses 2 (takeRecord autoL2 2 1 none) autoL2 = true) ∧
      ((movingL2 (entryIn .free) .ready).Takes 1 ∧ takeRefusal (movingL2 (entryIn .free) .ready) 2 1 = none ∧
        gatePasses 2 (takeRecord (movingL2 (entryIn .free) .ready) 2 1 none) (movingL2 (entryIn .free) .ready) = false ∧
        (takeRecord (movingL2 (entryIn .free) .ready) 2 1 none).gate.waits = true) ∧
      (gatePasses 2 (takeRecord freeL2 2 1 (some atOnce)) freeL2 = false ∧ (takeRecord freeL2 2 1 (some atOnce)).gate.waits = false) := by
  decide

theorem witness_TakeRequest_refusals :
    takeRefusal offeredL2 2 3 = some .handoverPending ∧ offeredL2.Takes 3 ∧ takeRefusal lockedL2 2 1 = some .zoneClosed ∧
      takeRefusal heldL2 2 3 = some .notAvailable ∧ takeRefusal (freeL2.setChair 2 (seated .ready)) 2 2 = some .notPermitted ∧
      (freeL2.setChair 2 (seated .ready)).Takes 2 ∧ takeRefusal (freeL2.setChair 1 (seated .driving)) 2 1 = some .busyChair ∧
      (freeL2.setChair 1 (seated .driving)).Takes 1 ∧ takeRefusal (inPresence .settling freeL2) 2 1 = some .notPresent ∧
      (inPresence .settling freeL2).Takes 1 := by decide

theorem witness_PassRequest :
    heldL2.Quiet ∧ heldL2.Takes 1 ∧ slotOf 2#8 = some 2 ∧ chairOf 3#8 = some 3 ∧ requestGate none = some none ∧
      passRefusal heldL2 2 1 3 = none ∧ (heldL2.entry 2).status = some (report 1) ∧
      passRefusal { passingL2 with chairs := heldL2.chairs } 2 1 3 = some .handoverPending ∧ passRefusal heldL2 2 3 1 = some .notHolder ∧
      passRefusal heldL2 2 1 1 = some .self ∧ passRefusal heldL2 2 1 0 = some .targetBusy ∧
      passRefusal (heldL2.modChair 3 fun x => { x with presence := .released }) 2 1 3 = some .targetAbsent ∧
      passRefusal (heldL2.setChair 2 (seated .idle)) 2 1 2 = some .notPermitted := by decide

/-- L2 held by C1 with a stack. -/
def stacked (st : List Party) (flags : Byte := 1#8) : State :=
  mine { entryIn .held (some (.chair 1)) with stack := st, status := some (report 1 flags) } (seated .driving) (seated .ready)

theorem witness_ReturnRequest :
    ((stacked [.chair 3]).Quiet ∧ (stacked [.chair 3]).Takes 1 ∧ slotOf 2#8 = some 2 ∧ requestGate none = some none ∧
        requestGate (some atOnceIn) = some (some atOnce)) ∧
      (((stacked [.chair 3]).entry 2).stack.head? = some (.chair 3) ∧ returnRefusal (stacked [.chair 3]) 2 1 = none ∧
        ((stacked [.chair 3]).entry 2).status = some (report 1)) ∧
      (((stacked [.auto]).entry 2).stack.head? = some .auto ∧ returnRefusal (stacked [.auto]) 2 1 = none ∧
        gatePasses 2 (returnRecord (stacked [.auto]) 1 .auto none) (stacked [.auto]) = true) ∧
      (gatePasses 2 (returnRecord (stacked [.auto]) 1 .auto (some { atOnce with wait := true })) (stacked [.auto]) = false ∧
        (returnRecord (stacked [.auto]) 1 .auto (some { atOnce with wait := true })).gate.waits = true ∧
        requestGate (some { atOnceIn with wait := true }) = some (some { atOnce with wait := true })) ∧
      (gatePasses 2 (returnRecord (stacked [.auto]) 1 .auto (some atOnce)) (stacked [.auto]) = false ∧
        (returnRecord (stacked [.auto]) 1 .auto (some atOnce)).gate.waits = false) := by decide

theorem witness_ReturnRequest_refusals :
    returnRefusal { passingL2 with chairs := heldL2.chairs } 2 1 = some .handoverPending ∧
      returnRefusal heldL2 2 3 = some .notHolder ∧ returnRefusal heldL2 2 1 = some .noPrevious ∧
      returnRefusal (stacked [.chair 0]) 2 1 = some .targetUnavailable ∧ returnRefusal (stacked [.chair 1]) 2 1 = some .targetUnavailable := by
  decide

theorem witness_ResumeRequest :
    (heldL2.Quiet ∧ heldL2.Takes 1 ∧ slotOf 2#8 = some 2 ∧ requestGate none = some none ∧ (heldL2.entry 2).handover = none ∧
        (heldL2.entry 2).state = .held ∧ (heldL2.entry 2).holder = some (.chair 1) ∧
        gatePasses 2 (resumeRecord heldL2 1 none) heldL2 = true) ∧
      (gatePasses 2 (resumeRecord (stacked [] 0#8) 1 none) (stacked [] 0#8) = false ∧
        (resumeRecord (stacked [] 0#8) 1 none).gate.waits = true ∧ (stacked [] 0#8).Takes 1) ∧
      (gatePasses 2 (resumeRecord heldL2 1 (some atOnce)) heldL2 = false ∧ (resumeRecord heldL2 1 (some atOnce)).gate.waits = false) ∧
      ({ passingL2 with chairs := heldL2.chairs } : State).Takes 1 ∧
      (({ passingL2 with chairs := heldL2.chairs } : State).entry 2).handover ≠ none ∧ heldL2.Takes 3 ∧
      (heldL2.entry 2).holder ≠ some (.chair 3) := by decide

/-- The record of the offered CLAIM once accepted. -/
def acceptedClaim (policy : Gate := Gate.stationary) : Handover :=
  { recordOf .claim (some .auto) (.chair 1) .gating none true policy with deadline := 10 }

theorem witness_AcceptAndDecline :
    (offeredL2.Quiet ∧ offeredL2.Takes 1 ∧ slotOf 2#8 = some 2 ∧ ∃ h, (offeredL2.entry 2).handover = some h ∧ h.phase = .offering ∧
        h.target = .chair 1 ∧ ({ h with phase := .gating, deadline := offeredL2.policy.gateTimeout } : Handover) = acceptedClaim) ∧
      gatePasses 2 acceptedClaim offeredL2 = true ∧
      (gatePasses 2 acceptedClaim (offeredL2 .offering 0#8) = false ∧ acceptedClaim.gate.waits = true) ∧
      (gatePasses 2 (acceptedClaim atOnce) offeredL2 = false ∧ (acceptedClaim atOnce).gate.waits = false) ∧
      (heldL2.entry 2).handover = none ∧ passingL2.Takes 3 ∧ (∀ h ∈ ((offeredL2 .gating).entry 2).handover, ¬ h.phase = .offering) := by
  refine ⟨⟨by decide, by decide, by decide, _, rfl, rfl, rfl, rfl⟩, ?_⟩
  decide

theorem witness_CancelRequest :
    passingL2.Quiet ∧ (passingL2.chair 1).state ≠ .offline ∧ (passingL2.chair 1).port.outstanding = some ⟨.pass, 3, 2⟩ ∧
      (passingL2.entry 2).handover = some (recordOf .pass (some (.chair 1)) (.chair 3) .offering (some 1) false Gate.always) ∧
      (recordOf .pass (some (.chair 1)) (.chair 3) .offering (some 1) false Gate.always).requester = some 1 ∧
      (freeL2.chair 1).state ≠ .offline ∧ (freeL2.chair 1).port.outstanding = none := by decide

theorem witness_DeadlinesExpire :
    offeredL2.Quiet ∧ (offeredL2.entry 2).handover = some (recordOf .claim (some .auto) (.chair 1) .offering none true) ∧
      ((offeredL2 .gating).entry 2).handover = some (recordOf .claim (some .auto) (.chair 1) .gating none true) := by decide

/-- Queries at the last values of their ranges: slot 15, field 9 at index 23, chair 5, zone 7, policy field 16. -/
theorem witness_QueriesRead :
    (queryContent 0#8 15#8 9#8 23#8 (freeL2.setChair 1 { freeL2.chair 1 with port := (freeL2.chair 1).port.heard })).isSome = true ∧
      (queryContent 1#8 5#8 4#8 0#8 { freeL2 with service := { online := true, port := freeL2.service.port.heard } }).isSome = true ∧
      freeL2.Quiet ∧ freeL2.Takes 1 ∧ freeL2.ServiceTakes ∧ slotOf 15#8 = some 15 ∧ chairOf 5#8 = some 5 ∧ zoneOf 7#8 = some 7 ∧
      numFields[(10#8).toNat]? = some .forgetTime ∧ 11 ≤ (11#8).toNat ∧ handoverKinds[(11#8).toNat - 11]? = some .take ∧
      handoverKinds[(15#8).toNat - 11]? = some .resume := by decide

theorem witness_QueriesRead_of_discovery :
    (freeL2.context 2).name = some ⟨75#8, 52#8, 48#8, 55#8⟩ ∧ (freeL2.context 2).period = some 50 ∧
      (freeL2.context 2).watchdog = some 150 ∧ (freeL2.context 0).name = none ∧
      (freeL2.context 2).descriptors[(0#8).toNat]? = some (analog 0#8) ∧ (freeL2.context 2).descriptors[(13#8).toNat]? ≠ none ∧
      (23#8).toNat ≤ 23 ∧ (freeL2.context 2).descriptors[(23#8).toNat]? = none := by decide

theorem witness_QueriesRead_of_a_chair :
    (freeL2.chair 5).state = .offline ∧ (freeL2.setChair 1 (seated .idle)).chair 1 = seated .idle ∧ (freeL2.chair 3).state = .ready ∧
      (heldL2.chair 1).state = .driving ∧ heldL2.heldSlot 1 = some 2 ∧ (offeredL2.chair 1).state = .offered ∧
      offeredL2.targetSlot 1 = some 2 ∧ (offeredL2.entry 2).handover ≠ none ∧ ((offeredL2 .gating).chair 1).state = .engaging ∧
      (offeredL2 .gating).targetSlot 1 = some 2 ∧ ((offeredL2 .gating).entry 2).handover ≠ none := by decide

theorem witness_AckClears : freeL2.Quiet ∧ freeL2.Takes 1 ∧ freeL2.ServiceTakes := by decide

theorem witness_ZoneSetWritesThePlan :
    heldL2.Quiet ∧ heldL2.CallerLaw ∧ offeredL2.CallerLaw ∧ heldL2.ServiceTakes ∧ zoneOf 1#8 = some 1 ∧ zoneOf 7#8 = some 7 ∧
      (heldL2.entry 2).zone? = some 1 ∧ (heldL2.entry 2).state.carries = true ∧ (lockedL2.entry 2).zone? = some 0 ∧ zoneOf 0#8 = some 0 ∧
      (lockedL2.entry 2).state = .locked ∧ (trippedL2.entry 2).zone? = some 1 ∧ (trippedL2.entry 2).state.carries = false := by decide

/-- The PASS of C1 to C3 in Z1, whose queues have room; sets that exclude C3, and C1. -/
theorem witness_ZoneSetWritesThePlan_records :
    passingL2.Quiet ∧ passingL2.CallerLaw ∧ passingL2.OneHolderLaw ∧ passingL2.ServiceTakes ∧
      ((passingL2.entry 2).zone? = some 1 ∧ (passingL2.entry 2).state.carries = true ∧ (passingL2.entry 2).heldBy 1 = true ∧
        (passingL2.entry 2).zoneDrop = false) ∧
      ((passingL2.entry 2).handover = some (recordOf .pass (some (.chair 1)) (.chair 3) .offering (some 1) false Gate.always) ∧
        (recordOf .pass (some (.chair 1)) (.chair 3) .offering (some 1)).requester ≠ some 3 ∧
        (passingL2.chair 1).port.outstanding = some ⟨.pass, 3, 2⟩ ∧ (passingL2.chair 1).state ≠ .offline ∧
        waitingAnswers (passingL2.chair 1).port.queue ≤ 12 ∧ waitingAnswers (passingL2.chair 3).port.queue ≤ 12) ∧
      (hasChair 0b000010#6 3 = false ∧ hasChair 0b001000#6 1 = false ∧ hasChair 0b001010#6 3 = true) ∧
      offeredL2.OneHolderLaw := by
  refine ⟨?_, ?_, ?_, ?_, ?_, ?_, ?_, ?_⟩ <;> decide +kernel

theorem witness_PolicySetWritesTheTable :
    freeL2.Quiet ∧ freeL2.ServiceTakes ∧ numFields[(0#8).toNat]? = some .offerTimeout ∧ numFields[(10#8).toNat]? = some .forgetTime ∧
      gateOf atOnceIn = some atOnce ∧ handoverKinds[(11#8).toNat - 11]? = some .take ∧ handoverKinds[(15#8).toNat - 11]? = some .resume ∧
      11 ≤ (16#8).toNat ∧ (10#8).toNat < 11 ∧ 16 ≤ (16#8).toNat ∧ gateOf { atOnceIn with phase := some 8#8 } = none := by decide

theorem witness_ForceFreeFreesTheEntry :
    heldL2.Quiet ∧ heldL2.ServiceTakes ∧ slotOf 2#8 = some 2 ∧ (heldL2.entry 2).state.carries = true ∧
      (lockedL2.entry 2).state.carries = false := by decide

theorem witness_LoaderRestartRediscovers :
    trippedL2.Quiet ∧ trippedL2.HolderLaw ∧ trippedL2.RecordLaw ∧ trippedL2.ServiceTakes ∧ slotOf 2#8 = some 2 ∧
      (trippedL2.entry 2).state = .tripped ∧ (lostL2.entry 2).state = .linkLost ∧ lostL2.HolderLaw ∧ heldL2.HolderLaw ∧ heldL2.RecordLaw ∧
      (heldL2.entry 2).state = .held := by decide +kernel

/-- A part whose sixteen slots are bound and used, each entry in `st` but that of slot 9, in `st9`. -/
def allBound (st st9 : EntryState) : State :=
  { State.reset with
    bindings := .ofFn fun i => ⟨some (BitVec.ofNat 32 (7000 + i.val)), true⟩
    entries := (Vector.replicate 16 (Entry.blank st)).set 9 (Entry.blank st9) }

theorem witness_HelloStartsDiscovery :
    (heldL2.Quiet ∧ heldL2.AuthorityLaw ∧ heldL2.BindingLaw ∧ heldL2.OneHolderLaw ∧ (heldL2.binding 2).unit = some 7002#32) ∧
      ((∀ k, (heldL2.binding k).unit ≠ some 7003#32) ∧ (allSlots.find? fun k => !(heldL2.binding k).used) = some 0) ∧
      ((allBound .refused .empty).AuthorityLaw ∧ (allBound .refused .empty).BindingLaw ∧ (allBound .refused .empty).OneHolderLaw ∧
        (∀ k, ((allBound .refused .empty).binding k).unit ≠ some 8000#32) ∧
        (allSlots.find? fun k => !((allBound .refused .empty).binding k).used) = none ∧
        (allSlots.find? fun k => ((allBound .refused .empty).entry k).state == .empty) = some 9) ∧
      ((allBound .refused .refused).Quiet ∧ (∀ k, ((allBound .refused .refused).binding k).unit ≠ some 8000#32) ∧
        ∀ k, ((allBound .refused .refused).binding k).used = true ∧ ((allBound .refused .refused).entry k).state ≠ .empty) := by
  refine ⟨⟨?_, ?_, ?_, ?_⟩, ?_, ⟨?_, ?_, ?_, ?_⟩, ?_⟩ <;> decide +kernel

/-- A HELLO that ends the PASS of C1 to C3: its answer, then LOST, and the withdrawal of the offer. -/
theorem witness_HelloStartsDiscovery_farewell :
    (passingL2.Quiet ∧ passingL2.AuthorityLaw ∧ passingL2.BindingLaw ∧ passingL2.OneHolderLaw) ∧
      (passingL2.binding 2).unit = some 7002#32 ∧
      passingL2.farewell 2 .loaderRestart 1 = [.answer ⟨.pass, 3, .loaderRestart, .slot 2#8⟩, .notice (.lost 2 .loaderRestart)] ∧
      passingL2.farewell 2 .loaderRestart 3 = [.notice (.offerWithdrawn 2 .loaderRestart)] := by
  refine ⟨⟨?_, ?_, ?_, ?_⟩, ?_, ?_, ?_⟩ <;> decide +kernel

theorem witness_IdAnswersAndTimeouts :
    (findingL2 .readingId (some .readId) []).Quiet ∧ (findingL2 .readingId (some .readId) []).slotOfUnit 7002#32 = some 2 ∧
      ((findingL2 .readingId (some .readId) []).context 2).stage = some .readingId ∧ heldL2.slotOfUnit 7002#32 = some 2 ∧
      (heldL2.context 2).stage ≠ some .readingId ∧ ((findingL2 .readingId (some .readId) []).context 2).answerTimer ≠ none := by decide

/-- L2 awaiting the answer to READ_ENTRY `n` with the descriptors received so far. -/
def listing (n : Byte) (ds : List Descriptor) : State := findingL2 .readingEntries (some (.readEntry n)) ds

theorem witness_EntryAnswersBuildTheList :
    (listing 14#8 channels).Quiet ∧ (listing 14#8 channels).slotOfUnit 7002#32 = some 2 ∧
      ((listing 14#8 channels).context 2).stage = some .readingEntries ∧
      ((listing 14#8 channels).context 2).read = some (.readEntry 14#8) ∧ ¬ tooMany channels (discrete 6#8 1#8) ∧
      ¬ tooMany (List.replicate 11 (analog 0#8)) (analog 0#8) ∧ tooMany (List.replicate 12 (analog 0#8)) (analog 0#8) ∧
      tooMany (List.replicate 12 (incoming 13#8 1#8 0#8)) (incoming 13#8 1#8 0#8) ∧
      tooMany (List.replicate 24 (incoming 13#8 1#8 0#8)) (analog 0#8) ∧ ((listing 14#8 channels).context 2).period = some 50 ∧
      ((listing 14#8 channels).context 2).watchdog = some 150 ∧ validate channels 50 150 = none ∧
      validate (channels.drop 1) 50 150 = some .descriptorIncomplete ∧ (heldL2.context 2).stage ≠ some .readingEntries := by decide

theorem witness_ValidationAdmitsOnlyUsableLists : validate channels 75 150 = none := by decide

/-- The bounds a descriptor meets, and what a usable list meets (R140), as the statement says them. -/
abbrev bitsOf (ds : List Descriptor) (direction : Byte) : Nat := ((ds.filter fun d => d.direction = direction).map fun d => d.size.toNat).sum

abbrev countOf (ds : List Descriptor) (f : Nat) : Nat := ds.countP fun d => d.function.toNat = f

abbrev ValidDescriptor (d : Descriptor) : Prop :=
  d.function.toNat ≤ 13 ∧ d.direction.toNat = (if d.function.toNat < 8 then 0 else 1) ∧ d.kind.toNat ≤ 2 ∧
    [1, 1, 1, 1, 2, 1, 1, 1, 3, 8, 9, 3, 2, 1].getD d.function.toNat 0 ≤ d.size.toNat ∧ d.size.toNat ≤ 16 ∧
    (d.function.toNat < 4 → d.kind ≠ 2#8) ∧ (4 ≤ d.function.toNat → d.function.toNat < 8 → d.kind = 2#8) ∧
    (d.function.toNat ∈ [8, 9, 10, 12] → d.kind ≠ 0#8) ∧
    (d.function.toNat < 4 →
      d.rawMin.toInt ≤ d.rawNeutral.toInt ∧ d.rawNeutral.toInt ≤ d.rawMax.toInt ∧
      (d.kind = 0#8 → -(2 ^ (d.size.toNat - 1) : Int) ≤ d.rawMin.toInt ∧ d.rawMax.toInt < (2 ^ (d.size.toNat - 1) : Int)) ∧
      (d.kind = 1#8 → 0 ≤ d.rawMin.toInt ∧ d.rawMax.toInt < (2 ^ d.size.toNat : Int)))

abbrev UsableList (ds : List Descriptor) (period watchdog : Nat) : Prop :=
  (∀ d ∈ ds, ValidDescriptor d) ∧ (∀ f, f < 13 → countOf ds f ≤ 1) ∧ countOf ds 13 ≤ 2 ∧ 2 * period ≤ watchdog

abbrev CompleteList (ds : List Descriptor) : Prop := ∀ f ∈ [0, 1, 2, 3, 4, 5, 8, 9, 10, 11, 12], 1 ≤ countOf ds f

/-- A list for each of the four outcomes: 144 OUT bits; a watchdog below twice the period, and a second STEER; no STEER; the example. -/
theorem witness_ValidationAdmitsOnlyUsableLists_outcomes :
    128 < bitsOf (List.replicate 9 (discrete 7#8 16#8)) 0#8 ∧
      (¬ (128 < bitsOf channels 0#8 ∨ 128 < bitsOf channels 1#8) ∧ ¬ UsableList channels 75 149 ∧
        ¬ UsableList (channels ++ [analog 0#8]) 75 150 ∧ ¬ 128 < bitsOf (channels ++ [analog 0#8]) 0#8) ∧
      (UsableList (channels.drop 1) 75 150 ∧ ¬ CompleteList (channels.drop 1)) ∧
      (UsableList channels 75 150 ∧ CompleteList channels) := by
  refine ⟨?_, ⟨?_, ?_, ?_, ?_⟩, ⟨⟨?_, ?_, ?_, ?_⟩, ?_⟩, ⟨?_, ?_, ?_, ?_⟩, ?_⟩ <;> decide +kernel

theorem witness_CallFramesAreTaken :
    (autoL2.Quiet ∧ autoL2.slotOfUnit 7002#32 = some 2 ∧ (autoL2.entry 2).state = .auto ∧ autoL2.findCall 2 = none ∧
        (autoL2.entry 2).handover = none) ∧
      (({ offeredL2 with calls := [] } : State).findCall 2 = none ∧ (({ offeredL2 with calls := [] } : State).entry 2).handover ≠ none ∧
        (({ offeredL2 with calls := [] } : State).entry 2).state = .auto) ∧
      (offeredL2.findCall 2 = some (callL2 true) ∧ (offeredL2.entry 2).state = .auto ∧ callClass .faultAssist < callClass .hangup ∧
        callClass .hangup ≤ callClass .hangup ∧ (callL2 true).reserved = true) ∧
      (({ autoL2 with calls := [callL2 false 8#6] } : State).findCall 2 = some (callL2 false 8#6) ∧ (callL2 false 8#6).reserved = false) ∧
      (heldL2.entry 2).state ≠ .auto ∧ heldL2.slotOfUnit 7002#32 = some 2 := by decide

theorem witness_FleetFramesAreDropped :
    freeL2.Quiet ∧ freeL2.slotOfUnit 7003#32 = none ∧
      ¬ (((findingL2 .readingId (some .readId) []).entry 2).state.carries = true ∨
        ((findingL2 .readingId (some .readId) []).context 2).stage = some .awaitingTelemetry) ∧
      ((findingL2 .readingId (some .readId) []).entry 2).state = .discovering ∧ (freeL2.context 2).admitted = some lengths ∧
      (freeL2.entry 2).state.carries = true ∧ (atRest 0x10#8 ++ [0#8]).length ≠ lengths.inBytes := by decide

theorem witness_FleetFramesAreDropped_reason : freeL2.Quiet ∧ freeL2.slotOfUnit 7002#32 = some 2 := by decide

/-- The status a payload gives L2. -/
def statusGiven (payload : List Byte) : LoaderStatus := statusOf (unpack (channels.filter isIn) (numberOf payload))

/-- Zone 2 with the allowed chairs given, where L2 goes. -/
def allowing (a : ChairSet) (s : State) : State := s.setZone 2 ⟨.opened, 1200, 0, a⟩

/-- L2 in AWAITING_TELEMETRY. -/
def awaitingL2 : State := findingL2 .awaitingTelemetry none channels (some lengths)

theorem witness_payloads :
    (statusGiven (atRest 0x10#8)).zone = 1 ∧ (statusGiven (atRest 0x10#8)).stationary = true ∧ (statusGiven (atRest 0x10#8)).trips = false ∧
      (statusGiven (moving 0x20#8)).zone = 2 ∧ (statusGiven (moving 0x20#8)).stationary = false ∧
      (statusGiven (moving 0xA0#8)).trips = true ∧ (atRest 0x10#8).length = lengths.inBytes ∧ (moving 0x20#8).length = lengths.inBytes := by
  decide

theorem witness_TelemetryCompletesAndReturns :
    (awaitingL2.Quiet ∧ awaitingL2.slotOfUnit 7002#32 = some 2 ∧ (awaitingL2.context 2).admitted = some lengths ∧
        (awaitingL2.entry 2).state = .discovering ∧ (awaitingL2.context 2).stage = some .awaitingTelemetry) ∧
      ((lostL2.context 2).admitted = some lengths ∧ (lostL2.entry 2).state = .linkLost ∧ (trippedL2.entry 2).state = .tripped) ∧
      ((freeL2.entry 2).zone? = some (statusGiven (atRest 0x10#8)).zone ∧ (freeL2.entry 2).state.carries = true ∧
        (freeL2.entry 2).state ≠ .held ∧ (freeL2.entry 2).handover = none ∧ (heldL2.entry 2).zoneDrop = false ∧
        (heldL2.entry 2).zone? = some (statusGiven (atRest 0x10#8)).zone) ∧
      (((offeredL2 .gating).entry 2).handover = some (recordOf .claim (some .auto) (.chair 1) .gating none true) ∧
        ((offeredL2 .gating).entry 2).zone? = some (statusGiven (atRest 0x10#8)).zone) ∧
      ((freeL2.entry 2).zone? ≠ some (statusGiven (moving 0x20#8)).zone ∧ (freeL2.zone 2).state = .opened ∧
        (lockedL2.entry 2).zone? ≠ some (statusGiven (moving 0x20#8)).zone ∧ (lockedL2.entry 2).state = .locked ∧
        (freeL2.zone 3).state = .closed ∧ (statusGiven (moving 0x30#8)).zone = 3 ∧ (statusGiven (moving 0x30#8)).trips = false ∧
        (freeL2.entry 2).zone? ≠ some 3 ∧ (lockedL2.entry 2).zone? ≠ some 3) := by decide

/-- An AUTO loader and an offered CLAIM that come into a CLOSED zone, and into an OPEN one that allows or excludes the target. -/
theorem witness_TelemetryCompletesAndReturns_zone :
    (autoL2.Quiet ∧ autoL2.slotOfUnit 7002#32 = some 2 ∧ (autoL2.context 2).admitted = some lengths ∧ (autoL2.entry 2).state = .auto ∧
        (autoL2.entry 2).handover = none ∧ (autoL2.entry 2).zone? = some 1 ∧ (autoL2.zone 3).state = .closed ∧ (autoL2.zone 2).state = .opened) ∧
      (offeredL2.Quiet ∧ offeredL2.slotOfUnit 7002#32 = some 2 ∧ (offeredL2.context 2).admitted = some lengths ∧
        (offeredL2.entry 2).state = .auto ∧ (offeredL2.entry 2).zone? = some 1 ∧
        (offeredL2.entry 2).handover = some (recordOf .claim (some .auto) (.chair 1) .offering none true)) ∧
      (hasChair (offeredL2.zone 2).allowed 1 = true ∧ ((allowing 8#6 offeredL2).zone 2).state = .opened ∧
        hasChair ((allowing 8#6 offeredL2).zone 2).allowed 1 = false) ∧
      ((statusGiven (moving 0x20#8)).zone = 2 ∧ (statusGiven (moving 0x30#8)).zone = 3 ∧ (statusGiven (moving 0x20#8)).trips = false ∧
        (statusGiven (moving 0x30#8)).trips = false) := by decide

/-- One channel of each IN function between two AUX channels, with values at and beyond their bounds. -/
def reported (phase flags speed zone faults : Int) : List (Descriptor × Int) :=
  [(incoming 13#8 12#8 0#8, -5), (incoming 8#8 4#8 1#8, phase), (incoming 9#8 9#8 2#8, flags), (incoming 10#8 9#8 1#8, speed),
    (incoming 11#8 4#8 0#8, zone), (incoming 12#8 16#8 2#8, faults), (incoming 13#8 8#8 1#8, 7)]

/-- Each of the five stands alone of its function in such a list: from PHASE with one channel ahead to FAULTS with five. -/
theorem witness_TelemetryCompletesAndReturns_status :
    ∀ k, 1 ≤ k → k ≤ 5 → (reported 8 511 401 (-1) 65535)[k]?.map (fun p => p.1.function) = some (BitVec.ofNat 8 (k + 7)) ∧
      ∀ p ∈ (reported 8 511 401 (-1) 65535).take k ++ (reported 8 511 401 (-1) 65535).drop (k + 1),
        p.1.function ≠ BitVec.ofNat 8 (k + 7) := by
  intro k h₁ h₂
  interval_cases k <;> decide

/-- R155: the values of each function as stored, at the last that fits and at the first that does not. -/
theorem test_status_as_stored :
    statusOf (reported 8 511 401 (-1) 65535) = ⟨7, 0xFF#8, 400, 0, 0xFFFF#16, [-5, 7]⟩ ∧
      statusOf (reported 6 256 400 7 4) = ⟨6, 0x00#8, 400, 7, 4#16, [-5, 7]⟩ ∧ (statusOf (reported 0 0 0 8 0)).zone = 0 := by decide

theorem witness_TelemetryTrips :
    (heldL2.Quiet ∧ heldL2.AuthorityLaw ∧ heldL2.OneHolderLaw ∧ heldL2.slotOfUnit 7002#32 = some 2 ∧
        (heldL2.context 2).admitted = some lengths ∧ (heldL2.entry 2).state.carries = true) ∧
      (lockedL2.AuthorityLaw ∧ lockedL2.OneHolderLaw ∧ (lockedL2.entry 2).state = .locked) ∧
      (lostL2.AuthorityLaw ∧ lostL2.OneHolderLaw ∧ (lostL2.entry 2).state = .linkLost) ∧
      (awaitingL2.AuthorityLaw ∧ awaitingL2.OneHolderLaw ∧ (awaitingL2.entry 2).state = .discovering ∧
        (awaitingL2.context 2).stage = some .awaitingTelemetry) ∧
      (statusGiven (moving 0xA0#8)).trips = true ∧ (moving 0xA0#8).length = lengths.inBytes := by
  refine ⟨⟨?_, ?_, ?_, ?_⟩, ⟨?_, ?_, ?_⟩, ⟨?_, ?_, ?_⟩, ⟨?_, ?_, ?_⟩, ?_⟩ <;> decide +kernel

/-- The PASS of C1 to C3 at a trip, and at the fifth miss. -/
theorem witness_TelemetryTrips_farewell :
    passingL2.slotOfUnit 7002#32 = some 2 ∧ (passingL2.context 2).admitted = some lengths ∧ (passingL2.entry 2).state.carries = true ∧
      passingL2.farewell 2 .tripped 1 = [.answer ⟨.pass, 3, .tripped, .slot 2#8⟩, .notice (.lost 2 .tripped)] ∧
      passingL2.farewell 2 .tripped 3 = [.notice (.offerWithdrawn 2 .tripped)] ∧
      waitingAnswers (passingL2.chair 1).port.queue + 2 ≤ 15 := by decide

/-- L2 held by C1 with zone-drop pending, in Z1. -/
def droppingL2 : State := mine { entryIn .held (some (.chair 1)) with zoneDrop := true } (seated .driving) (seated .ready)

theorem witness_TelemetryMovesAHeldLoader :
    (heldL2.Quiet ∧ heldL2.slotOfUnit 7002#32 = some 2 ∧ (heldL2.context 2).admitted = some lengths ∧ (heldL2.entry 2).state = .held ∧
        (heldL2.entry 2).holder = some (.chair 1) ∧ (heldL2.entry 2).handover = none ∧ (heldL2.chair 1).state = .driving ∧
        ∀ p ∈ [atRest 0x10#8, atRest 0x20#8, moving 0x20#8, moving 0x30#8],
          p.length = lengths.inBytes ∧ (statusGiven p).trips = false ∧
            valueOf .zone (unpack (channels.filter isIn) (numberOf p)) = ((statusGiven p).zone.val : Int)) ∧
      ((heldL2.entry 2).zone? ≠ some 3 ∧ (heldL2.zone 3).state = .closed) ∧
      ((heldL2.entry 2).zone? ≠ some 2 ∧ (heldL2.zone 2).state = .opened ∧ hasChair (heldL2.zone 2).allowed 1 = true) ∧
      (((allowing 8#6 heldL2).zone 2).state = .opened ∧ hasChair ((allowing 8#6 heldL2).zone 2).allowed 1 = false ∧
        ((allowing 8#6 heldL2).entry 2).zoneDrop = false) ∧
      ((heldL2.entry 2).zone? = some 1 ∧ (statusGiven (atRest 0x10#8)).zone = 1 ∧ (droppingL2.entry 2).zone? = some 1 ∧
        (droppingL2.entry 2).zoneDrop = true ∧ (statusGiven (atRest 0x10#8)).stationary = true) ∧
      (hasChair ((allowing 8#6 droppingL2).zone 2).allowed 1 = false ∧ ((allowing 8#6 droppingL2).entry 2).zoneDrop = true ∧
        (statusGiven (atRest 0x20#8)).stationary = true ∧ (statusGiven (moving 0x20#8)).stationary = false) := by decide

/-- C1's PASS of L2 to C3, accepted and gating on LIFTED_CLEAR or on nothing; C1 drives with zone-drop pending as given. -/
def passingOn (policy : Gate) (drop : Bool) : State :=
  mine { entryIn .held (some (.chair 1)) with
      handover := some (recordOf .pass (some (.chair 1)) (.chair 3) .gating (some 1) false policy), zoneDrop := drop }
    { seated .driving with port := { PortRegs.reset with silence := some 1000, outstanding := some ⟨.pass, 3, 2⟩ } } (seated .engaging)

/-- In Z1 or into Z2 with the gate passing or not, and with a drop due; into Z2 that excludes C3; into Z3, which is CLOSED. -/
theorem witness_TelemetryMovesAHeldLoader_record :
    (∀ d ∈ [true, false], ∀ g ∈ [Gate.always, atOnce],
      (passingOn g d).Quiet ∧ (passingOn g d).slotOfUnit 7002#32 = some 2 ∧ ((passingOn g d).context 2).admitted = some lengths ∧
        ((passingOn g d).entry 2).state = .held ∧ ((passingOn g d).entry 2).holder = some (.chair 1) ∧
        ((passingOn g d).chair 1).state = .driving ∧ ((passingOn g d).entry 2).zone? = some 1 ∧ ((passingOn g d).zone 3).state = .closed ∧
        ((passingOn g d).entry 2).zoneDrop = d ∧ ((passingOn g d).entry 2).handover =
          some (recordOf .pass (some (.chair 1)) (.chair 3) .gating (some 1) false g)) ∧
      (recordOf .pass (some (.chair 1)) (.chair 3) .gating (some 1)).target ≠ .chair 1 ∧
      (gatePasses 2 (recordOf .pass (some (.chair 1)) (.chair 3) .gating (some 1) false Gate.always) (passingOn Gate.always false) = true ∧
        gatePasses 2 (recordOf .pass (some (.chair 1)) (.chair 3) .gating (some 1) false atOnce) (passingOn atOnce false) = false) ∧
      (((allowing 2#6 (passingOn atOnce true)).zone 2).state = .opened ∧ hasChair ((allowing 2#6 (passingOn atOnce true)).zone 2).allowed 3 = false ∧
        hasChair ((allowing 8#6 (passingOn atOnce false)).zone 2).allowed 1 = false) ∧
      (passingL2.entry 2).handover ≠ none ∧ passingL2.Quiet := by decide

/-- L2 with a ZONE channel of 4 bits, held by C1 in Z1, with Z0 OPEN without C1, or CLOSED. -/
def wideL2 (z0 : ZoneState) : State :=
  (heldL2.setContext 2
    { known with descriptors := channels.map fun d => if d.function = 11#8 then { d with size := 4#8 } else d }).setZone 0
    ⟨z0, 1000, 0, 8#6⟩

/-- Zone 9 reported on a ZONE channel of 4 bits: Z0, at rest. -/
def atNine : List Byte := [0x08#8, 0x00#8, 0x90#8, 0x00#8, 0x00#8, 0x00#8]

theorem witness_TelemetryMovesAHeldLoader_outside :
    (wideL2 .opened).Quiet ∧ (wideL2 .opened).slotOfUnit 7002#32 = some 2 ∧ ((wideL2 .opened).context 2).admitted = some lengths ∧
      atNine.length = lengths.inBytes ∧ ((wideL2 .opened).entry 2).state = .held ∧ ((wideL2 .opened).entry 2).holder = some (.chair 1) ∧
      ((wideL2 .opened).chair 1).state = .driving ∧
      valueOf .zone (unpack (((wideL2 .opened).context 2).descriptors.filter isIn) (numberOf atNine)) = 9 ∧
      (statusOf (unpack (((wideL2 .opened).context 2).descriptors.filter isIn) (numberOf atNine))).trips = false ∧
      ((wideL2 .opened).entry 2).zone? = some 1 ∧ ((wideL2 .opened).zone 0).state = .opened ∧
      hasChair ((wideL2 .opened).zone 0).allowed 1 = false ∧ ((wideL2 .opened).entry 2).zoneDrop = false ∧
      ((wideL2 .closed).zone 0).state = .closed := by decide

/-- The loader that reports zone 9 comes into Z0, CLOSED: it is locked, and ZONE_RANGE is set (R125). -/
theorem test_zone_out_of_range_locks :
    ((after (.telemetry 7002#32 atNine) (wideL2 .closed)).entry 2).state = .locked ∧
      (after (.telemetry 7002#32 atNine) (wideL2 .closed)).service.port.flags = 0x200#16 := by decide

/-- The CRC of R181's IDLE frame, and the payloads that R186's tables give a refusal of the PASS of slot 2, the loss of L2's held chair to a
link, and the READ_ENTRY of entry 5. -/
theorem test_frames_as_the_part_writes_them :
    crcOfBits [0x00#8, 0x00#8] = 0x1D0F#16 ∧
      portFrameAs (.answer ⟨.pass, 3, .targetOffline, .slot 2#8⟩) = (0x81#8, [2, 3, 23, 2].flatMap byteAs) ∧
      portFrameAs (.notice (.lost 2 .link)) = (0x82#8, [5, 2, 30].flatMap byteAs) ∧
      fleetFrameAs (.read 2 7002#32 (.readEntry 5)) = (0x92#8, [0x00, 0x00, 0x1B, 0x5A, 5].flatMap byteAs) := by decide +kernel

theorem witness_FramesDepart :
    (after (.hello 7002#32) freeL2).fleetQueue = .read 2 7002#32 .readId :: [] ∧ (after (.hello 7002#32) freeL2).gatewayReady = false ∧
      (after (.gatewayReadyChange true) (after (.hello 7002#32) freeL2)).gatewayReady = true ∧
      ((after (.hello 7002#32) freeL2).context 2).read = some .readId ∧ (after (.hello 7002#32) freeL2).Quiet ∧
      ((after (.cancel from3) freeL2).port (.chair 3)).queue = .answer ⟨.cancel, 3, .nothingPending, .nothing⟩ :: [] := by decide

/-- A state whose slot 2 has been heard. -/
def heardL2 (s : State) : State := s.setFleetSlot 2 ⟨some 50, true, 0, none⟩

theorem witness_CycleExpiriesBuildFrames :
    (heardL2 heldL2).Quiet ∧ ((heardL2 heldL2).fleetSlot 2).cycle ≠ none ∧ ((heardL2 heldL2).entry 2).state = .held ∧
      ((heardL2 heldL2).fleetSlot 2).heard = true ∧ (frameTable (heardL2 heldL2) 2).isSome = true ∧
      ((heardL2 heldL2).entry 2).holder = some (.chair 1) ∧ ((heardL2 heldL2).chair 1).state ≠ .offline ∧
      ((heardL2 heldL2).entry 2).status = some (report 1) ∧ (frameTable freeL2 2).isSome = true ∧ (freeL2.entry 2).state ≠ .held ∧
      (lostL2.fleetSlot 2).cycle ≠ none ∧ (lostL2.entry 2).state = .linkLost ∧ (lostL2.fleetSlot 2).heard = false ∧
      frameTable (findingL2 .readingId (some .readId) []) 2 = none ∧
      ((findingL2 .readingId (some .readId) []).context 2).stage ≠ some .awaitingTelemetry := by decide

/-- The first miss of a held loader. -/
theorem witness_CycleExpiriesBuildFrames_miss :
    (heldL2.setFleetSlot 2 ⟨some 50, false, 0, none⟩).Quiet ∧ ((heldL2.setFleetSlot 2 ⟨some 50, false, 0, none⟩).fleetSlot 2).cycle ≠ none ∧
      ((heldL2.setFleetSlot 2 ⟨some 50, false, 0, none⟩).fleetSlot 2).heard = false ∧
      ((heldL2.setFleetSlot 2 ⟨some 50, false, 0, none⟩).fleetSlot 2).misses + 1 < heldL2.policy.missLimit ∧
      (heldL2.entry 2).state = .held := by decide

theorem witness_TravelNeverBeyondCap :
    (heldL2.fleetSlot 2).cycle ≠ none ∧ (heldL2.entry 2).zone? = some 1 ∧ (heldL2.entry 2).state = .held := by decide

/-- A slot whose next expiry is its fifth miss. -/
def missingL2 (s : State) : State := s.setFleetSlot 2 ⟨some 50, false, 4, none⟩

theorem witness_LostLoadersAreForgotten :
    ((missingL2 heldL2).Quiet ∧ (missingL2 heldL2).AuthorityLaw ∧ (missingL2 heldL2).OneHolderLaw ∧
        ((missingL2 heldL2).fleetSlot 2).cycle ≠ none ∧ ((missingL2 heldL2).entry 2).state.carries = true ∧
        ((missingL2 heldL2).fleetSlot 2).heard = false ∧
        (missingL2 heldL2).policy.missLimit ≤ ((missingL2 heldL2).fleetSlot 2).misses + 1) ∧
      ((missingL2 lockedL2).entry 2).state = .locked ∧ lostL2.Quiet ∧ (lostL2.fleetSlot 2).forget ≠ none := by decide +kernel

theorem witness_LostLoadersAreForgotten_farewell :
    (missingL2 passingL2).Quiet ∧ (missingL2 passingL2).AuthorityLaw ∧ (missingL2 passingL2).OneHolderLaw ∧
      ((missingL2 passingL2).entry 2).state.carries = true ∧ ((missingL2 passingL2).fleetSlot 2).heard = false ∧
      (missingL2 passingL2).policy.missLimit ≤ ((missingL2 passingL2).fleetSlot 2).misses + 1 ∧
      (missingL2 passingL2).farewell 2 .linkLost 1 = [.answer ⟨.pass, 3, .linkLost, .slot 2#8⟩, .notice (.lost 2 .linkLost)] ∧
      (missingL2 passingL2).farewell 2 .linkLost 3 = [.notice (.offerWithdrawn 2 .linkLost)] := by
  refine ⟨?_, ?_, ?_, ?_, ?_, ?_, ?_, ?_⟩ <;> decide +kernel

theorem witness_LostLoadersAreForgotten_awaiting :
    (missingL2 awaitingL2).Quiet ∧ ((missingL2 awaitingL2).fleetSlot 2).cycle ≠ none ∧
      ((missingL2 awaitingL2).entry 2).state = .discovering ∧ ((missingL2 awaitingL2).context 2).stage = some .awaitingTelemetry ∧
      ((missingL2 awaitingL2).fleetSlot 2).heard = false ∧
      (missingL2 awaitingL2).policy.missLimit ≤ ((missingL2 awaitingL2).fleetSlot 2).misses + 1 := by decide

theorem witness_DispatcherVisits :
    (offeredL2.findCall 2 = some (callL2 true) ∧ (callL2 true).reserved = true) ∧
      (({ autoL2 with calls := [callL2 false] } : State).findCall 2 = some (callL2 false) ∧ (callL2 false).reserved = false ∧
        (autoL2.entry 2).handover = none ∧ (autoL2.entry 2).status = some (report 1)) ∧
      ((autoL2.chair 1).state == .ready && (autoL2.chair 1).presence == .present && hasChair (autoL2.zone 1).allowed 1 &&
        !hasChair (callL2 false).declined 1) = true ∧
      (∀ b : ChairId, b < 1 → (autoL2.chair (0 + b)).state = .offline) ∧
      (∀ c, ((callL2 false 0b001010#6).declined ≠ 0#6 ∧ ((autoL2.chair c).state ≠ .offline → hasChair (autoL2.zone 1).allowed c = true →
        hasChair (callL2 false 0b001010#6).declined c = true))) ∧
      (∀ c, ((inPresence .absent freeL2).chair c).state = .ready → c = 1 ∨ c = 3) := by decide

/-- The laws of a state that the steps keep, in two halves. -/
abbrev TableLawful (s : State) : Prop :=
  s.AuthorityLaw ∧ s.ClosedZoneLaw ∧ s.SourceLaw ∧ s.OneHolderLaw ∧ s.CallQueueLaw ∧ s.ReservedLaw

abbrev PortLawful (s : State) : Prop :=
  s.StackLaw ∧ s.ZonePlanLaw ∧ s.PolicyLaw ∧ s.BindingLaw ∧ s.ChairLaw ∧ s.PortLaw ∧ s.FleetQueueLaw ∧ s.CountsLaw ∧ s.Quiet

/-- C1's ACCEPT of the offered CLAIM of a called loader waits. -/
def acceptingL2 : State := { offeredL2 with pending := [.accept from1 2#8] }

theorem witness_steps_table : TableLawful acceptingL2 := by
  refine ⟨?_, ?_, ?_, ?_, ?_, ?_⟩ <;> decide +kernel

theorem witness_steps_ports : PortLawful acceptingL2 := by
  refine ⟨?_, ?_, ?_, ?_, ?_, ?_, ?_, ?_, ?_⟩ <;> decide +kernel

/-- The step is taken: the loader changes hands and its call goes. -/
theorem witness_steps : step acceptingL2 = .next (after (.accept from1 2#8) offeredL2) := rfl

theorem witness_steps_outcome :
    ((after (.accept from1 2#8) offeredL2).entry 2).heldBy 1 = true ∧ (after (.accept from1 2#8) offeredL2).calls = [] := by decide

theorem witness_laws_of_a_pass : TableLawful passingL2 := by
  refine ⟨?_, ?_, ?_, ?_, ?_, ?_⟩ <;> decide +kernel

theorem witness_laws_of_a_held_loader : TableLawful heldL2 := by
  refine ⟨?_, ?_, ?_, ?_, ?_, ?_⟩ <;> decide +kernel

theorem witness_laws_of_discovery : TableLawful awaitingL2 := by
  refine ⟨?_, ?_, ?_, ?_, ?_, ?_⟩ <;> decide +kernel

theorem witness_OneWalkLeavesNoPair :
    ({ autoL2 with calls := [callL2 false] } : State).CallQueueLaw ∧ ({ autoL2 with calls := [callL2 false] } : State).ReservedLaw ∧
      ((runDispatcher { autoL2 with calls := [callL2 false] }).entry 2).targets 1 = true := by decide

theorem witness_RampOutputIsNearest : 1 ≤ 1 ∧ 1 ≤ 32 ∧ 32 ≤ 32 ∧ rampAxis 210 0 4 8 = 105 := by decide

/-- The raw values of the scaling example, and the widest a descriptor can hold. -/
theorem witness_ScalingStaysInRange :
    (-32768 : Int) ≤ 0 ∧ (0 : Int) ≤ 512 ∧ (512 : Int) ≤ 1023 ∧ (1023 : Int) ≤ 32767 ∧ IsCounts (-2048) ∧ IsCounts 2047 ∧
      scale (gainsOf (-32768) (-32768) 32767) (-32768) 2047 = 32767 := by decide

/-- A SIGNED channel at both ends of 12 bits, an UNSIGNED one of 9 bits and a DISCRETE one of 1 bit. -/
theorem witness_UnpackingReadsWhatPackingWrote :
    ∀ p ∈ [(incoming 13#8 12#8 0#8, (-2048 : Int)), (incoming 13#8 12#8 0#8, 2047), (incoming 10#8 9#8 1#8, 511), (discrete 6#8 1#8, 1)],
      1 ≤ p.1.size.toNat ∧
        (if p.1.kind = 0#8 then -(2 ^ (p.1.size.toNat - 1) : Int) ≤ p.2 ∧ p.2 < (2 ^ (p.1.size.toNat - 1) : Int)
          else 0 ≤ p.2 ∧ p.2 < (2 ^ p.1.size.toNat : Int)) := by decide

/-- The example of chapter 5 as a validated list, at both ends of the counts; and three channels with one ahead and one behind. -/
theorem witness_UnpackingReadsWhatPackingWrote_frame :
    validate known.descriptors 50 150 = none ∧ known.admitted = some (admissionOf known.descriptors) ∧
      (⟨-2048, 2047, 0, -1⟩ : Axes).InCounts ∧
      (known.descriptors.filter fun d => d.direction = 0#8).map
          (outValue ⟨0, 1300, 0, -2048⟩
            { mode := .drive, axes := Axes.neutral, gear := .f, parkBrake := false, horn := true, lights := false, ramped := false })
        = [512, 837, 512, 0, 1, 0, 1, 0] ∧
      (⟨0, 1300, 0, -2048⟩ : Axes).InCounts ∧ ([1, 2, 3] : List Nat) = [1] ++ 2 :: [3] := by decide

theorem witness_AxisFramesAreReceived : (axisOf (-2048) true 3#2).WellFormed ∧ (axisOf 2047 false 0#2).WellFormed := by decide

/-- Runs at each check: short, with another first byte, of 48 and 49 bytes, of kinds not taken, and of shapes that no row gives. -/
theorem witness_AxisFramesAreReceived_checks :
    ([0xA5#8, 0#8, 0#8, 0#8] : List Byte).length < 5 ∧ ([0xA4#8, 0#8, 0#8, 0#8, 0#8] : List Byte).head? ≠ some 0xA5#8 ∧
      crc [0#8, 0#8] = 0x1D0F#16 ∧ (0x1D0E#16 : Half) ≠ crc [0#8, 0#8] ∧ (48#8).toNat ≤ 48 ∧ ¬ (49#8).toNat ≤ 48 ∧
      ¬ (0x03#8 = 0x00#8 ∨ 0x03#8 = 0x02#8 ∨ (0x03#8 : Byte) = 0x01#8) ∧ (0x01, 4) ∉ requestShapes ∧ (0x0D, 3) ∉ requestShapes ∧
      ¬ fleetShape 0x10#8 [0#8, 0#8, 0#8, 0#8, 0#8] ∧ ¬ fleetShape 0x11#8 [0#8, 0#8, 0#8] ∧
      ¬ fleetShape 0x14#8 [0#8, 0#8, 0#8, 1#8, 0#8, 2#8] ∧ fleetShape 0x14#8 [0#8, 0#8, 0#8, 1#8, 0#8, 1#8] ∧ 3 < (4#8 : Byte).toNat ∧
      ¬ IsCounts (0x0800#16 : Half).toInt := by
  refine ⟨?_, ?_, ?_, ?_, ?_, ?_, ?_, ?_, ?_, ?_, ?_, ?_, ?_, ?_, ?_⟩ <;> decide +kernel

/-- A REQUEST with a gate record and with every bit that is not read set, and a loader's ENTRY frame, as the tables of section 10.3 lay
them out. -/
theorem witness_AxisFramesAreReceived_requests :
    (Instr.take from1 2#8 (some ⟨some 7#8, 3#8, 5#8, .differ, false⟩)).WellFormed ∧
      requestPayload 0xFF#8 (.take from1 2#8 (some ⟨some 7#8, 3#8, 5#8, .differ, false⟩)) =
        some (.chair 1, [0x01#8, 0xF3#8, 0x02#8, 0x07#8, 0x03#8, 0x05#8, 0xFD#8]) ∧
      requestPayload 0#8 (.zoneSet fromService 1#8 .closed 0x0578#16 0x0064#16 0b001011#6) =
        some (.service, [0x20#8, 0x03#8, 0x01#8, 0x01#8, 0x05#8, 0x78#8, 0x00#8, 0x64#8, 0x0B#8]) ∧
      (Instr.entryAnswer 7002#32 3#8 (some (analog 3#8))).WellFormed ∧
      fleetContent (.entryAnswer 7002#32 3#8 (some (analog 3#8))) =
        some (0x14#8, 7002#32, [3#8, 0#8, 3#8, 0#8, 10#8, 1#8, 0#8, 0#8, 2#8, 0#8, 3#8, 0xFF#8]) := by decide

theorem witness_StepsKeepTheFleetQueue :
    (after (.cycleExpiry 2) (after (.hello 7002#32) freeL2)).FleetQueueLaw ∧
      (after (.cycleExpiry 2) (after (.hello 7002#32) freeL2)).fleetQueue.length = 2 := by decide

/-- A queue in which a frame of each class stands behind another, and the frames placed against them. -/
theorem witness_StepsKeepTheFleetQueue_placement :
    (∀ k ∈ [FleetFrame.read 2 7002#32 .readId], k.isCommandOf 2 = false) ∧ (FleetFrame.command 2 7002#32 .hold [0#8]).isCommandOf 2 = true ∧
      (FleetFrame.command 2 7002#32 .hold [0#8]).isRestart = false ∧ (FleetFrame.command 2 7002#32 .restart []).isCommandOf 2 = true ∧
      (FleetFrame.command 2 7002#32 .restart []).isRestart = true ∧ (FleetFrame.command 2 7002#32 .drive []).slot = 2 ∧
      (∀ k ∈ [FleetFrame.command 2 7002#32 .stop []], k.isReadOf 2 = false) ∧ (FleetFrame.read 2 7002#32 .readId).isReadOf 2 = true := by
  decide

/-- A port's queue with a STATUS frame behind `n` answers. -/
def waitingPort (n : Nat) : PortRegs :=
  { PortRegs.reset with
    queue := List.replicate n (.answer ⟨.cancel, 3, .nothingPending, .nothing⟩) ++ [.status ⟨2, report 1, Axes.neutral, false, false⟩] }

theorem witness_StepsKeepThePorts_placement :
    freeL2.online (.chair 5) = false ∧ freeL2.online (.chair 1) = true ∧ (PortFrame.notice (.lost 2 .link)).reports = true ∧
      (waitingPort 14).queue.countP (fun g => g.reports) < 15 ∧ 15 ≤ (waitingPort 15).queue.countP (fun g => g.reports) ∧
      (∀ g ∈ PortRegs.reset.queue, g.reports = true) ∧
      ∀ g ∈ List.replicate 15 (PortFrame.answer ⟨.cancel, 3, .nothingPending, .nothing⟩), g.reports = true := by decide

/-- R189: with 15 waiting a notice is dropped and TX_OVERFLOW counts, and a STATUS frame still takes the place of the waiting one. -/
theorem test_port_placement :
    (waitingPort 15).enqueue (.notice (.lost 2 .link)) = { waitingPort 15 with flags := 0x008#16, errors := 1 } ∧
      ((waitingPort 15).enqueue (.status ⟨4, report 2, Axes.neutral, true, false⟩)).queue.getLast? =
        some (.status ⟨4, report 2, Axes.neutral, true, false⟩) ∧
      ((waitingPort 15).enqueue (.status ⟨4, report 2, Axes.neutral, true, false⟩)).queue.length = 16 := by decide

/-- R152: a RESTART frame that waits keeps its place, and any other COMMAND frame of its slot is replaced where it stands. -/
theorem test_placement :
    placeCommand (.command 2 7002#32 .stop []) [.command 1 1#32 .stop [], .command 2 7002#32 .hold [0#8], .read 2 7002#32 .readId] =
        [.command 1 1#32 .stop [], .command 2 7002#32 .stop [], .read 2 7002#32 .readId] ∧
      placeCommand (.command 2 7002#32 .stop []) [.command 2 7002#32 .restart []] = [.command 2 7002#32 .restart []] ∧
      placeRead (.read 2 7002#32 (.readEntry 0#8)) [.command 2 7002#32 .stop []] =
        [.command 2 7002#32 .stop [], .read 2 7002#32 (.readEntry 0#8)] := by decide

end Sys2Proof.Tests
end

section
/-! SUPPORT. How a request of a chair runs when its port takes it: the frame it brings, its refusal, its record and the evaluation of the
gate; each operation on one chair as one write of that chair's record. -/

namespace Sys2Proof.Machine

/-! ### Records written twice, and written as they stood -/

@[simp] theorem State.setChair_setChair (s : State) (c : ChairId) (x y : Chair) : (s.setChair c x).setChair c y = s.setChair c y := by
  simp [State.setChair]

@[simp] theorem State.setEntry_setEntry (s : State) (i : Slot) (d e : Entry) : (s.setEntry i d).setEntry i e = s.setEntry i e := by
  simp [State.setEntry]

@[simp] theorem State.setChair_chair_self (s : State) (c : ChairId) : s.setChair c (s.chair c) = s := by
  simp [State.setChair, State.chair, Vector.get_eq_getElem]

/-- Writes of an entry and of a chair do not meet. -/
theorem State.setChair_setEntry (s : State) (c : ChairId) (x : Chair) (i : Slot) (e : Entry) :
    (s.setChair c x).setEntry i e = (s.setEntry i e).setChair c x := rfl

/-! ### The operations on one chair as one write of its record -/

/-- A frame sent to a chair that is online is placed in its queue, and nothing else changes. -/
theorem send_chair_of_online {s : State} {c : ChairId} (f : PortFrame) (h : (s.chair c).state ≠ .offline) :
    s.send (.chair c) f = s.setChair c ((s.chair c).queued f) := by
  rw [State.send, if_pos (by simpa [State.online] using h)]
  rfl

/-- The answer to a long request writes the record of its chair alone. -/
theorem answerOutstanding_eq_setChair (s : State) (c : ChairId) (code : Code) :
    s.answerOutstanding c code = s.setChair c ((s.chair c).answered code) := by
  unfold State.answerOutstanding Chair.answered
  cases (s.chair c).port.outstanding with
  | none => simp
  | some o =>
    have emptied (f : PortRegs → PortRegs) :
        s.modPort (.chair c) f = s.setChair c { s.chair c with port := f (s.chair c).port } := rfl
    by_cases h : (s.chair c).state = .offline
    · simp [emptied, State.answer, State.send, State.online, h]
    · simp [emptied, State.answer, send_chair_of_online, h]

/-- A chair's return to READY or IDLE writes its record, and the dispatcher is due if it became READY. -/
theorem settleChair_eq_setChair (s : State) (c : ChairId) :
    s.settleChair c = { s.setChair c (s.chair c).settled with dispatchDue := (s.chair c).latch || s.dispatchDue } := by
  unfold State.settleChair Chair.settled
  cases h : (s.chair c).latch <;> simp [State.modChair, State.setChair, h]

@[simp] theorem Chair.answered_state (code : Code) (x : Chair) : (x.answered code).state = x.state := by
  unfold Chair.answered
  split
  · rfl
  · dsimp only
    split <;> rfl

/-- A chair that returns to READY or IDLE is online. -/
theorem Chair.settled_state_ne_offline (x : Chair) : x.settled.state ≠ .offline := by
  unfold Chair.settled
  cases x.latch <;> simp

/-- A chair whose request slot is occupied by a request and which is online is answered that request. -/
theorem Chair.answered_of_outstanding {x : Chair} {o : Outstanding} (code : Code) (hx : x.state ≠ .offline)
    (ho : x.port.outstanding = some o) :
    x.answered code = ({ x with port := { x.port with outstanding := none } } : Chair).queued
      (.answer { kind := o.kind, tag := o.tag, code := code, content := .slot (slotByte o.slot) }) := by
  simp [Chair.answered, ho, hx]

/-! ### The dispatcher's flag -/

/-- An event whose effects leave the dispatcher's flag clear ends with them. -/
theorem finish_of_quiet {s : State} (h : s.Quiet) : finish s = s := by
  simp [finish, show s.dispatchDue = false from h]

theorem send_dispatchDue (s : State) (p : Port) (f : PortFrame) : (s.send p f).dispatchDue = s.dispatchDue := by
  unfold State.send
  split
  · cases p <;> rfl
  · rfl

/-- A transfer from no chair returns no chair to READY, so that the dispatcher is due only if it was. -/
theorem transfer_dispatchDue_of_source (i : Slot) {h : Handover} (s : State) (hs : ∀ c, h.source ≠ some (.chair c)) :
    (transfer i h s).dispatchDue = s.dispatchDue := by
  have driving (u : State) : (match h.target with
      | .chair t => u.setChairState t .driving
      | .auto => u).dispatchDue = u.dispatchDue := by cases h.target <;> rfl
  have released (u : State) : (match h.source with
      | some (.chair c) => u.settleChair c
      | _ => u) = u := by
    split
    · next c hc => exact absurd hc (hs c)
    · rfl
  have answered (u : State) : (match h.requester with
      | some r => u.answerOutstanding r .done
      | none => u).dispatchDue = u.dispatchDue := by
    cases h.requester with
    | none => rfl
    | some r => simp [answerOutstanding_eq_setChair]
  have told (u : State) : (match h.target with
      | .chair t => if h.requester = some t then u else u.notify (.chair t) (.holding i h.kind h.source)
      | .auto => u).dispatchDue = u.dispatchDue := by
    cases h.target with
    | auto => rfl
    | chair t =>
      dsimp only
      split
      · rfl
      · exact send_dispatchDue u _ _
  exact (told _).trans ((answered _).trans ((congrArg State.dispatchDue (released _)).trans
    (driving ((s.modEntry i (entryAfter h s.policy)).removeCall i))))

/-! ### A request that a chair's port takes -/

/-- The state in which the port of chair `c` has just taken a valid frame, the chair being online (R86 to R88). -/
def State.heardFrom (s : State) (c : ChairId) : State := s.setChair c { s.chair c with port := (s.chair c).port.heard }

theorem goodFrame_chair {s : State} {c : ChairId} (h : (s.chair c).state ≠ .offline) : goodFrame (.chair c) s = s.heardFrom c := by
  have online : comeOnline (.chair c) s = s := by
    rw [comeOnline, if_pos (by simpa [State.online] using h)]
  rw [goodFrame, online]
  rfl

theorem chair_heardFrom (s : State) (c d : ChairId) :
    (s.heardFrom c).chair d = if c = d then { s.chair d with port := (s.chair d).port.heard } else s.chair d := by
  unfold State.heardFrom
  rw [State.chair_setChair]
  split
  · next h => subst h; rfl
  · rfl

@[simp] theorem chair_heardFrom_self (s : State) (c : ChairId) :
    (s.heardFrom c).chair c = { s.chair c with port := (s.chair c).port.heard } := by
  simp [chair_heardFrom]

@[simp] theorem setChair_heardFrom (s : State) (c : ChairId) (x : Chair) : (s.heardFrom c).setChair c x = s.setChair c x :=
  State.setChair_setChair ..

@[simp] theorem entry_heardFrom (s : State) (c : ChairId) (i : Slot) : (s.heardFrom c).entry i = s.entry i := rfl
@[simp] theorem allowedAt_heardFrom (s : State) (c d : ChairId) (i : Slot) : (s.heardFrom c).allowedAt i d = s.allowedAt i d := rfl

@[simp] theorem state_heardFrom (s : State) (c d : ChairId) : ((s.heardFrom c).chair d).state = (s.chair d).state := by
  rw [chair_heardFrom]; split <;> rfl

@[simp] theorem presence_heardFrom (s : State) (c d : ChairId) : ((s.heardFrom c).chair d).presence = (s.chair d).presence := by
  rw [chair_heardFrom]; split <;> rfl

/-- A chair's request that its port takes is an event of the frame heard and the owning block's effects (R164). -/
theorem event_takeRequest_fromChair {s : State} {c : ChairId} (hq : s.Quiet) (ht : s.Takes c) (tag : Tag) {kind : RequestKind}
    (hk : kind.acceptedOn (.chair c) = true) (content : Content) (owner : ChairId → State → State) :
    event (takeRequest ⟨.chair c, tag⟩ kind content (fromChair ⟨.chair c, tag⟩ kind content owner)) s =
      finish (owner c (s.heardFrom c)) := by
  obtain ⟨online, free⟩ := ht
  have quiet : ({ s with dispatchDue := false } : State) = s := by rw [← show s.dispatchDue = false from hq]
  have slotFree : (s.heardFrom c).port (.chair c) = (s.chair c).port.heard := by simp [State.port]
  simp [event, quiet, takeRequest, goodFrame_chair online, slotFree, PortRegs.heard, free, hk, fromChair]

/-- An answer to a chair that is online is placed in its queue. -/
theorem reply_chair_of_online {s : State} {c : ChairId} (h : (s.chair c).state ≠ .offline) (tag : Tag) (kind : RequestKind)
    (code : Code) (content : Content) :
    reply ⟨.chair c, tag⟩ kind code content s =
      s.setChair c ((s.chair c).queued (.answer { kind := kind, tag := tag, code := code, content := content })) :=
  send_chair_of_online _ h

/-- A request that is only answered changes its own port alone. -/
theorem finish_reply_heardFrom {s : State} {c : ChairId} (hq : s.Quiet) (ht : s.Takes c) (tag : Tag) (kind : RequestKind)
    (code : Code) (content : Content) :
    finish (reply ⟨.chair c, tag⟩ kind code content (s.heardFrom c)) =
      s.setChair c ((s.chair c).replied { kind := kind, tag := tag, code := code, content := content }) := by
  rw [reply_chair_of_online (by simpa using ht.1), finish_of_quiet (by exact hq), setChair_heardFrom]
  simp [Chair.queued, Chair.replied]

/-- The byte a slot was read from is the byte of that slot. -/
theorem slotByte_of_slotOf {b : Byte} {i : Slot} (h : slotOf b = some i) : slotByte i = b := by
  unfold slotOf at h
  split at h
  · obtain rfl := Option.some.inj h
    simp [slotByte]
  · exact absurd h (by simp)

/-! ### The checks of the long requests -/

/-- Checks that give the first failing code are refusals that give the first holding one. -/
theorem firstFailing_eq_firstRefusal (l : List (Bool × Code)) :
    firstFailing l = firstRefusal (l.map fun p => (!p.1, p.2)) := by
  induction l with
  | nil => rfl
  | cons p l ih => obtain ⟨_ | _, code⟩ := p <;> simp [firstFailing, firstRefusal, ih]

end Sys2Proof.Machine
end

section
/-! SUPPORT. The gate of a handover: what its condition says, on what it depends, and its evaluation at a record's entry into GATING. -/

namespace Sys2Proof.Machine

/-! ### Gate records (R29, R30) -/

theorem Gate.condition_iff (g : Gate) (ls : LoaderStatus) :
    g.condition ls = true ↔ (g.phase = none ∨ g.phase = some ls.phase) ∧ ls.flags &&& g.mask = g.value := by
  unfold Gate.condition
  cases g.phase <;> simp

theorem Gate.satisfied_of_matching {g : Gate} (ls : LoaderStatus) (h : g.sense = .matching) : g.satisfied ls = g.condition ls := by
  simp [Gate.satisfied, h]

theorem Gate.satisfied_of_differ {g : Gate} (ls : LoaderStatus) (h : g.sense = .differ) : g.satisfied ls = !g.condition ls := by
  simp [Gate.satisfied, h]

theorem CombinedGate.satisfied_iff (g : CombinedGate) (ls : LoaderStatus) :
    g.satisfied ls = true ↔ g.policy.satisfied ls = true ∧ ∀ r ∈ g.request, r.satisfied ls = true := by
  unfold CombinedGate.satisfied
  cases g.request <;> simp

theorem CombinedGate.waits_iff (g : CombinedGate) : g.waits = true ↔ g.policy.wait = true ∧ ∀ r ∈ g.request, r.wait = true := by
  unfold CombinedGate.waits
  cases g.request <;> simp

/-- A gate record is stored with its value within its mask and with everything else as carried. -/
theorem gateOf_eq_some {g : GateIn} {r : Gate} (h : gateOf g = some r) :
    r.mask = g.mask ∧ r.value = g.value &&& g.mask ∧ r.sense = g.sense ∧ r.wait = g.wait ∧
      r.phase.map (fun p => BitVec.ofNat 8 p.val) = g.phase := by
  unfold gateOf at h
  cases hp : g.phase with
  | none =>
    simp only [hp, Option.some.injEq] at h
    subst h
    simp
  | some b =>
    simp only [hp, phaseOf] at h
    split_ifs at h with hb
    · simp only [Option.some.injEq] at h
      subst h
      simp

/-! ### When the gate of a handover passes (R31) -/

theorem targetFit_iff (h : Handover) (s : State) :
    targetFit h s = true ↔ ∀ c, h.target = .chair c →
      (s.chair c).presence = .present ∧
      (h.kind = .take ∨ h.kind = .claim → (s.chair c).sample.axes.travel.natAbs ≤ s.policy.neutralWindow) := by
  unfold targetFit State.isPresent
  cases h.target with
  | auto => simp
  | chair c => cases h.kind <;> simp

theorem gatePasses_of_status {s : State} {i : Slot} {ls : LoaderStatus} (h : Handover) (hs : (s.entry i).status = some ls) :
    gatePasses i h s = (h.gate.satisfied ls && targetFit h s) := by
  simp [gatePasses, hs]

/-- The gate depends on the loader status, the chairs' presence and held samples, and the policy alone. -/
theorem gatePasses_congr {s t : State} (i : Slot) (h : Handover) (status : (t.entry i).status = (s.entry i).status)
    (policy : t.policy = s.policy)
    (chair : ∀ d, (t.chair d).presence = (s.chair d).presence ∧ (t.chair d).sample = (s.chair d).sample) :
    gatePasses i h t = gatePasses i h s := by
  have fit : targetFit h t = targetFit h s := by
    unfold targetFit State.isPresent
    split
    · rfl
    · next c _ => rw [(chair c).1, (chair c).2, policy]
  unfold gatePasses
  rw [status, fit]

theorem gatePasses_setEntry (i : Slot) (h : Handover) (s : State) (e : Entry) (he : e.status = (s.entry i).status) :
    gatePasses i h (s.setEntry i e) = gatePasses i h s :=
  gatePasses_congr i h (by simpa using he) rfl fun _ => ⟨rfl, rfl⟩

theorem gatePasses_setChair (i : Slot) (h : Handover) (s : State) (c : ChairId) (x : Chair)
    (presence : x.presence = (s.chair c).presence) (sample : x.sample = (s.chair c).sample) :
    gatePasses i h (s.setChair c x) = gatePasses i h s := by
  refine gatePasses_congr i h rfl rfl fun d => ?_
  rw [State.chair_setChair]
  split
  · next hd => subst hd; exact ⟨presence, sample⟩
  · exact ⟨rfl, rfl⟩

/-! ### The evaluation at the entry into GATING (R42) -/

theorem enterGating_of_passes {s : State} {i : Slot} {h : Handover} (hh : (s.entry i).handover = some h)
    (hp : gatePasses i h s = true) : enterGating i s = transfer i h s := by
  simp [enterGating, hh, hp]

theorem enterGating_of_waits {s : State} {i : Slot} {h : Handover} (hh : (s.entry i).handover = some h)
    (hp : gatePasses i h s = false) (hw : h.gate.waits = true) : enterGating i s = s := by
  simp [enterGating, hh, hp, hw]

theorem enterGating_of_fails {s : State} {i : Slot} {h : Handover} (hh : (s.entry i).handover = some h)
    (hp : gatePasses i h s = false) (hw : h.gate.waits = false) : enterGating i s = abandon i .gateFailed s := by
  simp [enterGating, hh, hp, hw]

end Sys2Proof.Machine

namespace Sys2Proof.Settled

open Sys2Proof.Machine

/-- Settles O15: each clause is what the definition of one gate operation says. -/
theorem gatePassCondition : Obligations.GatePassCondition := by
  refine ⟨fun g ls => ⟨fun hs => ?_, fun hs => ?_⟩, fun s i h ls hs => ?_, CombinedGate.waits_iff, fun g r => gateOf_eq_some⟩
  · rw [Gate.satisfied_of_matching ls hs, Gate.condition_iff]
  · rw [Gate.satisfied_of_differ ls hs, Bool.not_eq_true', ← Bool.not_eq_true, Gate.condition_iff]
  · rw [gatePasses_of_status h hs, Bool.and_eq_true, CombinedGate.satisfied_iff, targetFit_iff, and_assoc]

end Sys2Proof.Settled
end

section
/-! SUPPORT. How the requests of the handover engine start: their numbers, their checks, their records, and the refusals. -/

namespace Sys2Proof.Machine

/-- A long request whose slot and gate record are in range reaches its owning block (R164, R168). -/
theorem event_withGate {s : State} {c : ChairId} (hq : s.Quiet) (ht : s.Takes c) (tag : Tag) {kind : RequestKind}
    (hk : kind.acceptedOn (.chair c) = true) {slot : Byte} {gate : Option GateIn} {g : Option Gate} {i : Slot}
    (hi : slotOf slot = some i) (hg : requestGate gate = some g) (owner : ChairId → Slot → Option Gate → State → State) :
    event (takeRequest ⟨.chair c, tag⟩ kind (.slot slot) (fromChair ⟨.chair c, tag⟩ kind (.slot slot) fun d =>
      withGate ⟨.chair c, tag⟩ kind slot gate (owner d))) s = finish (owner c i g (s.heardFrom c)) := by
  rw [event_takeRequest_fromChair hq ht tag hk]
  simp [withGate, withSlot, hi, hg]

/-- A request of a chair that carries a slot number in range and no gate reaches its owning block (R164, R169). -/
theorem event_withSlot {s : State} {c : ChairId} (hq : s.Quiet) (ht : s.Takes c) (tag : Tag) {kind : RequestKind}
    (hk : kind.acceptedOn (.chair c) = true) {slot : Byte} {i : Slot} (hi : slotOf slot = some i)
    (owner : ChairId → Slot → State → State) :
    event (takeRequest ⟨.chair c, tag⟩ kind (.slot slot) (fromChair ⟨.chair c, tag⟩ kind (.slot slot) fun d =>
      withSlot ⟨.chair c, tag⟩ kind slot (owner d))) s = finish (owner c i (s.heardFrom c)) := by
  rw [event_takeRequest_fromChair hq ht tag hk]
  simp [withSlot, hi]

/-- The request slot of a chair whose frame has just been heard becomes occupied (R163). -/
theorem occupySlot_heardFrom (s : State) (c : ChairId) (tag : Tag) (kind : RequestKind) (i : Slot) :
    occupySlot ⟨.chair c, tag⟩ kind i (s.heardFrom c) =
      s.setChair c
        { s.chair c with port := { (s.chair c).port.heard with outstanding := some { kind := kind, tag := tag, slot := i } } } := by
  show (s.heardFrom c).setChair c _ = _
  simp [State.port]

/-- The state with a record placed in an entry and the call attached to it, if any, reserved (R28, R63). -/
def State.withRecord (i : Slot) (h : Handover) (s : State) : State :=
  ({ s with
      calls := if h.callAttached then s.calls.map (fun k => if k.slot = i then { k with reserved := true } else k) else s.calls
    } : State).setEntry i { s.entry i with handover := some h }

theorem withRecord_setChair (i : Slot) (h : Handover) (s : State) (c : ChairId) (x : Chair) :
    (s.setChair c x).withRecord i h = (s.withRecord i h).setChair c x := rfl

theorem withRecord_of_noCall {h : Handover} (i : Slot) (s : State) (hc : h.callAttached = false) :
    s.withRecord i h = s.setEntry i { s.entry i with handover := some h } := by
  simp [State.withRecord, hc]

@[simp] theorem withRecord_handover (i : Slot) (h : Handover) (s : State) : ((s.withRecord i h).entry i).handover = some h := by
  simp [State.withRecord]

theorem gatePasses_withRecord (i : Slot) (h k : Handover) (s : State) : gatePasses i k (s.withRecord i h) = gatePasses i k s :=
  gatePasses_setEntry i k _ _ rfl

/-- A handover starts with its record, and a chair target OFFERED in OFFERING or ENGAGING in GATING (R28, R37). -/
theorem startHandover_eq (i : Slot) (h : Handover) (s : State) :
    startHandover i h s =
      match h.target with
      | .auto => s.withRecord i h
      | .chair t =>
        (s.withRecord i h).setChair t { s.chair t with state := if h.phase = .offering then .offered else .engaging } := by
  have record : (if h.callAttached then (s.modEntry i fun e => { e with handover := some h }).modCall i fun k => { k with reserved := true }
      else s.modEntry i fun e => { e with handover := some h }) = s.withRecord i h := by
    unfold State.withRecord
    cases h.callAttached <;> simp [State.modEntry, State.modCall, State.setEntry]
  unfold startHandover
  dsimp only
  rw [record]
  cases h.target with
  | auto => rfl
  | chair t => cases h.phase <;> rfl

/-! ### TAKE (R32) -/

theorem firstFailing_takeChecks (s : State) (i : Slot) (c : ChairId) : firstFailing (takeChecks i c s) = takeRefusal s i c := by
  simp [firstFailing_eq_firstRefusal, takeChecks, takeRefusal, State.available, State.isPresent, bne]

@[simp] theorem takeRefusal_heardFrom (s : State) (i : Slot) (c d : ChairId) : takeRefusal (s.heardFrom d) i c = takeRefusal s i c := by
  simp [takeRefusal]

theorem takesCall_eq (s : State) (i : Slot) (c : ChairId) (g : Option Gate) : takesCall i s = (takeRecord s i c g).callAttached := by
  unfold takesCall takeRecord
  cases s.findCall i <;> rfl

/-- A TAKE has no chair as its source (R32). -/
theorem takeRecord_source_ne_chair (s : State) (i : Slot) (c : ChairId) (g : Option Gate) (d : ChairId) :
    (takeRecord s i c g).source ≠ some (.chair d) := by
  unfold takeRecord
  dsimp only
  split <;> simp

/-- The state in which a TAKE that passed its checks has its record and its gate is not yet evaluated. -/
def takeStarted (s : State) (c : ChairId) (tag : Tag) (i : Slot) (g : Option Gate) : State :=
  (s.withRecord i (takeRecord s i c g)).setChair c
    { s.chair c with
      state := .engaging
      port := { (s.chair c).port.heard with outstanding := some { kind := .take, tag := tag, slot := i } } }

theorem startTake_heardFrom (s : State) (c : ChairId) (tag : Tag) (i : Slot) (g : Option Gate) :
    startTake ⟨.chair c, tag⟩ c i g (s.heardFrom c) = enterGating i (takeStarted s c tag i g) := by
  have record (x : Chair) :
      newRecord .take (if (s.entry i).state = .auto then some .auto else none) (.chair c) .gating g (some c)
        (takesCall i (s.setChair c x)) (s.setChair c x).policy = takeRecord s i c g := by
    show newRecord _ _ _ _ _ _ (takesCall i s) s.policy = _
    rw [takesCall_eq s i c g]
    rfl
  unfold startTake
  rw [occupySlot_heardFrom]
  dsimp only
  rw [entry_heardFrom, record, startHandover_eq]
  simp [takeStarted, takeRecord, withRecord_setChair]

theorem takeStarted_handover (s : State) (c : ChairId) (tag : Tag) (i : Slot) (g : Option Gate) :
    ((takeStarted s c tag i g).entry i).handover = some (takeRecord s i c g) := by
  simp [takeStarted]

theorem gatePasses_takeStarted (s : State) (c : ChairId) (tag : Tag) (i : Slot) (g : Option Gate) (h : Handover) :
    gatePasses i h (takeStarted s c tag i g) = gatePasses i h s := by
  unfold takeStarted
  rw [gatePasses_setChair, gatePasses_withRecord] <;> rfl

section
variable {s : State} {c : ChairId} {tag : Tag} {slot : Byte} {gate : Option GateIn} {g : Option Gate} {i : Slot}

theorem exec_take_of_refusal (hq : s.Quiet) (ht : s.Takes c) (hi : slotOf slot = some i) (hg : requestGate gate = some g) {code : Code}
    (hr : takeRefusal s i c = some code) :
    exec (.take ⟨.chair c, tag⟩ slot gate) s =
      .next (s.setChair c ((s.chair c).replied { kind := .take, tag := tag, code := code, content := .slot slot })) := by
  refine congrArg Host.Outcome.next ((event_withGate hq ht tag rfl hi hg _).trans ?_)
  rw [firstFailing_takeChecks, takeRefusal_heardFrom, hr]
  exact finish_reply_heardFrom hq ht ..

theorem exec_take_of_passes (hq : s.Quiet) (ht : s.Takes c) (hi : slotOf slot = some i) (hg : requestGate gate = some g)
    (hr : takeRefusal s i c = none) :
    exec (.take ⟨.chair c, tag⟩ slot gate) s = .next (finish (enterGating i (takeStarted s c tag i g))) := by
  refine congrArg Host.Outcome.next ((event_withGate hq ht tag rfl hi hg _).trans ?_)
  rw [firstFailing_takeChecks, takeRefusal_heardFrom, hr]
  exact congrArg finish (startTake_heardFrom s c tag i g)

end

end Sys2Proof.Machine

namespace Sys2Proof.Settled

open Sys2Proof.Machine

/-- Settles O19: the refusals, and the three outcomes of the evaluation at the record's entry into GATING. -/
theorem takeRequest : Obligations.TakeRequest := by
  intro s c tag slot gate g i hq ht hi hg
  have evaluated (hr : takeRefusal s i c = none) := exec_take_of_passes (tag := tag) hq ht hi hg hr
  have record := takeStarted_handover s c tag i g
  have gate := gatePasses_takeStarted s c tag i g (takeRecord s i c g)
  refine ⟨fun code hr => exec_take_of_refusal hq ht hi hg hr, fun hr hp => ?_, fun hr hp hw => ?_, fun hr hp hw => ?_⟩
  · have quiet : State.Quiet (transfer i (takeRecord s i c g) (takeStarted s c tag i g)) :=
      (transfer_dispatchDue_of_source i _ (takeRecord_source_ne_chair s i c g)).trans hq
    rw [evaluated hr, enterGating_of_passes record (gate.trans hp), finish_of_quiet quiet]
    rfl
  · have quiet : State.Quiet (takeStarted s c tag i g) := hq
    rw [evaluated hr, enterGating_of_waits record (gate.trans hp) hw, finish_of_quiet quiet]
    rfl
  · rw [evaluated hr, enterGating_of_fails record (gate.trans hp) hw]
    rfl

end Sys2Proof.Settled
end

section
/-! SUPPORT. PASS, and the offer a PASS or a RETURN starts (R33, R34). -/

namespace Sys2Proof.Machine

/-! ### PASS and the offer of a loader (R33, R34) -/

theorem firstFailing_passChecks (s : State) (i : Slot) (c m : ChairId) : firstFailing (passChecks i c m s) = passRefusal s i c m := by
  simp [firstFailing_eq_firstRefusal, passChecks, passRefusal, State.available, State.isPresent, Entry.heldBy, bne]

@[simp] theorem passRefusal_heardFrom (s : State) (i : Slot) (c d m : ChairId) :
    passRefusal (s.heardFrom d) i c m = passRefusal s i c m := by
  simp [passRefusal]

/-- Refusals of which none holds give no code, and the other way round. -/
theorem firstRefusal_eq_none_iff (l : List (Bool × Code)) : firstRefusal l = none ↔ ∀ p ∈ l, p.1 = false := by
  induction l with
  | nil => simp [firstRefusal]
  | cons p l ih => obtain ⟨_ | _, code⟩ := p <;> simp [firstRefusal, ih]

/-- A chair passes its loader to another chair. -/
theorem ne_of_passRefusal_eq_none {s : State} {i : Slot} {c m : ChairId} (h : passRefusal s i c m = none) : m ≠ c := by
  simpa using (firstRefusal_eq_none_iff _).1 h (m == c, .self) (by simp)

theorem offerNotice_of_status {s : State} {i : Slot} {ls : LoaderStatus} (hs : (s.entry i).status = some ls) (kind : HandoverKind)
    (origin : OfferOrigin) : offerNotice i kind origin s = .offer i (s.unitNumber i) ls.zone ls.phase kind origin := by
  simp [offerNotice, hs]
  rfl

/-- The creation of a record in OFFERING and its OFFER notice: the entry has the record, and the target is OFFERED and is sent the notice. -/
theorem startHandover_notify_offer {s : State} {i : Slot} {h : Handover} {m : ChairId} {ls : LoaderStatus} (ht : h.target = .chair m)
    (hp : h.phase = .offering) (hc : h.callAttached = false) (hs : (s.entry i).status = some ls) (kind : HandoverKind)
    (origin : OfferOrigin) :
    (startHandover i h s).notify (.chair m) (offerNotice i kind origin (startHandover i h s)) =
      (s.setEntry i { s.entry i with handover := some h }).setChair m
        (({ s.chair m with state := .offered } : Chair).queued (.notice (.offer i (s.unitNumber i) ls.zone ls.phase kind origin))) := by
  have started : startHandover i h s =
      (s.setEntry i { s.entry i with handover := some h }).setChair m { s.chair m with state := .offered } := by
    rw [startHandover_eq, ht, withRecord_of_noCall i s hc]
    simp [hp]
  rw [started, offerNotice_of_status (ls := ls) (by simpa using hs), State.notify, send_chair_of_online _ (by simp)]
  simp [State.unitNumber]

/-- The offer of a loader to another chair: the record in OFFERING, the request slot of the holder occupied, the target OFFERED and sent
the OFFER notice. -/
theorem startOffer_heardFrom {s : State} {c m : ChairId} (hm : m ≠ c) (tag : Tag) (kind : RequestKind) (hk : HandoverKind) (i : Slot)
    (g : Option Gate) {ls : LoaderStatus} (hs : (s.entry i).status = some ls) :
    startOffer ⟨.chair c, tag⟩ kind hk c m i g (s.heardFrom c) =
      ((s.setEntry i
          { s.entry i with
            handover := some (newRecord hk (some (.chair c)) (.chair m) .offering g (some c) false s.policy) }).setChair c
        { s.chair c with
          port := { (s.chair c).port.heard with outstanding := some { kind := kind, tag := tag, slot := i } } }).setChair m
        (({ s.chair m with state := .offered } : Chair).queued
          (.notice (.offer i (s.unitNumber i) ls.zone ls.phase hk (.chair c)))) := by
  unfold startOffer
  rw [occupySlot_heardFrom]
  dsimp only
  rw [startHandover_notify_offer rfl rfl rfl (by simpa using hs), State.chair_setChair_of_ne _ _ hm.symm]
  rfl

section
variable {s : State} {c m : ChairId} {tag : Tag} {slot target : Byte} {gate : Option GateIn} {g : Option Gate} {i : Slot}

theorem exec_pass_of_refusal (hq : s.Quiet) (ht : s.Takes c) (hi : slotOf slot = some i) (hm : chairOf target = some m)
    (hg : requestGate gate = some g) {code : Code} (hr : passRefusal s i c m = some code) :
    exec (.pass ⟨.chair c, tag⟩ slot target gate) s =
      .next (s.setChair c ((s.chair c).replied { kind := .pass, tag := tag, code := code, content := .slot slot })) := by
  refine congrArg Host.Outcome.next ((event_withGate hq ht tag rfl hi hg _).trans ?_)
  rw [hm]
  dsimp only
  rw [firstFailing_passChecks, passRefusal_heardFrom, hr]
  exact finish_reply_heardFrom hq ht ..

theorem exec_pass_of_passes (hq : s.Quiet) (ht : s.Takes c) (hi : slotOf slot = some i) (hm : chairOf target = some m)
    (hg : requestGate gate = some g) (hr : passRefusal s i c m = none) :
    exec (.pass ⟨.chair c, tag⟩ slot target gate) s =
      .next (finish (startOffer ⟨.chair c, tag⟩ .pass .pass c m i g (s.heardFrom c))) := by
  refine congrArg Host.Outcome.next ((event_withGate hq ht tag rfl hi hg _).trans ?_)
  rw [hm]
  dsimp only
  rw [firstFailing_passChecks, passRefusal_heardFrom, hr]

end

end Sys2Proof.Machine

namespace Sys2Proof.Settled

open Sys2Proof.Machine

/-- Settles O20: the refusals, and the offer, which leaves the dispatcher's flag clear. -/
theorem passRequest : Obligations.PassRequest := by
  intro s c m tag slot target gate g i hq ht hi hm hg
  refine ⟨fun code hr => exec_pass_of_refusal hq ht hi hm hg hr, fun ls hs hr => ?_⟩
  rw [exec_pass_of_passes hq ht hi hm hg hr, startOffer_heardFrom (ne_of_passRefusal_eq_none hr) tag .pass .pass i g hs,
    finish_of_quiet (by exact hq)]
  rfl

end Sys2Proof.Settled
end

section
/-! SUPPORT. RESUME, and the handover to the loader's autonomy that it and a RETURN start (R34, R35). -/

namespace Sys2Proof.Machine

/-! ### Handovers to AUTO (R34, R35, R44, R45) -/

/-- The end of an event runs the dispatcher if it is due. -/
theorem finish_setDue (s : State) (b : Bool) (hq : s.Quiet) : finish { s with dispatchDue := b } = ranIf b s := by
  have quiet : ({ s with dispatchDue := false } : State) = s := by rw [← show s.dispatchDue = false from hq]
  cases b
  · exact quiet
  · exact congrArg runDispatcher quiet

/-- The return of a chair to READY or IDLE and then the answer to its request. -/
theorem settleChair_answerOutstanding (s : State) (c : ChairId) (code : Code) :
    (s.settleChair c).answerOutstanding c code =
      { s.setChair c ((s.chair c).settled.answered code) with dispatchDue := (s.chair c).latch || s.dispatchDue } := by
  have chair (b : Bool) (x : Chair) : ({ s.setChair c x with dispatchDue := b } : State).chair c = x := s.chair_setChair_self c x
  rw [settleChair_eq_setChair, answerOutstanding_eq_setChair, chair]
  simp [State.setChair]

/-- A transfer from a chair that asked for it to AUTO: the entry as R44 gives it, the call gone, and the chair READY or IDLE with its
answer. -/
theorem transfer_toAuto {h : Handover} {c : ChairId} (i : Slot) (s : State) (hs : h.source = some (.chair c)) (ht : h.target = .auto)
    (hr : h.requester = some c) :
    transfer i h s =
      { (({ s with calls := s.calls.filter (fun k => k.slot ≠ i) } : State).setEntry i (entryAfter h s.policy (s.entry i))).setChair c
          ((s.chair c).settled.answered .done) with
        dispatchDue := (s.chair c).latch || s.dispatchDue } := by
  have removed : (s.modEntry i (entryAfter h s.policy)).removeCall i =
      ({ s with calls := s.calls.filter (fun k => k.slot ≠ i) } : State).setEntry i (entryAfter h s.policy (s.entry i)) := by
    simp only [State.removeCall, State.modEntry, State.setEntry, bne, beq_eq_decide, ne_eq, decide_not]
  unfold transfer
  dsimp only
  rw [removed, hs, ht, hr]
  exact settleChair_answerOutstanding _ c .done

/-- The state in which a handover to AUTO that passed its checks has its record and its gate is not yet evaluated. -/
def toAutoStarted (s : State) (c : ChairId) (tag : Tag) (kind : RequestKind) (i : Slot) (h : Handover) : State :=
  (s.setEntry i { s.entry i with handover := some h }).setChair c
    { s.chair c with port := { (s.chair c).port.heard with outstanding := some { kind := kind, tag := tag, slot := i } } }

theorem startToAuto_heardFrom (s : State) (c : ChairId) (tag : Tag) (kind : RequestKind) (hk : HandoverKind) (i : Slot)
    (g : Option Gate) :
    startToAuto ⟨.chair c, tag⟩ kind hk c i g (s.heardFrom c) =
      enterGating i (toAutoStarted s c tag kind i (newRecord hk (some (.chair c)) .auto .gating g (some c) false s.policy)) := by
  unfold startToAuto
  rw [occupySlot_heardFrom]
  dsimp only
  rw [startHandover_eq]
  exact congrArg (enterGating i) (withRecord_of_noCall i _ rfl)

theorem toAutoStarted_chair (s : State) (c : ChairId) (tag : Tag) (kind : RequestKind) (i : Slot) (h : Handover) :
    (toAutoStarted s c tag kind i h).chair c =
      { s.chair c with port := { (s.chair c).port.heard with outstanding := some { kind := kind, tag := tag, slot := i } } } :=
  State.chair_setChair_self ..

theorem toAutoStarted_entry (s : State) (c : ChairId) (tag : Tag) (kind : RequestKind) (i : Slot) (h : Handover) :
    (toAutoStarted s c tag kind i h).entry i = { s.entry i with handover := some h } :=
  State.entry_setEntry_self ..

theorem toAutoStarted_policy (s : State) (c : ChairId) (tag : Tag) (kind : RequestKind) (i : Slot) (h : Handover) :
    (toAutoStarted s c tag kind i h).policy = s.policy := rfl

/-- What a handover to AUTO wrote at its start is gone when the entry and the chair are written again. -/
theorem toAutoStarted_overwritten (s : State) (c : ChairId) (tag : Tag) (kind : RequestKind) (i : Slot) (h : Handover)
    (calls : List Call) (e : Entry) (x : Chair) :
    (({ toAutoStarted s c tag kind i h with calls := calls } : State).setEntry i e).setChair c x =
      (({ s with calls := calls } : State).setEntry i e).setChair c x := by
  show ((((({ s with calls := calls } : State).setEntry i _).setChair c _).setEntry i e).setChair c x) = _
  rw [State.setChair_setEntry, State.setEntry_setEntry, State.setChair_setChair]

theorem toAutoStarted_handover (s : State) (c : ChairId) (tag : Tag) (kind : RequestKind) (i : Slot) (h : Handover) :
    ((toAutoStarted s c tag kind i h).entry i).handover = some h := by
  rw [toAutoStarted_entry]

theorem gatePasses_toAutoStarted (s : State) (c : ChairId) (tag : Tag) (kind : RequestKind) (i : Slot) (h k : Handover) :
    gatePasses i k (toAutoStarted s c tag kind i h) = gatePasses i k s := by
  unfold toAutoStarted
  rw [gatePasses_setChair, gatePasses_setEntry] <;> rfl

/-! ### RESUME (R35) -/

theorem heldBy_iff (e : Entry) (c : ChairId) : e.heldBy c = true ↔ e.state = .held ∧ e.holder = some (.chair c) := by
  simp [Entry.heldBy]

theorem firstFailing_holderChecks_of_record {s : State} {i : Slot} (c : ChairId) (h : (s.entry i).handover ≠ none) :
    firstFailing (holderChecks i c s) = some .handoverPending := by
  simp [firstFailing, holderChecks, h]

theorem firstFailing_holderChecks_of_notHolder {s : State} {i : Slot} {c : ChairId} (h : (s.entry i).handover = none)
    (hh : (s.entry i).heldBy c = false) : firstFailing (holderChecks i c s) = some .notHolder := by
  simp [firstFailing, holderChecks, h, hh]

theorem firstFailing_holderChecks_of_holder {s : State} {i : Slot} {c : ChairId} (h : (s.entry i).handover = none)
    (hh : (s.entry i).heldBy c = true) : firstFailing (holderChecks i c s) = none := by
  simp [firstFailing, holderChecks, h, hh]

section
variable {s : State} {c : ChairId} {tag : Tag} {slot : Byte} {gate : Option GateIn} {g : Option Gate} {i : Slot}

theorem exec_resume_of_refusal (hq : s.Quiet) (ht : s.Takes c) (hi : slotOf slot = some i) (hg : requestGate gate = some g) {code : Code}
    (hr : firstFailing (holderChecks i c s) = some code) :
    exec (.resume ⟨.chair c, tag⟩ slot gate) s =
      .next (s.setChair c ((s.chair c).replied { kind := .resume, tag := tag, code := code, content := .slot slot })) := by
  refine congrArg Host.Outcome.next ((event_withGate hq ht tag rfl hi hg _).trans ?_)
  rw [show firstFailing (holderChecks i c (s.heardFrom c)) = some code from hr]
  exact finish_reply_heardFrom hq ht ..

theorem exec_resume_of_passes (hq : s.Quiet) (ht : s.Takes c) (hi : slotOf slot = some i) (hg : requestGate gate = some g)
    (hr : firstFailing (holderChecks i c s) = none) :
    exec (.resume ⟨.chair c, tag⟩ slot gate) s =
      .next (finish (enterGating i (toAutoStarted s c tag .resume i (resumeRecord s c g)))) := by
  refine congrArg Host.Outcome.next ((event_withGate hq ht tag rfl hi hg _).trans ?_)
  rw [show firstFailing (holderChecks i c (s.heardFrom c)) = none from hr]
  exact congrArg finish (startToAuto_heardFrom s c tag .resume .resume i g)

/-- The transfer of a RESUME: the entry AUTO with the chair pushed, and the chair READY or IDLE with its DONE. -/
theorem finish_transfer_resume (hq : s.Quiet) (ht : s.Takes c) (hi : slotOf slot = some i) (hn : (s.entry i).handover = none) :
    finish (transfer i (resumeRecord s c g) (toAutoStarted s c tag .resume i (resumeRecord s c g))) =
      ranIf (s.chair c).latch
        ((({ s with calls := s.calls.filter (fun k => k.slot ≠ i) } : State).setEntry i
          { s.entry i with
            state := .auto, holder := some .auto, ramp := none, zoneDrop := false
            stack := pushStack (.chair c) (s.entry i).stack }).setChair c
          ((s.chair c).settled.replied { kind := .resume, tag := tag, code := .done, content := .slot slot })) := by
  obtain ⟨_, free⟩ := ht
  have done (x : Chair) (hx : x.port.outstanding = none) :
      ({ x with port := { x.port.heard with outstanding := some { kind := .resume, tag := tag, slot := i } } } : Chair).settled.answered
        .done = x.settled.replied { kind := .resume, tag := tag, code := .done, content := .slot slot } := by
    rw [Chair.answered_of_outstanding .done (Chair.settled_state_ne_offline _) rfl, slotByte_of_slotOf hi]
    simp [Chair.queued, Chair.replied, Chair.settled, PortRegs.heard, hx]
  have entry : entryAfter (resumeRecord s c g) s.policy { s.entry i with handover := some (resumeRecord s c g) } =
      { s.entry i with
        state := .auto, holder := some .auto, ramp := none, zoneDrop := false
        stack := pushStack (.chair c) (s.entry i).stack } := by
    simp [entryAfter, resumeRecord, stackAfter, rampAfter, hn]
  have due : (toAutoStarted s c tag .resume i (resumeRecord s c g)).dispatchDue = false := hq
  rw [transfer_toAuto i _ rfl rfl rfl, finish_setDue _ _ (by exact hq), toAutoStarted_overwritten, due, Bool.or_false, toAutoStarted_chair,
    toAutoStarted_entry, toAutoStarted_policy, done _ free, entry]
  rfl

end

end Sys2Proof.Machine

namespace Sys2Proof.Settled

open Sys2Proof.Machine

/-- Settles O22: the two refusals, and the three outcomes of the evaluation at the record's entry into GATING. -/
theorem resumeRequest : Obligations.ResumeRequest := by
  intro s c tag slot gate g i hq ht hi hg
  refine ⟨fun hn => ?_, fun hn hh => ?_, fun hn hh => ?_⟩
  · exact exec_resume_of_refusal hq ht hi hg (firstFailing_holderChecks_of_record c hn)
  · exact exec_resume_of_refusal hq ht hi hg
      (firstFailing_holderChecks_of_notHolder hn (by simpa only [← heldBy_iff, Bool.not_eq_true] using hh))
  have evaluated := exec_resume_of_passes (tag := tag) hq ht hi hg (firstFailing_holderChecks_of_holder hn ((heldBy_iff _ c).2 hh))
  have record := toAutoStarted_handover s c tag .resume i (resumeRecord s c g)
  have gate := gatePasses_toAutoStarted s c tag .resume i (resumeRecord s c g) (resumeRecord s c g)
  refine ⟨fun hp => ?_, fun hp hw => ?_, fun hp hw => ?_⟩
  · rw [evaluated, enterGating_of_passes record (gate.trans hp), finish_transfer_resume hq ht hi hn]
    rfl
  · rw [evaluated, enterGating_of_waits record (gate.trans hp) hw, finish_of_quiet (by exact hq)]
    rfl
  · rw [evaluated, enterGating_of_fails record (gate.trans hp) hw]
    rfl

end Sys2Proof.Settled
end

section
/-! SUPPORT. ACCEPT and DECLINE of an offer (R39, R40). -/

namespace Sys2Proof.Machine

/-! ### The chairs of an abandonment (R46) -/

theorem answerOutstanding_state (s : State) (c d : ChairId) (code : Code) :
    ((s.answerOutstanding c code).chair d).state = (s.chair d).state := by
  rw [answerOutstanding_eq_setChair, State.chair_setChair]
  split
  · next h => subst h; simp
  · rfl

theorem notifyTarget_state (i : Slot) (h : Handover) (cause : Code) (s : State) (d : ChairId) :
    ((notifyTarget i h cause s).chair d).state = (s.chair d).state := by
  have sent (t : ChairId) (n : Notice) : ((s.notify (.chair t) n).chair d).state = (s.chair d).state := by
    rw [State.notify, chair_send_chair]
    split <;> rfl
  unfold notifyTarget
  split
  · rfl
  · split
    · rfl
    · split <;> exact sent _ _

/-- The chair target of an abandoned handover is READY or IDLE, and so online. -/
theorem abandon_target_online {s : State} {i : Slot} {h : Handover} {t : ChairId} (cause : Code) (hh : (s.entry i).handover = some h)
    (ht : h.target = .chair t) : ((abandon i cause s).chair t).state ≠ .offline := by
  have settled (u : State) : ((u.settleChair t).chair t).state ≠ .offline := by
    rw [chair_settleChair, if_pos rfl]
    exact Chair.settled_state_ne_offline _
  have answered (u : State) : ((match h.requester with
      | some r => u.answerOutstanding r cause
      | none => u).chair t).state = (u.chair t).state := by
    cases h.requester with
    | none => rfl
    | some r => exact answerOutstanding_state u r t cause
  unfold abandon
  rw [hh]
  dsimp only
  rw [notifyTarget_state, ht]
  exact (answered _).trans_ne (settled _)

/-! ### The offer of slot `i` to chair `c` -/

theorem offeredTo_of_offer {s : State} {i : Slot} {c : ChairId} {h : Handover} (hh : (s.entry i).handover = some h)
    (hp : h.phase = .offering) (ht : h.target = .chair c) : offeredTo i c s = true := by
  simp [offeredTo, hh, hp, ht]

theorem offeredTo_of_noOffer {s : State} {i : Slot} {c : ChairId}
    (hn : ∀ h, (s.entry i).handover = some h → ¬ (h.phase = .offering ∧ h.target = .chair c)) : offeredTo i c s = false := by
  unfold offeredTo
  split
  · next h hh => simpa using hn h hh
  · rfl

/-- The record of an accepted offer (R39). -/
def Handover.accepted (h : Handover) (pol : Policy) : Handover := { h with phase := .gating, deadline := pol.gateTimeout }

theorem moveToGating_of_handover {s : State} {i : Slot} {h : Handover} (hh : (s.entry i).handover = some h) :
    moveToGating i s = s.setEntry i { s.entry i with handover := some (h.accepted s.policy) } := by
  simp [moveToGating, State.modEntry, hh, Handover.accepted]

/-- The state in which an ACCEPT is answered and its gate is not yet evaluated. -/
def acceptStarted (s : State) (c : ChairId) (i : Slot) (h : Handover) (a : Answer) : State :=
  (s.setEntry i { s.entry i with handover := some (h.accepted s.policy) }).setChair c
    (({ s.chair c with state := .engaging } : Chair).replied a)

theorem acceptStarted_handover (s : State) (c : ChairId) (i : Slot) (h : Handover) (a : Answer) :
    ((acceptStarted s c i h a).entry i).handover = some (h.accepted s.policy) := by
  simp [acceptStarted]

theorem gatePasses_acceptStarted (s : State) (c : ChairId) (i : Slot) (h k : Handover) (a : Answer) :
    gatePasses i k (acceptStarted s c i h a) = gatePasses i k s := by
  unfold acceptStarted
  rw [gatePasses_setChair, gatePasses_setEntry] <;> rfl

section
variable {s : State} {c : ChairId} {tag : Tag} {slot : Byte} {i : Slot} {h : Handover}

theorem exec_accept_of_offer (hq : s.Quiet) (ht : s.Takes c) (hi : slotOf slot = some i) (hh : (s.entry i).handover = some h)
    (ho : offeredTo i c s = true) :
    exec (.accept ⟨.chair c, tag⟩ slot) s =
      .next (finish (enterGating i (acceptStarted s c i h { kind := .accept, tag := tag, code := .done, content := .slot slot }))) := by
  have answered : reply ⟨.chair c, tag⟩ .accept .done (.slot slot) ((moveToGating i (s.heardFrom c)).setChairState c .engaging) =
      acceptStarted s c i h { kind := .accept, tag := tag, code := .done, content := .slot slot } := by
    rw [moveToGating_of_handover (s := s.heardFrom c) hh, State.setChairState, State.modChair,
      reply_chair_of_online (by simp)]
    simp [acceptStarted, State.heardFrom, State.setChair_setEntry, Chair.queued, Chair.replied]
  refine congrArg Host.Outcome.next ((event_withSlot hq ht tag rfl hi _).trans (congrArg finish ?_))
  rw [if_pos (by exact ho), answered]

theorem exec_decline_of_offer (hq : s.Quiet) (ht : s.Takes c) (hi : slotOf slot = some i) (hh : (s.entry i).handover = some h)
    (hp : h.phase = .offering) (htarget : h.target = .chair c) :
    exec (.decline ⟨.chair c, tag⟩ slot) s =
      .next (finish ((abandon i .declined (s.heardFrom c)).setChair c (((abandon i .declined (s.heardFrom c)).chair c).queued
        (.answer { kind := .decline, tag := tag, code := .done, content := .slot slot })))) := by
  have offered : offeredTo i c (s.heardFrom c) = true := offeredTo_of_offer hh hp htarget
  refine congrArg Host.Outcome.next ((event_withSlot hq ht tag rfl hi _).trans (congrArg finish ?_))
  rw [if_pos offered]
  exact reply_chair_of_online (abandon_target_online (s := s.heardFrom c) .declined hh htarget) ..

theorem exec_accept_of_noOffer (hq : s.Quiet) (ht : s.Takes c) (hi : slotOf slot = some i) (hn : offeredTo i c s = false) :
    exec (.accept ⟨.chair c, tag⟩ slot) s =
      .next (s.setChair c ((s.chair c).replied { kind := .accept, tag := tag, code := .noOffer, content := .slot slot })) := by
  refine congrArg Host.Outcome.next ((event_withSlot hq ht tag rfl hi _).trans ?_)
  rw [if_neg (by simpa using (show offeredTo i c (s.heardFrom c) = false from hn))]
  exact finish_reply_heardFrom hq ht ..

theorem exec_decline_of_noOffer (hq : s.Quiet) (ht : s.Takes c) (hi : slotOf slot = some i) (hn : offeredTo i c s = false) :
    exec (.decline ⟨.chair c, tag⟩ slot) s =
      .next (s.setChair c ((s.chair c).replied { kind := .decline, tag := tag, code := .noOffer, content := .slot slot })) := by
  refine congrArg Host.Outcome.next ((event_withSlot hq ht tag rfl hi _).trans ?_)
  rw [if_neg (by simpa using (show offeredTo i c (s.heardFrom c) = false from hn))]
  exact finish_reply_heardFrom hq ht ..

end

end Sys2Proof.Machine

namespace Sys2Proof.Settled

open Sys2Proof.Machine

/-- Settles O23: the three outcomes of an ACCEPT's evaluation, the abandonment of a DECLINE, and NO_OFFER. -/
theorem acceptAndDecline : Obligations.AcceptAndDecline := by
  intro s c tag slot i hq ht hi
  refine ⟨fun h hh hp htarget => ?_, fun hn => ?_⟩
  · have evaluated := exec_accept_of_offer (tag := tag) hq ht hi hh (offeredTo_of_offer hh hp htarget)
    have record := acceptStarted_handover s c i h { kind := .accept, tag := tag, code := .done, content := .slot slot }
    have gate := gatePasses_acceptStarted s c i h (h.accepted s.policy) { kind := .accept, tag := tag, code := .done, content := .slot slot }
    refine ⟨fun hp => ?_, fun hp hw => ?_, fun hp hw => ?_, exec_decline_of_offer hq ht hi hh hp htarget⟩
    · rw [evaluated, enterGating_of_passes record (gate.trans hp)]
      rfl
    · rw [evaluated, enterGating_of_waits record (gate.trans hp) hw, finish_of_quiet (by exact hq)]
      rfl
    · rw [evaluated, enterGating_of_fails record (gate.trans hp) hw]
      rfl
  · have noOffer := offeredTo_of_noOffer hn
    exact ⟨exec_accept_of_noOffer hq ht hi noOffer, exec_decline_of_noOffer hq ht hi noOffer⟩

end Sys2Proof.Settled
end

section
/-! SUPPORT. The frames CALL and CLEAR of a bound unit: what becomes of the call queue, of the entry's record and of the ignored-call
counter (R58 to R62). -/

namespace Sys2Proof.Machine

/-- A fleet frame of a bound unit is an event of its slot (R154). -/
theorem event_fromUnit {s : State} {u : UnitNumber} {i : Slot} (hq : s.Quiet) (hu : s.slotOfUnit u = some i)
    (act : Slot → State → State) :
    event (fromUnit u act) s = finish (act i s) := by
  have quiet : ({ s with dispatchDue := false } : State) = s := by rw [← show s.dispatchDue = false from hq]
  simp [event, quiet, fromUnit, hu]

/-- The end of an event that called for the dispatcher runs it. -/
theorem finish_due {s : State} (hq : s.Quiet) : finish s.due = runDispatcher s := finish_setDue s true hq

/-- The call found for a slot is a call of that slot. -/
theorem slot_of_findCall {s : State} {i : Slot} {k : Call} (hk : s.findCall i = some k) : k.slot = i := by
  simpa using List.find?_some hk

/-- The calls of the other slots, as the model and as the statements select them. -/
theorem slot_bne (i : Slot) : (fun d : Call => d.slot != i) = fun d => decide (d.slot ≠ i) := by
  funext d
  rw [Bool.eq_iff_iff]
  simp

theorem removeCall_eq (s : State) (i : Slot) : s.removeCall i = { s with calls := s.calls.filter fun d => d.slot ≠ i } := by
  rw [State.removeCall, slot_bne]

/-- A call joins behind every call of a class served no later than its own (R58). -/
theorem insertCall_eq_append (k : Call) (q : List Call) :
    insertCall k q =
      q.takeWhile (fun d => callClass d.reason ≤ callClass k.reason) ++ k ::
        q.dropWhile (fun d => callClass d.reason ≤ callClass k.reason) := by
  induction q with
  | nil => rfl
  | cons d q ih =>
    by_cases h : callClass k.reason < callClass d.reason
    · simp [insertCall, h]
    · simp [insertCall, h, Nat.not_lt.1 h, ih]

/-! ### What CALL does to a loader in AUTO (R59, R60) -/

theorem createCall_of_noRecord {s : State} {i : Slot} (r : CallReason) (hn : (s.entry i).handover = none) :
    createCall i r s =
      State.due { s with calls := insertCall { slot := i, reason := r, reserved := false, declined := 0#6, unserved := 0 } s.calls } := by
  simp [createCall, hn]

theorem createCall_of_record {s : State} {i : Slot} {h : Handover} (r : CallReason) (hh : (s.entry i).handover = some h) :
    createCall i r s =
      ({ s with calls := insertCall { slot := i, reason := r, reserved := true, declined := 0#6, unserved := 0 } s.calls } : State).setEntry i
        { s.entry i with handover := some { h with callAttached := true } } := by
  have record (q : List Call) : ({ s with calls := q } : State).entry i = s.entry i := rfl
  simp [createCall, hh, State.modEntry, record]

/-- A raised call runs the dispatcher if it is unreserved. -/
theorem finish_raiseCall {s : State} {k : Call} {r : CallReason} (hq : s.Quiet) (hr : callClass r < callClass k.reason) :
    finish (raiseCall k r s) =
      ranIf (!k.reserved) { s with calls := insertCall { k with reason := r } (s.calls.filter fun d => d.slot ≠ k.slot) } := by
  rw [raiseCall, if_pos hr, slot_bne]
  cases hk : k.reserved with
  | true => exact finish_of_quiet hq
  | false => exact finish_due hq

theorem raiseCall_of_notHigher {s : State} {k : Call} {r : CallReason} (hr : callClass k.reason ≤ callClass r) : raiseCall k r s = s := by
  simp [raiseCall, Nat.not_lt.2 hr]

/-- An ignored frame is counted up to 255 (R62). -/
theorem ignoreCall_eq (i : Slot) (s : State) :
    ignoreCall i s = s.setIgnored i (if s.ignoredCalls i < 255 then s.ignoredCalls i + 1 else 255) := by
  unfold ignoreCall
  congr 1
  split <;> omega

/-! ### The two frames by the loader's state and call -/

section
variable {s : State} {u : UnitNumber} {i : Slot}

theorem exec_call_of_noCall (hq : s.Quiet) (hu : s.slotOfUnit u = some i) (ha : (s.entry i).state = .auto) (hk : s.findCall i = none)
    (r : CallReason) : exec (.call u r) s = .next (finish (createCall i r s)) := by
  refine congrArg Host.Outcome.next ((event_fromUnit hq hu _).trans ?_)
  rw [if_pos ha, hk]

theorem exec_call_of_call (hq : s.Quiet) (hu : s.slotOfUnit u = some i) (ha : (s.entry i).state = .auto) {k : Call}
    (hk : s.findCall i = some k) (r : CallReason) : exec (.call u r) s = .next (finish (raiseCall k r s)) := by
  refine congrArg Host.Outcome.next ((event_fromUnit hq hu _).trans ?_)
  rw [if_pos ha, hk]

theorem exec_callClear_of_noCall (hq : s.Quiet) (hu : s.slotOfUnit u = some i) (ha : (s.entry i).state = .auto)
    (hk : s.findCall i = none) : exec (.callClear u) s = .next s := by
  refine congrArg Host.Outcome.next ((event_fromUnit hq hu _).trans ?_)
  rw [if_pos ha, hk]
  exact finish_of_quiet hq

theorem exec_callClear_of_call (hq : s.Quiet) (hu : s.slotOfUnit u = some i) (ha : (s.entry i).state = .auto) {k : Call}
    (hk : s.findCall i = some k) :
    exec (.callClear u) s =
      .next (finish (if k.reserved then abandon i .callCleared (s.removeCall i) else s.removeCall i)) := by
  refine congrArg Host.Outcome.next ((event_fromUnit hq hu _).trans ?_)
  rw [if_pos ha, hk]

/-- Outside AUTO both frames are ignored and counted (R62). -/
theorem exec_callFrames_of_notAuto (hq : s.Quiet) (hu : s.slotOfUnit u = some i) (ha : (s.entry i).state ≠ .auto) (r : CallReason) :
    exec (.call u r) s = .next (ignoreCall i s) ∧ exec (.callClear u) s = .next (ignoreCall i s) := by
  constructor
  all_goals
    refine congrArg Host.Outcome.next ((event_fromUnit hq hu _).trans ?_)
    rw [if_neg ha]
    exact finish_of_quiet hq

end

end Sys2Proof.Machine

namespace Sys2Proof.Settled

open Sys2Proof.Machine

/-- Settles O36: CALL by the loader's state, call and record, CLEAR by its state and call, and the place of a call in its queue. -/
theorem callFramesAreTaken : Obligations.CallFramesAreTaken := by
  refine ⟨fun s u i r hq hu => ⟨fun ha hk hn => ?_, fun ha hk h hh => ?_, fun ha k hk => ⟨fun hr => ?_, fun hr => ?_⟩, fun ha => ?_,
    exec_callClear_of_noCall hq hu, fun ha k hk => ⟨fun hf => ?_, fun ht => ?_⟩⟩, insertCall_eq_append⟩
  · rw [exec_call_of_noCall hq hu ha hk, createCall_of_noRecord r hn, finish_due (by exact hq)]
  · rw [exec_call_of_noCall hq hu ha hk, createCall_of_record r hh, finish_of_quiet (by exact hq)]
  · rw [exec_call_of_call hq hu ha hk, finish_raiseCall hq hr, slot_of_findCall hk]
  · rw [exec_call_of_call hq hu ha hk, raiseCall_of_notHigher hr, finish_of_quiet hq]
  · rw [← ignoreCall_eq]
    exact exec_callFrames_of_notAuto hq hu ha r
  · rw [exec_callClear_of_call hq hu ha hk, removeCall_eq, if_neg (by simp [hf]), finish_of_quiet (by exact hq)]
  · rw [exec_callClear_of_call hq hu ha hk, removeCall_eq, if_pos ht]

end Sys2Proof.Settled
end

section
/-! SUPPORT. One visit of the dispatcher: the saturation test, the chair chosen, and the offer (R66 to R70). -/

namespace Sys2Proof.Machine

/-! ### The saturation test (R70) -/

/-- A declined set is saturated when it is not empty and holds every chair that is not OFFLINE and is allowed in the loader's zone. -/
theorem saturated_iff {s : State} {k : Call} {ls : LoaderStatus} (hs : (s.entry k.slot).status = some ls) :
    saturated k s = true ↔
      k.declined ≠ 0#6 ∧
        ∀ c, (s.chair c).state ≠ .offline → hasChair (s.zone ls.zone).allowed c = true → hasChair k.declined c = true := by
  simp [saturated, allChairs, State.online, State.allowedAt, Entry.zone?, hs, or_iff_not_imp_left]

/-- A change of a slot's calls that keeps their slot changes the call found for it. -/
theorem findCall_modCall {s : State} {i : Slot} {f : Call → Call} (hf : ∀ d, (f d).slot = d.slot) :
    (s.modCall i f).findCall i = (s.findCall i).map f := by
  unfold State.findCall State.modCall
  induction s.calls with
  | nil => rfl
  | cons d q ih =>
    by_cases hd : d.slot = i
    · simp [hd, hf]
    · simpa [hd] using ih

/-- A call as the saturation test of its visit leaves it. -/
def Call.tested (s : State) (k : Call) : Call :=
  if saturated k s then { k with declined := 0#6, unserved := min 255 (k.unserved + 1) } else k

@[simp] theorem Call.tested_slot (s : State) (k : Call) : (k.tested s).slot = k.slot := by
  unfold Call.tested
  split <;> rfl

@[simp] theorem Call.tested_reason (s : State) (k : Call) : (k.tested s).reason = k.reason := by
  unfold Call.tested
  split <;> rfl

theorem Call.tested_declined (s : State) (k : Call) : (k.tested s).declined = if saturated k s then 0#6 else k.declined := by
  unfold Call.tested
  split <;> rfl

/-- A saturated set is emptied and counted, and the service link is told UNSERVED. -/
theorem testSaturation_of_saturated {s : State} {k : Call} {ls : LoaderStatus} (hf : saturated k s = true)
    (hs : (s.entry k.slot).status = some ls) :
    testSaturation k s =
      (s.modCall k.slot fun d => { d with declined := 0#6, unserved := min 255 (k.unserved + 1) }).told
        (.unserved k.slot k.reason ls.zone (min 255 (k.unserved + 1))) := by
  simp only [testSaturation, if_pos hf, Entry.zone?, hs, Option.map_some, Option.getD_some]
  rfl

theorem testSaturation_of_unsaturated {s : State} {k : Call} (hf : saturated k s = false) : testSaturation k s = s := by
  simp [testSaturation, hf]

/-- The call that the visit finds after the saturation test. -/
theorem findCall_testSaturation {s : State} {i : Slot} {k : Call} (hk : s.findCall i = some k) :
    (testSaturation k s).findCall i = some (k.tested s) := by
  obtain rfl := slot_of_findCall hk
  unfold testSaturation Call.tested
  split
  · have sent (u : State) (n : Notice) : (u.notify .service n).findCall k.slot = u.findCall k.slot :=
      congrArg (List.find? _) (send_table .service _ u).2.1
    rw [sent, findCall_modCall, hk]
    · rfl
    · exact fun _ => rfl
  · exact hk

/-! ### What the saturation test leaves alone -/

/-- The saturation test changes calls of the queue and the service port alone. -/
theorem testSaturation_frame (k : Call) (s : State) :
    (testSaturation k s).entries = s.entries ∧ (testSaturation k s).chairs = s.chairs ∧ (testSaturation k s).pointer = s.pointer := by
  unfold testSaturation
  split
  · exact ⟨(send_table .service _ _).1, State.chairs_eq_of_chair fun d => chair_send_service _ d _, (send_table .service _ _).2.2⟩
  · exact ⟨rfl, rfl, rfl⟩

@[simp] theorem entry_testSaturation (k : Call) (s : State) (i : Slot) : (testSaturation k s).entry i = s.entry i := by
  rw [State.entry, (testSaturation_frame k s).1]
  rfl

@[simp] theorem chair_testSaturation (k : Call) (s : State) (c : ChairId) : (testSaturation k s).chair c = s.chair c := by
  rw [State.chair, (testSaturation_frame k s).2.1]
  rfl

@[simp] theorem pointer_testSaturation (k : Call) (s : State) : (testSaturation k s).pointer = s.pointer := (testSaturation_frame k s).2.2

@[simp] theorem policy_testSaturation (k : Call) (s : State) : (testSaturation k s).policy = s.policy := (testSaturation_elsewhere k s).2.1

@[simp] theorem zone_testSaturation (k : Call) (s : State) (z : ZoneId) : (testSaturation k s).zone z = s.zone z := by
  rw [State.zone, (testSaturation_elsewhere k s).1]
  rfl

@[simp] theorem unitNumber_testSaturation (k : Call) (s : State) (i : Slot) : (testSaturation k s).unitNumber i = s.unitNumber i := by
  rw [State.unitNumber, State.binding, (testSaturation_elsewhere k s).2.2.1]
  rfl

/-! ### The chair chosen (R66, R67) -/

theorem eligible_of_status {s : State} {k : Call} {ls : LoaderStatus} (hs : (s.entry k.slot).status = some ls) (c : ChairId) :
    eligible k c s =
      ((s.chair c).state == .ready && (s.chair c).presence == .present && hasChair (s.zone ls.zone).allowed c &&
        !hasChair k.declined c) := by
  simp [eligible, State.isPresent, State.allowedAt, Entry.zone?, hs]

/-- The saturation test changes no chair's eligibility for a call. -/
@[simp] theorem chooseChair_testSaturation (k d : Call) (s : State) : chooseChair k (testSaturation d s) = chooseChair k s := by
  simp [chooseChair, eligible, State.isPresent, State.allowedAt]

theorem chooseChair_eq_none {s : State} {k : Call} (h : ∀ c, eligible k c s = false) : chooseChair k s = none := by
  simp [chooseChair, h]

/-- The first eligible chair in cyclic order from the pointer is chosen. -/
theorem chooseChair_of_first {s : State} {k : Call} {m : ChairId} (hm : eligible k (s.pointer + m) s = true)
    (first : ∀ b, b < m → eligible k (s.pointer + b) s = false) : chooseChair k s = some (s.pointer + m) := by
  refine List.find?_eq_some_iff_getElem.2 ⟨hm, m.val, by simp [cyclicFrom, allChairs], by simp [cyclicFrom, allChairs], fun j hj => ?_⟩
  simpa [cyclicFrom, allChairs] using first ⟨j, by omega⟩ hj

/-! ### The offer (R68) -/

/-- The creation of a record in OFFERING and its OFFER notice, whether or not a call is attached to the record. -/
theorem startHandover_notify_offer_withRecord {s : State} {i : Slot} {h : Handover} {c : ChairId} {ls : LoaderStatus}
    (ht : h.target = .chair c) (hp : h.phase = .offering) (hs : (s.entry i).status = some ls) (kind : HandoverKind)
    (origin : OfferOrigin) :
    (startHandover i h s).notify (.chair c) (offerNotice i kind origin (startHandover i h s)) =
      (s.withRecord i h).setChair c
        (({ s.chair c with state := .offered } : Chair).queued (.notice (.offer i (s.unitNumber i) ls.zone ls.phase kind origin))) := by
  have started : startHandover i h s = (s.withRecord i h).setChair c { s.chair c with state := .offered } := by
    simp [startHandover_eq, ht, hp]
  rw [started, offerNotice_of_status (ls := ls) (by simpa [State.withRecord] using hs), State.notify, send_chair_of_online _ (by simp)]
  simp [State.unitNumber, State.withRecord, State.binding]

/-- The dispatcher's offer: the CLAIM record with the call reserved, the chair OFFERED with its notice, and the pointer past it. -/
theorem offerCall_eq {s : State} {k : Call} {ls : LoaderStatus} (hs : (s.entry k.slot).status = some ls) (c : ChairId) :
    offerCall k c s =
      (({ s with
          pointer := c + 1
          calls := s.calls.map fun d => if d.slot = k.slot then { d with reserved := true } else d } : State).setEntry k.slot
        { s.entry k.slot with
          handover := some (newRecord .claim (some .auto) (.chair c) .offering none none true s.policy) }).setChair c
        (({ s.chair c with state := .offered } : Chair).queued
          (.notice (.offer k.slot (s.unitNumber k.slot) ls.zone ls.phase .claim (.call k.reason)))) := by
  unfold offerCall
  dsimp only
  rw [startHandover_notify_offer_withRecord rfl rfl hs]
  rfl

/-! ### The visit (R66) -/

section
variable {s : State} {i : Slot} {k : Call}

theorem visitCall_of_reserved (hk : s.findCall i = some k) (hr : k.reserved = true) : visitCall s i = s := by
  simp [visitCall, hk, hr]

theorem visitCall_of_noChair (hk : s.findCall i = some k) (hr : k.reserved = false) (hn : (s.entry i).handover = none)
    (hc : chooseChair (k.tested s) s = none) : visitCall s i = testSaturation k s := by
  simp [visitCall, hk, hr, hn, findCall_testSaturation hk, hc]

theorem visitCall_of_chair (hk : s.findCall i = some k) (hr : k.reserved = false) (hn : (s.entry i).handover = none) {c : ChairId}
    (hc : chooseChair (k.tested s) s = some c) : visitCall s i = offerCall (k.tested s) c (testSaturation k s) := by
  simp [visitCall, hk, hr, hn, findCall_testSaturation hk, hc]

end

/-- The dispatcher ends an event only if the event called for it (R65). -/
theorem finish_eq_ranIf (s : State) : finish s = ranIf s.dispatchDue { s with dispatchDue := false } := by
  unfold finish ranIf
  split
  · rfl
  · next h => rw [← Bool.eq_false_iff.2 h]

end Sys2Proof.Machine

namespace Sys2Proof.Settled

open Sys2Proof.Machine

/-- Settles O45: the visit by the saturation of the declined set and the chair chosen, the walk, and the event's end. -/
theorem dispatcherVisits : Obligations.DispatcherVisits := by
  refine ⟨fun s i k => visitCall_of_reserved, fun s i k ls hk hr hn hs => ?_, fun _ => rfl, finish_eq_ranIf⟩
  intro allowed full n s₁ declined fit
  obtain rfl := slot_of_findCall hk
  have saturation : saturated k s = true ↔ full := saturated_iff hs
  have count : min 255 (k.unserved + 1) = n := by
    simp only [n]
    split <;> omega
  have tested : testSaturation k s = s₁ := by
    by_cases hf : full
    · simp only [s₁, if_pos hf, testSaturation_of_saturated (saturation.2 hf) hs, count, State.modCall, beq_iff_eq]
    · simp only [s₁, if_neg hf, testSaturation_of_unsaturated (Bool.eq_false_iff.2 (mt saturation.1 hf))]
  have fits (c : ChairId) : eligible (k.tested s) c s = fit c := by
    rw [eligible_of_status (by simpa using hs), Call.tested_declined]
    simp only [saturation, fit, declined, allowed]
  refine ⟨fun none_fits => ?_, fun m fits_m first => ?_⟩
  · rw [visitCall_of_noChair hk hr hn (chooseChair_eq_none fun c => (fits c).trans (none_fits c)), tested]
  · have chosen := chooseChair_of_first ((fits _).trans fits_m) fun b hb => (fits _).trans (first b hb)
    rw [visitCall_of_chair hk hr hn chosen, offerCall_eq (ls := ls) (by simpa using hs), ← tested]
    simp only [Call.tested_slot, Call.tested_reason, entry_testSaturation, chair_testSaturation, policy_testSaturation,
      unitNumber_testSaturation]
    rfl

end Sys2Proof.Settled
end

section
/-! SUPPORT. The laws of the authority table and the closed-zone law taken one slot at a time, and the operations of the part that
leave a slot no more than it had: they keep both laws. -/

namespace Sys2Proof.Machine

/-! ### The laws at one slot -/

/-- A discovery context with no stage, no outstanding read and no answer timer (R134). -/
abbrev Context.Idle (x : Context) : Prop := x.stage = none ∧ x.read = none ∧ x.answerTimer = none

/-- The slots of the loaders that have a call. -/
abbrev State.callers (s : State) : List Slot := s.calls.map (·.slot)

/-- The laws of the authority table at one slot (R2, R4, R58, R134, R149). -/
structure State.SlotFits (s : State) (i : Slot) : Prop where
  holder : (s.entry i).holderFits = true
  record : (s.entry i).handover ≠ none → (s.entry i).state.carries = true
  caller : i ∈ s.callers → (s.entry i).state = .auto
  idle : (s.entry i).state ≠ .discovering → (s.context i).Idle
  forget : (s.entry i).state ≠ .linkLost → (s.fleetSlot i).forget = none

/-- The laws of the authority table and the closed-zone law at one slot. -/
abbrev State.LawfulAt (s : State) (i : Slot) : Prop := s.SlotFits i ∧ s.zoneFits i = true

/-- The laws of the authority table and the closed-zone law. -/
structure State.Lawful (s : State) : Prop where
  slot : ∀ i, s.LawfulAt i

/-- Lawful but for the zone of the loader of slot `i`, as between a new zone record or loader status and its effects. -/
abbrev State.LawfulBut (s : State) (i : Slot) : Prop := s.SlotFits i ∧ ∀ j ≠ i, s.LawfulAt j

theorem authorityLaw_iff (s : State) : s.AuthorityLaw ↔ ∀ i, s.SlotFits i := by
  constructor
  · rintro ⟨holder, record, caller, discovery, forget⟩ i
    refine ⟨holder i, record i, fun hi => ?_, fun hi => ?_, fun hi => not_not.1 (mt (forget i) hi)⟩
    · obtain ⟨k, hk, rfl⟩ := List.mem_map.1 hi
      exact caller k hk
    · simpa only [not_or, not_not] using mt (discovery i) hi
  · intro h
    refine ⟨fun i => (h i).holder, fun i => (h i).record, fun k hk => (h k.slot).caller (List.mem_map_of_mem hk), fun i hi => ?_,
      fun i => not_imp_comm.1 (h i).forget⟩
    by_contra hn
    obtain ⟨stage, read, timer⟩ := (h i).idle hn
    exact hi.elim (· stage) (·.elim (· read) (· timer))

theorem lawful_iff (s : State) : s.Lawful ↔ s.AuthorityLaw ∧ s.ClosedZoneLaw := by
  rw [authorityLaw_iff, ← forall_and]
  exact ⟨fun h => h.slot, fun h => ⟨h⟩⟩

theorem State.Lawful.but {s : State} (hs : s.Lawful) (i : Slot) : s.LawfulBut i := ⟨(hs.slot i).1, fun j _ => hs.slot j⟩

/-- An entry suits its loader's zone: OPEN where it may carry a record, CLOSED where it is LOCKED (R126). -/
theorem zoneFits_iff (s : State) (i : Slot) :
    s.zoneFits i = true ↔ ∀ z, (s.entry i).zone? = some z →
      ((s.entry i).state.carries = true → (s.zone z).state = .opened) ∧
        ((s.entry i).state = .locked → (s.zone z).state = .closed) := by
  unfold State.zoneFits
  cases (s.entry i).zone? with
  | none => simp
  | some z => cases (s.entry i).state <;> simp [EntryState.carries]

/-- Whether an entry suits its zone turns on its state, its loader's zone and the zone plan. -/
theorem zoneFits_congr {s t : State} {i : Slot} (state : (t.entry i).state = (s.entry i).state)
    (zone? : (t.entry i).zone? = (s.entry i).zone?) (zones : t.zones = s.zones) (h : s.zoneFits i = true) : t.zoneFits i = true := by
  rw [zoneFits_iff] at h ⊢
  simpa only [state, zone?, State.zone, zones] using h

/-- An entry in a state that no zone rules out suits its zone. -/
theorem zoneFits_of_other {s : State} {i : Slot} (hc : (s.entry i).state.carries = false) (hl : (s.entry i).state ≠ .locked) :
    s.zoneFits i = true :=
  (zoneFits_iff s i).2 fun _ _ => ⟨fun h => absurd h (by simp [hc]), fun h => absurd h hl⟩

/-- A loader without authority over it: no holder, no record, and neither HELD nor AUTO. -/
structure Entry.Vacated (e : Entry) : Prop where
  holder : e.holder = none
  handover : e.handover = none
  ne_held : e.state ≠ .held
  ne_auto : e.state ≠ .auto

theorem vacate_vacated {st : EntryState} {e : Entry} (hn : e.handover = none) (hh : st ≠ .held) (ha : st ≠ .auto) :
    (e.vacate st).Vacated := ⟨rfl, hn, hh, ha⟩

theorem blank_vacated {st : EntryState} (hh : st ≠ .held) (ha : st ≠ .auto) : (Entry.blank st).Vacated := ⟨rfl, rfl, hh, ha⟩

theorem Entry.Vacated.holderFits {e : Entry} (h : e.Vacated) : e.holderFits = true := by
  obtain ⟨holder, -, ne_held, ne_auto⟩ := h
  unfold Entry.holderFits
  rw [holder]
  cases hs : e.state <;> simp_all

/-- A slot whose loader no party has authority over and no call names. -/
theorem slotFits_of_vacated {s : State} {i : Slot} (he : (s.entry i).Vacated) (hc : i ∉ s.callers)
    (hx : (s.entry i).state ≠ .discovering → (s.context i).Idle)
    (hf : (s.entry i).state ≠ .linkLost → (s.fleetSlot i).forget = none) : s.SlotFits i where
  holder := he.holderFits
  record h := absurd he.handover h
  caller h := absurd h hc
  idle := hx
  forget := hf

namespace State.SlotFits
variable {s : State} {i : Slot}

theorem not_called (h : s.SlotFits i) (ha : (s.entry i).state ≠ .auto) : i ∉ s.callers := mt h.caller ha

theorem no_record (h : s.SlotFits i) (hc : (s.entry i).state.carries = false) : (s.entry i).handover = none :=
  not_not.1 (mt h.record (by simp [hc]))

theorem discovering_of_stage (h : s.SlotFits i) {st : Stage} (hx : (s.context i).stage = some st) : (s.entry i).state = .discovering := by
  by_contra hn
  simp [(h.idle hn).1] at hx

theorem discovering_of_read (h : s.SlotFits i) {r : Read} (hx : (s.context i).read = some r) : (s.entry i).state = .discovering := by
  by_contra hn
  simp [(h.idle hn).2.1] at hx

theorem discovering_of_answerTimer (h : s.SlotFits i) (hx : (s.context i).answerTimer.isSome = true) :
    (s.entry i).state = .discovering := by
  by_contra hn
  simp [(h.idle hn).2.2] at hx

theorem linkLost_of_forget (h : s.SlotFits i) (hf : (s.fleetSlot i).forget.isSome = true) : (s.entry i).state = .linkLost := by
  by_contra hn
  simp [h.forget hn] at hf

theorem idle_of_carries (h : s.SlotFits i) (hc : (s.entry i).state.carries = true) : (s.context i).Idle :=
  h.idle fun hd => by simp [hd, EntryState.carries] at hc

theorem forget_of_carries (h : s.SlotFits i) (hc : (s.entry i).state.carries = true) : (s.fleetSlot i).forget = none :=
  h.forget fun hd => by simp [hd, EntryState.carries] at hc

end State.SlotFits

/-! ### Operations that leave a slot no more than it had -/

/-- Between `s` and `t` slot `j` keeps its entry's state, holder and status, its context, its forget timer and the zones, and gains
neither a record nor a call. -/
structure EasesAt (s t : State) (j : Slot) : Prop where
  state : (t.entry j).state = (s.entry j).state
  holder : (t.entry j).holder = (s.entry j).holder
  status : (t.entry j).status = (s.entry j).status
  record : (t.entry j).handover ≠ none → (s.entry j).handover ≠ none
  caller : j ∈ t.callers → j ∈ s.callers
  context : t.context j = s.context j
  forget : (t.fleetSlot j).forget = (s.fleetSlot j).forget
  zones : t.zones = s.zones

theorem EasesAt.trans {s t u : State} {j : Slot} (h : EasesAt s t j) (k : EasesAt t u j) : EasesAt s u j where
  state := k.state.trans h.state
  holder := k.holder.trans h.holder
  status := k.status.trans h.status
  record := h.record ∘ k.record
  caller := h.caller ∘ k.caller
  context := k.context.trans h.context
  forget := k.forget.trans h.forget
  zones := k.zones.trans h.zones

theorem EasesAt.slotFits {s t : State} {j : Slot} (h : EasesAt s t j) (hs : s.SlotFits j) : t.SlotFits j where
  holder := by
    unfold Entry.holderFits
    rw [h.state, h.holder]
    exact hs.holder
  record hr := h.state ▸ hs.record (h.record hr)
  caller hc := h.state.trans (hs.caller (h.caller hc))
  idle hd := h.context ▸ hs.idle (h.state ▸ hd)
  forget hl := h.forget.trans (hs.forget (h.state ▸ hl))

theorem EasesAt.zone? {s t : State} {j : Slot} (h : EasesAt s t j) : (t.entry j).zone? = (s.entry j).zone? := by
  rw [Entry.zone?, h.status, Entry.zone?]

theorem EasesAt.zoneFits {s t : State} {j : Slot} (h : EasesAt s t j) (hs : s.zoneFits j = true) : t.zoneFits j = true :=
  zoneFits_congr h.state h.zone? h.zones hs

theorem EasesAt.lawfulAt {s t : State} {j : Slot} (h : EasesAt s t j) (hs : s.LawfulAt j) : t.LawfulAt j :=
  ⟨h.slotFits hs.1, h.zoneFits hs.2⟩

/-- What leaves the entries, the calls, the zones, the contexts and the fleet port's items as they were. -/
theorem easesAt_of_tables {s t : State} (entries : t.entries = s.entries) (calls : t.calls = s.calls) (zones : t.zones = s.zones)
    (contexts : t.contexts = s.contexts) (fleet : t.fleet = s.fleet) (j : Slot) : EasesAt s t j := by
  constructor <;> simp only [State.entry, State.callers, State.context, State.fleetSlot, *] <;> exact id

theorem EasesAt.refl (s : State) (j : Slot) : EasesAt s s j := easesAt_of_tables rfl rfl rfl rfl rfl j

/-- What writes chairs, ports, the policy or the transmit queues alone. -/
theorem easesAt_of_same {s t : State} (table : SameTable s t) (elsewhere : SameElsewhere s t) (j : Slot) : EasesAt s t j :=
  have ⟨entries, calls, _⟩ := table
  have ⟨zones, _, _, contexts, _, fleet, _⟩ := elsewhere
  easesAt_of_tables entries calls zones contexts fleet j

/-- What leaves an entry as it was, gives its slot no call and touches nothing elsewhere. -/
theorem easesAt_of_entry {s t : State} {j : Slot} (entry : t.entry j = s.entry j) (caller : j ∈ t.callers → j ∈ s.callers)
    (elsewhere : SameElsewhere s t) : EasesAt s t j :=
  { easesAt_of_same (t := { t with entries := s.entries, calls := s.calls, pointer := s.pointer }) (.refl s) elsewhere j with
    state := by rw [entry]
    holder := by rw [entry]
    status := by rw [entry]
    record := by rw [entry]; exact id
    caller := caller }

theorem State.Lawful.of_eases {s t : State} (hs : s.Lawful) (h : ∀ j, EasesAt s t j) : t.Lawful :=
  ⟨fun j => (h j).lawfulAt (hs.slot j)⟩

theorem State.Lawful.of_same {s t : State} (hs : s.Lawful) (table : SameTable s t) (elsewhere : SameElsewhere s t) : t.Lawful :=
  hs.of_eases (easesAt_of_same table elsewhere)

/-- Chairs, ports, the pointer, the policy, the bindings, the counters, the fleet queue and the inputs are no part of the laws. -/
theorem State.Lawful.of_tables {s t : State} (hs : s.Lawful) (entries : t.entries = s.entries) (calls : t.calls = s.calls)
    (zones : t.zones = s.zones) (contexts : t.contexts = s.contexts) (fleet : t.fleet = s.fleet) : t.Lawful :=
  hs.of_eases (easesAt_of_tables entries calls zones contexts fleet)

/-- An operation on slot `i` that leaves the others alone keeps the laws if it leaves them at slot `i`. -/
theorem State.LawfulBut.lawful {s t : State} {i : Slot} (hs : s.LawfulBut i) (others : ∀ j ≠ i, EasesAt s t j) (own : t.LawfulAt i) :
    t.Lawful := by
  refine ⟨fun j => ?_⟩
  by_cases h : j = i
  · exact h ▸ own
  · exact (others j h).lawfulAt (hs.2 j h)

theorem State.LawfulBut.of_eases {s t : State} {i : Slot} (hs : s.LawfulBut i) (h : ∀ j, EasesAt s t j) : t.LawfulBut i :=
  ⟨(h i).slotFits hs.1, fun j hj => (h j).lawfulAt (hs.2 j hj)⟩

/-! ### The fleet transmit queue -/

theorem fleetQueue_easesAt (s : State) (q : List FleetFrame) (j : Slot) : EasesAt s { s with fleetQueue := q } j :=
  easesAt_of_tables (s := s) (t := { s with fleetQueue := q }) rfl rfl rfl rfl rfl j

theorem queueCommand_easesAt (s : State) (i : Slot) (mode : Mode) (payload : List Byte) (j : Slot) :
    EasesAt s (s.queueCommand i mode payload) j := fleetQueue_easesAt s _ j

theorem queueRestart_easesAt (s : State) (i j : Slot) : EasesAt s (s.queueRestart i) j := fleetQueue_easesAt s _ j
theorem queueRead_easesAt (s : State) (i : Slot) (r : Read) (j : Slot) : EasesAt s (s.queueRead i r) j := fleetQueue_easesAt s _ j
theorem withdrawCommand_easesAt (s : State) (i j : Slot) : EasesAt s (s.withdrawCommand i) j := fleetQueue_easesAt s _ j
theorem withdrawAnyCommand_easesAt (s : State) (i j : Slot) : EasesAt s (s.withdrawAnyCommand i) j := fleetQueue_easesAt s _ j
theorem withdrawRead_easesAt (s : State) (i j : Slot) : EasesAt s (s.withdrawRead i) j := fleetQueue_easesAt s _ j

/-! ### Writes of one slot's records -/

theorem setEntry_easesAt_of_ne (s : State) {i j : Slot} (e : Entry) (h : j ≠ i) : EasesAt s (s.setEntry i e) j := by
  have entry := State.entry_setEntry_of_ne s e h.symm
  exact ⟨by rw [entry], by rw [entry], by rw [entry], by rw [entry]; exact id, id, rfl, rfl, rfl⟩

theorem setContext_easesAt_of_ne (s : State) {i j : Slot} (x : Context) (h : j ≠ i) : EasesAt s (s.setContext i x) j :=
  { EasesAt.refl s j with context := State.context_setContext_of_ne s x h.symm }

theorem setFleetSlot_easesAt_of_ne (s : State) {i j : Slot} (x : FleetSlot) (h : j ≠ i) : EasesAt s (s.setFleetSlot i x) j :=
  { EasesAt.refl s j with forget := by rw [State.fleetSlot_setFleetSlot_of_ne s x h.symm] }

/-- A write of an entry's other fields, which places no record, leaves every slot no more than it had. -/
theorem modEntry_easesAt {s : State} {i : Slot} {f : Entry → Entry} (state : (f (s.entry i)).state = (s.entry i).state)
    (holder : (f (s.entry i)).holder = (s.entry i).holder) (status : (f (s.entry i)).status = (s.entry i).status)
    (record : (f (s.entry i)).handover ≠ none → (s.entry i).handover ≠ none) (j : Slot) : EasesAt s (s.modEntry i f) j := by
  by_cases h : j = i
  · subst h
    have entry : (s.modEntry j f).entry j = f (s.entry j) := State.entry_setEntry_self ..
    exact ⟨by rw [entry, state], by rw [entry, holder], by rw [entry, status], by rw [entry]; exact record, id, rfl, rfl, rfl⟩
  · exact setEntry_easesAt_of_ne s _ h

/-- A write of the fleet port's items of a slot that keeps its forget timer. -/
theorem modFleetSlot_easesAt {s : State} {i : Slot} {f : FleetSlot → FleetSlot} (h : (f (s.fleetSlot i)).forget = (s.fleetSlot i).forget)
    (j : Slot) : EasesAt s (s.modFleetSlot i f) j := by
  by_cases hj : j = i
  · subst hj
    exact { EasesAt.refl s j with forget := by rw [State.modFleetSlot, State.fleetSlot_setFleetSlot_self, h] }
  · exact setFleetSlot_easesAt_of_ne s _ hj

/-- A forget timer stopped, or started for a loader in LINK_LOST. -/
theorem modFleetSlot_slotFits {s : State} {i : Slot} (hs : s.SlotFits i) {f : FleetSlot → FleetSlot}
    (hf : (s.entry i).state ≠ .linkLost → (f (s.fleetSlot i)).forget = none) : (s.modFleetSlot i f).SlotFits i :=
  { hs with forget := fun hl => by rw [State.modFleetSlot, State.fleetSlot_setFleetSlot_self]; exact hf hl }

theorem modFleetSlot_lawful {s : State} (hs : s.Lawful) {i : Slot} {f : FleetSlot → FleetSlot}
    (hf : (s.entry i).state ≠ .linkLost → (f (s.fleetSlot i)).forget = none) : (s.modFleetSlot i f).Lawful :=
  (hs.but i).lawful (fun _ => setFleetSlot_easesAt_of_ne s _) ⟨modFleetSlot_slotFits (hs.slot i).1 hf, (hs.slot i).2⟩

/-- The context of a loader in DISCOVERING may be any. -/
theorem setContext_lawful {s : State} (hs : s.Lawful) {i : Slot} (hd : (s.entry i).state = .discovering) (x : Context) :
    (s.setContext i x).Lawful :=
  (hs.but i).lawful (fun _ => setContext_easesAt_of_ne s x)
    ⟨{ (hs.slot i).1 with idle := fun hn => absurd hd hn }, (hs.slot i).2⟩

/-! ### The call queue -/

theorem callers_modCall (s : State) (i : Slot) {f : Call → Call} (hf : ∀ k, (f k).slot = k.slot) :
    (s.modCall i f).callers = s.callers := by
  simp only [State.callers, State.modCall, List.map_map]
  refine List.map_congr_left fun k _ => ?_
  simp only [Function.comp_apply]
  split
  · exact hf k
  · rfl

theorem mem_callers_removeCall {s : State} {i j : Slot} : j ∈ (s.removeCall i).callers ↔ j ∈ s.callers ∧ j ≠ i := by
  simp only [State.callers, State.removeCall, List.mem_map, List.mem_filter, bne_iff_ne]
  constructor
  · rintro ⟨k, ⟨hk, hne⟩, rfl⟩
    exact ⟨⟨k, hk, rfl⟩, hne⟩
  · rintro ⟨⟨k, hk, rfl⟩, hne⟩
    exact ⟨k, ⟨hk, hne⟩, rfl⟩

theorem modCall_easesAt (s : State) (i : Slot) {f : Call → Call} (hf : ∀ k, (f k).slot = k.slot) (j : Slot) :
    EasesAt s (s.modCall i f) j :=
  easesAt_of_entry rfl (by rw [callers_modCall s i hf]; exact id) (modCall_elsewhere i f s)

theorem removeCall_easesAt (s : State) (i j : Slot) : EasesAt s (s.removeCall i) j :=
  easesAt_of_entry rfl (fun h => (mem_callers_removeCall.1 h).1) (removeCall_elsewhere i s)

theorem mem_callers_of_findCall {s : State} {i : Slot} {k : Call} (hk : s.findCall i = some k) : k.slot ∈ s.callers :=
  List.mem_map_of_mem (List.mem_of_find?_eq_some hk)

/-- A call that joins the queue for a loader in AUTO keeps the laws. -/
theorem insertCall_lawful {s : State} (hs : s.Lawful) {k : Call} (ha : (s.entry k.slot).state = .auto) :
    ({ s with calls := insertCall k s.calls } : State).Lawful := by
  refine ⟨fun j => ⟨{ (hs.slot j).1 with caller := fun hj => ?_ }, (hs.slot j).2⟩⟩
  have split : j = k.slot ∨ j ∈ s.callers := by
    simpa [State.callers, (insertCall_perm k s.calls).mem_iff, eq_comm] using hj
  rcases split with rfl | h
  · exact ha
  · exact (hs.slot j).1.caller h

end Sys2Proof.Machine
end

section
/-! SUPPORT. The closed-zone law under the shared operations: an abandonment, an entry's leaving authority, a transfer, a handover's
start and a run of the dispatcher. -/

namespace Sys2Proof.Machine

/-! ### Chairs, ports and abandonments -/

theorem due_easesAt (s : State) (j : Slot) : EasesAt s s.due j := easesAt_of_tables (s := s) (t := s.due) rfl rfl rfl rfl rfl j

theorem settleChair_easesAt (c : ChairId) (s : State) (j : Slot) : EasesAt s (s.settleChair c) j :=
  easesAt_of_same (settleChair_table c s) (settleChair_elsewhere c s) j

theorem answerOutstanding_easesAt (c : ChairId) (code : Code) (s : State) (j : Slot) : EasesAt s (s.answerOutstanding c code) j :=
  easesAt_of_same (answerOutstanding_table c code s) (answerOutstanding_elsewhere c code s) j

theorem notify_easesAt (p : Port) (n : Notice) (s : State) (j : Slot) : EasesAt s (s.notify p n) j :=
  easesAt_of_same (send_table p _ s) (notify_elsewhere p n s) j

theorem raise_easesAt (p : Port) (f : Sticky) (s : State) (j : Slot) : EasesAt s (s.raise p f) j :=
  easesAt_of_same (modPort_table p _ s) (raise_elsewhere p f s) j

theorem releaseCall_easesAt (i : Slot) (h : Handover) (cause : Code) (s : State) (j : Slot) :
    EasesAt s (releaseCall i h cause s) j := by
  refine .trans (modCall_easesAt s i ?_ j) (due_easesAt _ j)
  exact fun _ => rfl

/-- An abandonment takes a record away and gives no slot anything. -/
theorem abandon_easesAt (i : Slot) (cause : Code) (s : State) (j : Slot) : EasesAt s (abandon i cause s) j := by
  unfold abandon
  split
  · exact .refl s j
  next h _ =>
  have cleared : EasesAt s (s.modEntry i fun e => { e with handover := none }) j :=
    modEntry_easesAt rfl rfl rfl (fun hn => absurd rfl hn) j
  have released (u : State) : EasesAt u (if h.callAttached && cause.releasesCall then releaseCall i h cause u else u) j := by
    split
    · exact releaseCall_easesAt i h cause u j
    · exact .refl u j
  have settled (u : State) : EasesAt u (match h.target with
      | .chair t => u.settleChair t
      | .auto => u) j := by
    split
    · exact settleChair_easesAt _ u j
    · exact .refl u j
  have answered (u : State) : EasesAt u (match h.requester with
      | some r => u.answerOutstanding r cause
      | none => u) j := by
    split
    · exact answerOutstanding_easesAt _ cause u j
    · exact .refl u j
  have told (u : State) : EasesAt u (notifyTarget i h cause u) j :=
    easesAt_of_same (notifyTarget_table i h cause u) (notifyTarget_elsewhere i h cause u) j
  exact cleared.trans ((released _).trans ((settled _).trans ((answered _).trans (told _))))

theorem abandon_lawful {s : State} (hs : s.Lawful) (i : Slot) (cause : Code) : (abandon i cause s).Lawful :=
  hs.of_eases (abandon_easesAt i cause s)

/-! ### Zones of vacated entries -/

theorem zoneFits_of_opened {s : State} {i : Slot} (hl : (s.entry i).state ≠ .locked)
    (h : ∀ z, (s.entry i).zone? = some z → (s.zone z).state = .opened) : s.zoneFits i = true :=
  (zoneFits_iff s i).2 fun z hz => ⟨fun _ => h z hz, fun hn => absurd hn hl⟩

/-- The zone of a loader that may carry a record is OPEN. -/
theorem opened_of_zoneFits {s : State} {i : Slot} (h : s.zoneFits i = true) (hc : (s.entry i).state.carries = true) (z : ZoneId)
    (hz : (s.entry i).zone? = some z) : (s.zone z).state = .opened :=
  ((zoneFits_iff s i).1 h z hz).1 hc

/-! ### Leaving authority (R14) -/

theorem mem_callers_leave {i j : Slot} {cause : Code} {lost : Option Code} {f : Entry → Entry} {s : State}
    (hj : j ∈ (leave i cause lost f s).callers) : j ∈ s.callers ∧ ((s.entry i).state = .auto → j ≠ i) := by
  have released (u : State) : (releaseHolder i (s.entry i) lost u).callers = u.callers :=
    congrArg (List.map (·.slot)) (releaseHolder_table i (s.entry i) lost u).2.1
  unfold leave at hj
  dsimp only at hj
  split at hj
  next ha =>
    obtain ⟨hj, hne⟩ := mem_callers_removeCall.1 hj
    rw [released] at hj
    exact ⟨(abandon_easesAt i cause s j).caller hj, fun _ => hne⟩
  next ha =>
    rw [released] at hj
    exact ⟨(abandon_easesAt i cause s j).caller hj, fun h => absurd h ha⟩

theorem leave_easesAt_of_ne (i : Slot) (cause : Code) (lost : Option Code) (f : Entry → Entry) (s : State) {j : Slot} (h : j ≠ i) :
    EasesAt s (leave i cause lost f s) j :=
  easesAt_of_entry (by rw [leave_entry, if_neg h.symm]) (fun hj => (mem_callers_leave hj).1) (leave_elsewhere i cause lost f s)

/-- A loader that leaves authority has no call afterwards. -/
theorem not_mem_callers_leave {s : State} {i : Slot} (hs : s.SlotFits i) (cause : Code) (lost : Option Code) (f : Entry → Entry) :
    i ∉ (leave i cause lost f s).callers := fun hi =>
  have ⟨called, gone⟩ := mem_callers_leave hi
  gone (hs.caller called) rfl

/-- What an event that leaves authority writes of its own entry, by the kind of write: the state, no holder, the record and the status. -/
structure Entry.VacatesTo (st : EntryState) (f : Entry → Entry) : Prop where
  state : ∀ e, (f e).state = st
  holder : ∀ e, (f e).holder = none
  handover : ∀ e, (f e).handover = e.handover
  status : ∀ e, (f e).status = e.status

theorem vacate_vacatesTo (st : EntryState) : Entry.VacatesTo st (Entry.vacate st) :=
  ⟨fun _ => rfl, fun _ => rfl, fun _ => rfl, fun _ => rfl⟩

section
variable {s : State} {i : Slot} {st : EntryState} {f : Entry → Entry}

/-- An event that takes a loader out of authority meets the laws if its new state suits its context, its forget timer and its zone. -/
theorem leave_lawfulAt (hs : s.SlotFits i) (hv : Entry.VacatesTo st f) (hh : st ≠ .held) (ha : st ≠ .auto) (cause : Code)
    (lost : Option Code) (hx : st ≠ .discovering → (s.context i).Idle) (hf : st ≠ .linkLost → (s.fleetSlot i).forget = none)
    (hz : ∀ z, (s.entry i).zone? = some z →
      (st.carries = true → (s.zone z).state = .opened) ∧ (st = .locked → (s.zone z).state = .closed)) :
    (leave i cause lost f s).LawfulAt i := by
  have entry := leave_entry i i cause lost f s
  obtain ⟨zones, -, -, contexts, -, fleet, -⟩ := leave_elsewhere i cause lost f s
  rw [if_pos rfl] at entry
  refine ⟨slotFits_of_vacated ?_ (not_mem_callers_leave hs cause lost f) ?_ ?_, ?_⟩
  · rw [entry]
    exact ⟨hv.holder _, hv.handover _, by rwa [hv.state], by rwa [hv.state]⟩
  · rwa [entry, hv.state, State.context, contexts]
  · rwa [entry, hv.state, State.fleetSlot, fleet]
  · rw [zoneFits_iff, entry, hv.state]
    simpa only [State.zone, zones, Entry.zone?, hv.status] using hz

/-- A loader that leaves authority for FREE does so in an OPEN zone. -/
theorem leave_free_lawful (hs : s.Lawful) (hc : (s.entry i).state.carries = true) (hv : Entry.VacatesTo .free f) (cause : Code)
    (lost : Option Code) : (leave i cause lost f s).Lawful :=
  (hs.but i).lawful (fun j => leave_easesAt_of_ne i cause lost f s) <|
    leave_lawfulAt (hs.slot i).1 hv (by decide) (by decide) cause lost (fun _ => (hs.slot i).1.idle_of_carries hc)
      (fun _ => (hs.slot i).1.forget_of_carries hc)
      fun z hz => ⟨fun _ => opened_of_zoneFits (hs.slot i).2 hc z hz, fun h => absurd h (by decide)⟩

theorem dropHolder_lawful (hs : s.Lawful) (hh : (s.entry i).state = .held) (lost : Code) : (dropHolder i lost s).Lawful :=
  leave_free_lawful hs (by rw [hh]; rfl) (vacate_vacatesTo .free) _ _

/-- A lock makes up for a zone that has been found CLOSED. -/
theorem lock_lawfulAt (hs : s.SlotFits i) (hc : (s.entry i).state.carries = true)
    (hz : ∀ z, (s.entry i).zone? = some z → (s.zone z).state = .closed) : (lock i s).LawfulAt i :=
  leave_lawfulAt hs (vacate_vacatesTo .locked) (by decide) (by decide) _ _ (fun _ => hs.idle_of_carries hc)
    (fun _ => hs.forget_of_carries hc) fun z h => ⟨fun hn => absurd hn (by decide), fun _ => hz z h⟩

/-- An entry outside authority written in place, without a record and a call. -/
theorem modEntry_vacate_lawfulAt (hn : (s.entry i).handover = none) (hu : i ∉ s.callers) (hh : st ≠ .held)
    (ha : st ≠ .auto) (hx : st ≠ .discovering → (s.context i).Idle) (hf : st ≠ .linkLost → (s.fleetSlot i).forget = none)
    (hz : ∀ z, (s.entry i).zone? = some z →
      (st.carries = true → (s.zone z).state = .opened) ∧ (st = .locked → (s.zone z).state = .closed)) :
    (s.modEntry i (Entry.vacate st)).LawfulAt i := by
  have entry : (s.modEntry i (Entry.vacate st)).entry i = (s.entry i).vacate st := State.entry_setEntry_self ..
  refine ⟨slotFits_of_vacated ?_ hu ?_ ?_, ?_⟩
  · rw [entry]
    exact vacate_vacated hn hh ha
  · rwa [entry]
  · rwa [entry]
  · rwa [zoneFits_iff, entry]

/-- An unlock makes up for a zone that has been found OPEN. -/
theorem unlock_lawfulAt (hs : s.SlotFits i) (hl : (s.entry i).state = .locked)
    (hz : ∀ z, (s.entry i).zone? = some z → (s.zone z).state = .opened) : (unlock i s).LawfulAt i :=
  modEntry_vacate_lawfulAt (hs.no_record (by rw [hl]; rfl)) (hs.not_called (by simp [hl])) (by decide) (by decide)
    (fun _ => hs.idle (by simp [hl])) (fun _ => hs.forget (by simp [hl]))
    fun z h => ⟨fun _ => hz z h, fun hn => absurd hn (by decide)⟩

end

/-! ### Transfers and gates (R42 to R45) -/

theorem entryAfter_holderFits (h : Handover) (pol : Policy) (e : Entry) : (entryAfter h pol e).holderFits = true := by
  unfold entryAfter Entry.holderFits
  cases h.target <;> rfl

theorem entryAfter_carries (h : Handover) (pol : Policy) (e : Entry) : (entryAfter h pol e).state.carries = true := by
  unfold entryAfter
  cases h.target <;> rfl

/-- Beyond its entry and its call a transfer writes chairs and ports alone. -/
theorem transfer_table (i : Slot) (h : Handover) (s : State) :
    SameTable ((s.modEntry i (entryAfter h s.policy)).removeCall i) (transfer i h s) := by
  have driving (u : State) : SameTable u (match h.target with
      | .chair t => u.setChairState t .driving
      | .auto => u) := by split <;> exact .refl u
  have released (u : State) : SameTable u (match h.source with
      | some (.chair c) => u.settleChair c
      | _ => u) := by
    split
    · exact settleChair_table _ u
    · exact .refl u
  have answered (u : State) : SameTable u (match h.requester with
      | some r => u.answerOutstanding r .done
      | none => u) := by
    split
    · exact answerOutstanding_table _ _ u
    · exact .refl u
  have told (u : State) : SameTable u (match h.target with
      | .chair t => if h.requester = some t then u else u.notify (.chair t) (.holding i h.kind h.source)
      | .auto => u) := by
    split
    · split
      · exact .refl u
      · exact send_table _ _ u
    · exact .refl u
  exact (driving _).trans ((released _).trans ((answered _).trans (told _)))

/-- A transfer keeps the laws: the loader's zone is OPEN, since its entry may carry a record. -/
theorem transfer_lawful {s : State} (hs : s.Lawful) {i : Slot} (hc : (s.entry i).state.carries = true) (h : Handover) :
    (transfer i h s).Lawful := by
  have entry : ((s.modEntry i (entryAfter h s.policy)).removeCall i).entry i = entryAfter h s.policy (s.entry i) :=
    State.entry_setEntry_self ..
  have moved : ((s.modEntry i (entryAfter h s.policy)).removeCall i).Lawful := by
    refine (hs.but i).lawful (fun j hj => (setEntry_easesAt_of_ne s _ hj).trans (removeCall_easesAt _ i j)) ⟨?_, ?_⟩
    · exact
        { holder := by rw [entry]; exact entryAfter_holderFits ..
          record := fun _ => by rw [entry]; exact entryAfter_carries ..
          caller := fun hi => absurd rfl (mem_callers_removeCall.1 hi).2
          idle := fun _ => (hs.slot i).1.idle_of_carries hc
          forget := fun _ => (hs.slot i).1.forget_of_carries hc }
    · refine zoneFits_of_opened (fun hl => ?_) fun z hz => ?_
      · have carries := entryAfter_carries h s.policy (s.entry i)
        rw [← entry, hl] at carries
        exact absurd carries (by decide)
      · rw [entry] at hz
        exact opened_of_zoneFits (hs.slot i).2 hc z hz
  exact moved.of_same (transfer_table i h s) (transfer_elsewhere i h s)

theorem evaluateGate_lawful {s : State} (hs : s.Lawful) (i : Slot) : (evaluateGate i s).Lawful := by
  unfold evaluateGate
  split
  · exact hs
  next h hh =>
    split
    · exact hs
    · split
      · exact transfer_lawful hs ((hs.slot i).1.record (by simp [hh])) h
      · exact hs

theorem enterGating_lawful {s : State} (hs : s.Lawful) (i : Slot) : (enterGating i s).Lawful := by
  unfold enterGating
  split
  · exact hs
  next h hh =>
    split
    · exact transfer_lawful hs ((hs.slot i).1.record (by simp [hh])) h
    · split
      · exact hs
      · exact abandon_lawful hs i _

theorem evaluateTargeting_lawful {s : State} (hs : s.Lawful) (c : ChairId) : (evaluateTargeting c s).Lawful := by
  unfold evaluateTargeting
  split
  · exact hs
  · exact evaluateGate_lawful hs _

/-! ### Handovers that start, and the dispatcher -/

/-- A record placed in an entry that may carry one. -/
theorem setHandover_lawful {s : State} (hs : s.Lawful) {i : Slot} (hc : (s.entry i).state.carries = true) (h : Handover) :
    (s.modEntry i fun e => { e with handover := some h }).Lawful := by
  have entry : (s.modEntry i fun e => { e with handover := some h }).entry i = { s.entry i with handover := some h } :=
    State.entry_setEntry_self ..
  refine (hs.but i).lawful (fun j => setEntry_easesAt_of_ne s _) ⟨?_, ?_⟩
  · obtain ⟨holder, -, caller, idle, forget⟩ := (hs.slot i).1
    constructor <;> rw [entry]
    exacts [holder, fun _ => hc, caller, idle, forget]
  · rw [zoneFits_iff, entry]
    exact (zoneFits_iff s i).1 (hs.slot i).2

theorem startHandover_lawful {s : State} (hs : s.Lawful) {i : Slot} (hc : (s.entry i).state.carries = true) (h : Handover) :
    (startHandover i h s).Lawful := by
  have reserved {u : State} (hu : u.Lawful) :
      (if h.callAttached then u.modCall i fun c => { c with reserved := true } else u).Lawful := by
    split
    · exact hu.of_eases (modCall_easesAt u i fun _ => rfl)
    · exact hu
  unfold startHandover
  dsimp only
  split
  · exact reserved (setHandover_lawful hs hc h)
  · exact (reserved (setHandover_lawful hs hc h)).of_same (.refl _) (modChair_elsewhere ..)

theorem testSaturation_easesAt (k : Call) (s : State) (j : Slot) : EasesAt s (testSaturation k s) j := by
  unfold testSaturation
  split
  · refine .trans (modCall_easesAt s k.slot ?_ j) (notify_easesAt ..)
    exact fun _ => rfl
  · exact .refl s j

/-- The dispatcher offers only loaders in AUTO, which the callers are. -/
theorem visitCall_lawful {s : State} (hs : s.Lawful) (i : Slot) : (visitCall s i).Lawful := by
  unfold visitCall
  split
  · exact hs
  next k _ =>
    split
    · exact hs
    have tested : (testSaturation k s).Lawful := hs.of_eases (testSaturation_easesAt k s)
    dsimp only
    split
    · exact tested
    next d hd =>
      split
      · exact tested
      next c _ =>
        have auto : ((testSaturation k s).entry d.slot).state = .auto := (tested.slot _).1.caller (mem_callers_of_findCall hd)
        have started := startHandover_lawful tested (by rw [auto]; rfl)
          (newRecord .claim (some .auto) (.chair c) .offering none none true (testSaturation k s).policy)
        exact (started.of_eases (notify_easesAt (.chair c) _ _)).of_tables rfl rfl rfl rfl rfl

theorem foldl_visitCall_lawful (l : List Slot) {s : State} (hs : s.Lawful) : (l.foldl visitCall s).Lawful := by
  induction l generalizing s with
  | nil => exact hs
  | cons i l ih => exact ih (visitCall_lawful hs i)

theorem finish_lawful {s : State} (hs : s.Lawful) : (finish s).Lawful := by
  unfold finish
  split
  · exact foldl_visitCall_lawful _ (s := { s with dispatchDue := false }) (hs.of_tables rfl rfl rfl rfl rfl)
  · exact hs

/-- An operation that keeps the laws. -/
abbrev Preserves (f : State → State) : Prop := ∀ s : State, s.Lawful → (f s).Lawful

theorem event_lawful {f : State → State} (hf : Preserves f) : Preserves (event f) := fun _ hs =>
  finish_lawful (hf _ (hs.of_tables rfl rfl rfl rfl rfl))

end Sys2Proof.Machine
end

section
/-! SUPPORT. The closed-zone law under the events of the consoles: frames, presence, requests of the chairs, and the deadlines of
handovers. -/

namespace Sys2Proof.Machine

/-! ### Ports -/

theorem modPort_lawful {s : State} (hs : s.Lawful) (p : Port) (f : PortRegs → PortRegs) : (s.modPort p f).Lawful :=
  hs.of_same (modPort_table p f s) (modPort_elsewhere p f s)

theorem modChair_lawful {s : State} (hs : s.Lawful) (c : ChairId) (f : Chair → Chair) : (s.modChair c f).Lawful :=
  hs.of_same (.refl s) (modChair_elsewhere c f s)

theorem due_lawful {s : State} (hs : s.Lawful) : s.due.Lawful := hs.of_eases (due_easesAt s)

theorem raise_lawful {s : State} (hs : s.Lawful) (p : Port) (f : Sticky) : (s.raise p f).Lawful := modPort_lawful hs p _

theorem notify_lawful {s : State} (hs : s.Lawful) (p : Port) (n : Notice) : (s.notify p n).Lawful := hs.of_eases (notify_easesAt p n s)

theorem goodFrame_lawful {s : State} (hs : s.Lawful) (p : Port) : (goodFrame p s).Lawful :=
  hs.of_same (goodFrame_table p s) (goodFrame_elsewhere p s)

theorem reply_lawful {s : State} (hs : s.Lawful) (b : Sender) (kind : RequestKind) (code : Code) (content : Content) :
    (reply b kind code content s).Lawful :=
  hs.of_same (send_table _ _ s) (reply_elsewhere b kind code content s)

theorem fieldError_lawful {s : State} (hs : s.Lawful) (b : Sender) (kind : RequestKind) (content : Content) :
    (fieldError b kind content s).Lawful :=
  reply_lawful (raise_lawful hs _ _) b kind .fieldError content

/-! ### Link loss and presence (R78 to R89) -/

theorem held_of_heldSlot {s : State} {c : ChairId} {i : Slot} (h : s.heldSlot c = some i) : (s.entry i).state = .held :=
  ((heldBy_iff _ _).1 (List.find?_some (p := fun i => (s.entry i).heldBy c) h)).1

theorem chairOffline_lawful (c : ChairId) : Preserves (chairOffline c) := fun s hs => by
  have dropped {u : State} (hu : u.Lawful) : (match u.heldSlot c with
      | some i => dropHolder i .link u
      | none => u).Lawful := by
    split
    next h => exact dropHolder_lawful hu (held_of_heldSlot h) _
    next => exact hu
  have abandoned {u : State} (hu : u.Lawful) : (match u.targetSlot c with
      | some i => abandon i .targetOffline u
      | none => u).Lawful := by
    split
    · exact abandon_lawful hu _ _
    · exact hu
  exact due_lawful (modChair_lawful (abandoned (dropped (modPort_lawful hs (.chair c) _))) c _)

theorem goOffline_lawful (p : Port) : Preserves (goOffline p) := fun s hs => by
  cases p with
  | chair c => exact chairOffline_lawful c s hs
  | service => exact hs.of_tables rfl rfl rfl rfl rfl

theorem takeBadFrame_lawful (p : Port) (why : BadFrame) : Preserves (takeBadFrame p why) := fun s hs => by
  have raised := raise_lawful hs p (badFrameFlag why)
  unfold takeBadFrame
  dsimp only
  split
  · split
    · exact modPort_lawful raised p _
    · exact goOffline_lawful p _ raised
  · exact raised

theorem setHeldRamp_lawful {s : State} (hs : s.Lawful) (c : ChairId) (ramp : State → Option Ramp) : (setHeldRamp c ramp s).Lawful := by
  unfold setHeldRamp
  split
  · exact hs.of_eases (modEntry_easesAt rfl rfl rfl id)
  · exact hs

theorem becomePresent_lawful (c : ChairId) : Preserves (becomePresent c) := fun s hs => by
  have evaluated := evaluateTargeting_lawful (setHeldRamp_lawful (modChair_lawful hs c fun x =>
    { x with presence := .present, settle := none, grace := none }) c
      fun s => some (startRamp .engage Axes.neutral s.policy.engageRamp)) c
  unfold becomePresent
  dsimp only
  split
  · exact due_lawful evaluated
  · exact evaluated

theorem press_lawful (c : ChairId) : Preserves (press c) := fun s hs => by
  have pressed : (if s.policy.pressSettle = 0 then becomePresent c s
      else s.modChair c fun x => { x with presence := .settling, settle := some s.policy.pressSettle }).Lawful := by
    split
    · exact becomePresent_lawful c s hs
    · exact modChair_lawful hs c _
  unfold press
  split
  exacts [hs, hs, pressed, pressed]

theorem letGo_lawful (c : ChairId) : Preserves (letGo c) := fun s hs => by
  unfold letGo
  split
  · exact hs
  · exact hs
  · exact modChair_lawful hs c _
  · exact evaluateTargeting_lawful (setHeldRamp_lawful (modChair_lawful hs c _) c _) c

theorem takeAxis_lawful (c : ChairId) (f : AxisFrame) : Preserves (takeAxis c f) := fun s hs => by
  have flagged {u : State} (hu : u.Lawful) : (if f.gear = 3#2 then u.raise (.chair c) .gearInvalid else u).Lawful := by
    split
    · exact raise_lawful hu _ _
    · exact hu
  have enabled {u : State} (hu : u.Lawful) : (if f.enable then press c u else letGo c u).Lawful := by
    split
    · exact press_lawful c u hu
    · exact letGo_lawful c u hu
  exact evaluateTargeting_lawful (enabled (modChair_lawful (flagged (modChair_lawful (goodFrame_lawful hs (.chair c)) c _)) c _)) c

theorem loseGrace_lawful (c : ChairId) : Preserves (loseGrace c) := fun s hs => by
  have dropped {u : State} (hu : u.Lawful) : (match u.heldSlot c with
      | some i => dropHolder i .absent u
      | none => u).Lawful := by
    split
    next h => exact dropHolder_lawful hu (held_of_heldSlot h) _
    next => exact hu
  have abandoned {u : State} (hu : u.Lawful) : (match u.targetSlot c with
      | some i => abandon i .targetAbsent u
      | none => u).Lawful := by
    split
    · exact abandon_lawful hu _ _
    · exact hu
  have unready {u : State} (hu : u.Lawful) : (if (u.chair c).state = .ready then u.setChairState c .idle else u).Lawful := by
    split
    · exact modChair_lawful hu c _
    · exact hu
  exact unready (abandoned (dropped (modChair_lawful hs c _)))

theorem goStale_lawful (c : ChairId) : Preserves (goStale c) := fun s hs => by
  have stopped := modChair_lawful hs c fun x => { x with staleness := none }
  unfold goStale
  dsimp only
  split
  · exact letGo_lawful c _ (raise_lawful stopped _ _)
  · exact letGo_lawful c _ (raise_lawful stopped _ _)
  · exact stopped
  · exact stopped

/-- An expiry acts only while its timer runs. -/
theorem ite_lawful {p : State → Prop} [DecidablePred p] {f : State → State} (hf : Preserves f) :
    Preserves fun s => if p s then f s else s := fun s hs => by
  show (if p s then f s else s).Lawful
  split
  · exact hf s hs
  · exact hs

/-! ### Requests (R163 to R169) -/

theorem takeRequest_lawful (b : Sender) (kind : RequestKind) (content : Content) {owner : State → State} (ho : Preserves owner) :
    Preserves (takeRequest b kind content owner) := fun s hs => by
  have heard := goodFrame_lawful hs b.port
  unfold takeRequest
  dsimp only
  split
  · exact reply_lawful heard ..
  · split
    · exact ho _ heard
    · exact fieldError_lawful heard ..

theorem fromChair_lawful (b : Sender) (kind : RequestKind) (content : Content) {owner : ChairId → State → State}
    (ho : ∀ c, Preserves (owner c)) : Preserves (fromChair b kind content owner) := fun s hs => by
  unfold fromChair
  split
  · exact ho _ s hs
  · exact fieldError_lawful hs ..

theorem withSlot_lawful (b : Sender) (kind : RequestKind) (slot : Byte) {owner : Slot → State → State}
    (ho : ∀ i, Preserves (owner i)) : Preserves (withSlot b kind slot owner) := fun s hs => by
  unfold withSlot
  split
  · exact ho _ s hs
  · exact fieldError_lawful hs ..

theorem withGate_lawful (b : Sender) (kind : RequestKind) (slot : Byte) (gate : Option GateIn)
    {owner : Slot → Option Gate → State → State} (ho : ∀ i g, Preserves (owner i g)) : Preserves (withGate b kind slot gate owner) :=
  withSlot_lawful b kind slot fun i s hs => by
    split
    · exact ho i _ s hs
    · exact fieldError_lawful hs ..

theorem becomeReady_lawful (b : Sender) (c : ChairId) : Preserves (becomeReady b c) := fun s hs => by
  have replied := reply_lawful (modChair_lawful hs c fun x => { x with latch := true }) b .ready .done .nothing
  unfold becomeReady
  dsimp only
  split
  · exact due_lawful (modChair_lawful replied c _)
  · exact replied

theorem becomeUnready_lawful (b : Sender) (c : ChairId) {s : State} (hs : s.Lawful) :
    (reply b .unready .done .nothing
      (if ((s.clearLatch c).chair c).state = .ready then (s.clearLatch c).setChairState c .idle else s.clearLatch c)).Lawful := by
  have cleared : (s.clearLatch c).Lawful := modChair_lawful hs c _
  refine reply_lawful ?_ ..
  split
  · exact modChair_lawful cleared c _
  · exact cleared

theorem carries_of_heldBy {e : Entry} {c : ChairId} (h : e.heldBy c = true) : e.state.carries = true := by
  rw [((heldBy_iff _ _).1 h).1]
  rfl

theorem withRamp_vacatesTo (ramp : Option Ramp) : Entry.VacatesTo .free fun e => { Entry.vacate .free e with ramp := ramp } :=
  ⟨fun _ => rfl, fun _ => rfl, fun _ => rfl, fun _ => rfl⟩

theorem parkLoader_lawful {s : State} (hs : s.Lawful) (b : Sender) (slot : Byte) (c : ChairId) {i : Slot}
    (hh : (s.entry i).heldBy c = true) : (parkLoader b slot c i s).Lawful :=
  reply_lawful (leave_free_lawful hs (carries_of_heldBy hh) (withRamp_vacatesTo _) _ _) ..

/-! ### The requests of the handover engine (R32 to R40) -/

theorem firstFailing_eq_none_iff (l : List (Bool × Code)) : firstFailing l = none ↔ ∀ p ∈ l, p.1 = true := by
  simp [firstFailing_eq_firstRefusal, firstRefusal_eq_none_iff]

/-- A TAKE that passes its checks is of a loader in FREE or AUTO. -/
theorem carries_of_takeChecks {s : State} {i : Slot} {c : ChairId} (h : firstFailing (takeChecks i c s) = none) :
    (s.entry i).state.carries = true := by
  have free := (firstFailing_eq_none_iff _).1 h ((s.entry i).state == .free || (s.entry i).state == .auto, .notAvailable)
    (by simp only [takeChecks, List.mem_cons, true_or, or_true])
  rw [Bool.or_eq_true, beq_iff_eq, beq_iff_eq] at free
  rcases free with h | h <;> rw [h] <;> rfl

theorem carries_of_passChecks {s : State} {i : Slot} {c m : ChairId} (h : firstFailing (passChecks i c m s) = none) :
    (s.entry i).state.carries = true :=
  carries_of_heldBy (c := c) ((firstFailing_eq_none_iff _).1 h ((s.entry i).heldBy c, .notHolder)
    (by simp only [passChecks, List.mem_cons, true_or, or_true]))

theorem carries_of_holderChecks {s : State} {i : Slot} {c : ChairId} (h : firstFailing (holderChecks i c s) = none) :
    (s.entry i).state.carries = true :=
  carries_of_heldBy (c := c) ((firstFailing_eq_none_iff _).1 h ((s.entry i).heldBy c, .notHolder)
    (by simp only [holderChecks, List.mem_cons, true_or, or_true]))

section
variable {s : State} {i : Slot}

/-- The record of a request whose slot has become occupied. -/
theorem startHandover_occupySlot_lawful (hs : s.Lawful) (hc : (s.entry i).state.carries = true) (b : Sender) (kind : RequestKind)
    (h : Handover) : (startHandover i h (occupySlot b kind i s)).Lawful :=
  startHandover_lawful (modPort_lawful hs _ _) (((modPort_table _ _ s).entry i).symm ▸ hc) h

theorem startTake_lawful (hs : s.Lawful) (hc : (s.entry i).state.carries = true) (b : Sender) (c : ChairId) (g : Option Gate) :
    (startTake b c i g s).Lawful :=
  enterGating_lawful (startHandover_occupySlot_lawful hs hc b .take _) i

theorem startOffer_lawful (hs : s.Lawful) (hc : (s.entry i).state.carries = true) (b : Sender) (kind : RequestKind) (hk : HandoverKind)
    (c m : ChairId) (g : Option Gate) : (startOffer b kind hk c m i g s).Lawful :=
  notify_lawful (startHandover_occupySlot_lawful hs hc b kind _) _ _

theorem startToAuto_lawful (hs : s.Lawful) (hc : (s.entry i).state.carries = true) (b : Sender) (kind : RequestKind) (hk : HandoverKind)
    (c : ChairId) (g : Option Gate) : (startToAuto b kind hk c i g s).Lawful :=
  enterGating_lawful (startHandover_occupySlot_lawful hs hc b kind _) i

end

theorem moveToGating_lawful {s : State} (hs : s.Lawful) (i : Slot) : (moveToGating i s).Lawful :=
  hs.of_eases (modEntry_easesAt rfl rfl rfl (mt fun hn => by simp [hn]))

theorem cancelOutstanding_lawful {s : State} (hs : s.Lawful) (c : ChairId) (o : Outstanding) : (cancelOutstanding c o s).Lawful := by
  have abandoned : (match (s.entry o.slot).handover with
      | some h => if h.requester = some c then abandon o.slot .cancelled s else s
      | none => s).Lawful := by
    split
    · split
      · exact abandon_lawful hs _ _
      · exact hs
    · exact hs
  exact abandoned.of_eases (answerOutstanding_easesAt c _ _)

end Sys2Proof.Machine
end

section
/-! SUPPORT. The closed-zone law under the events that act on zones and loaders: the zone plan, discovery, TELEMETRY, the timers of the
slots, calls and resets. -/

namespace Sys2Proof.Machine

/-! ### What a zone's new record, or a loader's new zone, does to an entry (R118, R124) -/

theorem setZoneDrop_easesAt (i : Slot) (c : ChairId) (z : ZoneId) (b : Bool) (s : State) (j : Slot) :
    EasesAt s (setZoneDrop i c z b s) j :=
  .trans (modEntry_easesAt rfl rfl rfl id j) (notify_easesAt ..)

theorem testTarget_easesAt (i : Slot) (s : State) (j : Slot) : EasesAt s (testTarget i s) j := by
  unfold testTarget
  split
  · split
    · split
      · exact .refl s j
      · exact abandon_easesAt ..
    · exact .refl s j
  · exact .refl s j

theorem testHolderAtWrite_easesAt (i : Slot) (z : ZoneId) (s : State) (j : Slot) : EasesAt s (testHolderAtWrite i z s) j := by
  unfold testHolderAtWrite
  split
  · split
    · exact setZoneDrop_easesAt ..
    · exact .refl s j
  · exact .refl s j

theorem testHolderAtChange_easesAt (i : Slot) (z : ZoneId) (s : State) (j : Slot) : EasesAt s (testHolderAtChange i z s) j := by
  unfold testHolderAtChange
  split
  · split
    · exact setZoneDrop_easesAt ..
    · split
      · exact setZoneDrop_easesAt ..
      · exact .refl s j
  · exact .refl s j

/-- What becomes of slot `i`, whose loader is in zone `z`, when its state is compared with the zone's: it is locked, unlocked, or left in a
state that suits the zone. -/
inductive ZoneEffect (i : Slot) (z : ZoneId) (s : State) : State → Prop where
  | locks (carries : (s.entry i).state.carries = true) (closed : (s.zone z).state = .closed) : ZoneEffect i z s (lock i s)
  | unlocks (locked : (s.entry i).state = .locked) (opened : (s.zone z).state = .opened) : ZoneEffect i z s (unlock i s)
  | suits {t : State} (opened : (s.entry i).state.carries = true → (s.zone z).state = .opened)
      (closed : (s.entry i).state = .locked → (s.zone z).state = .closed) (eases : ∀ j, EasesAt s t j) : ZoneEffect i z s t

theorem zoneWritten_effect {i : Slot} {z : ZoneId} {s : State} (hz : (s.entry i).zone? = some z) :
    ZoneEffect i z s (zoneWritten z s i) := by
  have tested (j : Slot) : EasesAt s (testHolderAtWrite i z (testTarget i s)) j :=
    (testTarget_easesAt i s j).trans (testHolderAtWrite_easesAt ..)
  unfold zoneWritten
  rw [if_pos hz]
  cases hs : (s.entry i).state <;> cases hr : (s.zone z).state
  case free.closed | auto.closed | held.closed => exact .locks (by rw [hs]; rfl) hr
  case locked.opened => exact .unlocks hs hr
  case free.opened | auto.opened | held.opened => exact .suits (fun _ => hr) (by simp [hs]) tested
  all_goals exact .suits (by simp [hs, EntryState.carries]) (by simp [hs, hr]) (.refl s)

theorem zoneChanged_effect {i : Slot} {z : ZoneId} {s : State} :
    ZoneEffect i z (if (s.entry i).state = .auto then s.due else s) (zoneChanged i z s) := by
  unfold zoneChanged
  dsimp only
  generalize (if (s.entry i).state = .auto then s.due else s) = u
  have tested (j : Slot) : EasesAt u (testHolderAtChange i z (testTarget i u)) j :=
    (testTarget_easesAt i u j).trans (testHolderAtChange_easesAt ..)
  cases hs : (u.entry i).state <;> cases hr : (u.zone z).state
  case free.closed | auto.closed | held.closed => exact .locks (by rw [hs]; rfl) hr
  case locked.opened => exact .unlocks hs hr
  case free.opened | auto.opened | held.opened => exact .suits (fun _ => hr) (by simp [hs]) tested
  all_goals exact .suits (by simp [hs, EntryState.carries]) (by simp [hs, hr]) (.refl u)

section
variable {s t : State} {i : Slot} {z : ZoneId}

theorem ZoneEffect.easesAt_of_ne (h : ZoneEffect i z s t) {j : Slot} (hj : j ≠ i) : EasesAt s t j := by
  cases h with
  | locks => exact leave_easesAt_of_ne i _ _ _ s hj
  | unlocks => exact setEntry_easesAt_of_ne s _ hj
  | suits _ _ eases => exact eases j

/-- Whatever the state before, afterwards it suits the zone. -/
theorem ZoneEffect.lawfulAt (h : ZoneEffect i z s t) (hs : s.SlotFits i) (hz : (s.entry i).zone? = some z) : t.LawfulAt i := by
  cases h with
  | locks carries closed => exact lock_lawfulAt hs carries fun y hy => by rwa [← Option.some.inj (hz.symm.trans hy)]
  | unlocks locked opened => exact unlock_lawfulAt hs locked fun y hy => by rwa [← Option.some.inj (hz.symm.trans hy)]
  | suits opened closed eases =>
    refine (eases i).lawfulAt ⟨hs, (zoneFits_iff s i).2 fun y hy => ?_⟩
    rw [← Option.some.inj (hz.symm.trans hy)]
    exact ⟨opened, closed⟩

end

/-! ### ZONE_SET (R117, R118) -/

/-- Lawful but for the zones of the slots of `l` whose loaders are in zone `z`. -/
abbrev State.AwaitsZone (z : ZoneId) (l : List Slot) (s : State) : Prop :=
  ∀ j, s.SlotFits j ∧ (s.zoneFits j = true ∨ j ∈ l ∧ (s.entry j).zone? = some z)

theorem zoneWritten_awaits {z : ZoneId} {i : Slot} {l : List Slot} {s : State} (hs : s.AwaitsZone z (i :: l)) :
    (zoneWritten z s i).AwaitsZone z l := fun j => by
  by_cases hz : (s.entry i).zone? = some z
  · have effect := zoneWritten_effect hz
    by_cases hj : j = i
    · subst hj
      exact (effect.lawfulAt (hs j).1 hz).imp_right .inl
    · have eases := effect.easesAt_of_ne hj
      refine ⟨eases.slotFits (hs j).1, (hs j).2.imp eases.zoneFits fun ⟨mem, zone⟩ => ⟨?_, eases.zone?.trans zone⟩⟩
      exact (List.mem_cons.1 mem).resolve_left hj
  · rw [zoneWritten, if_neg hz]
    refine ⟨(hs j).1, (hs j).2.imp_right fun ⟨mem, zone⟩ => ⟨(List.mem_cons.1 mem).resolve_left ?_, zone⟩⟩
    rintro rfl
    exact hz zone

theorem foldl_zoneWritten_lawful {z : ZoneId} (l : List Slot) {s : State} (hs : s.AwaitsZone z l) : (l.foldl (zoneWritten z) s).Lawful := by
  induction l generalizing s with
  | nil => exact ⟨fun j => (hs j).imp_right (·.resolve_right fun h => absurd h.1 List.not_mem_nil)⟩
  | cons i l ih => exact ih (zoneWritten_awaits hs)

/-- A ZONE_SET visits every slot, so that the entries of its zone suit the record again. -/
theorem writeZone_lawful (b : Sender) (z : ZoneId) (r : Zone) : Preserves (writeZone b z r) := fun s hs => by
  refine reply_lawful (foldl_zoneWritten_lawful allSlots fun j => ?_) ..
  obtain ⟨⟨holder, record, caller, idle, forget⟩, zone⟩ := hs.slot j
  refine ⟨⟨holder, record, caller, idle, forget⟩, or_iff_not_imp_right.2 fun hz => ?_⟩
  have elsewhere : (s.entry j).zone? ≠ some z := fun h => hz ⟨List.mem_finRange j, h⟩
  rw [zoneFits_iff] at zone ⊢
  intro y hy
  rw [State.zone_setZone_of_ne s r (by rintro rfl; exact elsewhere hy)]
  exact zone y hy

/-! ### Discovery (R132 to R143) -/

/-- Discovery start makes a slot lawful whose entry has just become DISCOVERING. -/
theorem beginReads_lawful {s : State} {i : Slot} (others : ∀ j ≠ i, s.LawfulAt j) (he : s.entry i = Entry.blank .discovering)
    (hc : i ∉ s.callers) : (beginReads i s).Lawful := by
  refine ⟨fun j => ?_⟩
  have started : ((s.setContext i contextAtStart).setFleetSlot i fleetAtStart).LawfulAt j := by
    by_cases hj : j = i
    · subst hj
      refine ⟨slotFits_of_vacated ?_ hc (fun hd => ?_) (fun _ => ?_), zoneFits_of_other ?_ ?_⟩
      · simpa [he] using blank_vacated (st := .discovering) (by decide) (by decide)
      · exact absurd (congrArg Entry.state he) hd
      · rw [State.fleetSlot_setFleetSlot_self]
        rfl
      · simp [he, Entry.blank, EntryState.carries]
      · simp [he, Entry.blank]
    · exact ((setContext_easesAt_of_ne s _ hj).trans (setFleetSlot_easesAt_of_ne _ _ hj)).lawfulAt (others j hj)
  exact ((withdrawCommand_easesAt _ i j).trans (queueRead_easesAt _ i .readId j)).lawfulAt started

theorem startDiscovery_lawful (i : Slot) : Preserves (startDiscovery i) := fun s hs =>
  beginReads_lawful (fun j hj => (leave_easesAt_of_ne i _ _ _ s hj).lawfulAt (hs.slot j)) (by rw [leave_entry, if_pos rfl])
    (not_mem_callers_leave (hs.slot i).1 _ _ _)

theorem bindUnit_lawful (u : UnitNumber) : Preserves (bindUnit u) := fun s hs => by
  unfold bindUnit
  split
  · exact notify_lawful hs _ _
  next i _ =>
    refine startDiscovery_lawful _ _ ?_
    have bound : ((s.setBinding i { unit := some u, used := true }).setIgnored i 0).Lawful := hs.of_tables rfl rfl rfl rfl rfl
    split
    · exact notify_lawful bound _ _
    · exact bound

/-- A refused discovery leaves its slot without authority and with an idle context. -/
theorem refuse_lawful {s : State} (hs : s.Lawful) {i : Slot} (hd : (s.entry i).state = .discovering) (cause : Code) :
    (refuse i cause s).Lawful := by
  unfold refuse
  dsimp only
  set x : Context := { s.context i with stage := none, read := none, answerTimer := none, refusal := _ }
  have refused : ((s.modEntry i (Entry.vacate .refused)).setContext i x).Lawful := by
    have entry : ((s.modEntry i (Entry.vacate .refused)).setContext i x).entry i = (s.entry i).vacate .refused :=
      State.entry_setEntry_self ..
    refine (hs.but i).lawful (fun j hj => (setEntry_easesAt_of_ne s _ hj).trans (setContext_easesAt_of_ne _ x hj))
      ⟨slotFits_of_vacated ?_ ((hs.slot i).1.not_called (by simp [hd])) (fun _ => ?_) (fun _ => (hs.slot i).1.forget (by simp [hd])),
        zoneFits_of_other ?_ ?_⟩
    · rw [entry]
      exact vacate_vacated ((hs.slot i).1.no_record (by rw [hd]; rfl)) (by decide) (by decide)
    · rw [State.context_setContext_self]
      exact ⟨rfl, rfl, rfl⟩
    · rw [entry]
      rfl
    · rw [entry]
      exact fun h => by cases h
  exact notify_lawful (refused.of_eases (withdrawRead_easesAt _ i)) _ _

theorem modContext_lawful {s : State} (hs : s.Lawful) {i : Slot} (hd : (s.entry i).state = .discovering) (f : Context → Context) :
    (s.modContext i f).Lawful := setContext_lawful hs hd _

theorem sendRead_lawful {s : State} (hs : s.Lawful) {i : Slot} (hd : (s.entry i).state = .discovering) (r : Read)
    (f : Context → Context) : (sendRead i r f s).Lawful := (modContext_lawful hs hd _).of_eases (queueRead_easesAt _ i r)

theorem takeDescriptor_lawful {s : State} (hs : s.Lawful) {i : Slot} (hd : (s.entry i).state = .discovering) (index : Byte)
    (d : Descriptor) : (takeDescriptor i index d s).Lawful := by
  unfold takeDescriptor
  split
  · exact refuse_lawful hs hd _
  · exact sendRead_lawful hs hd _ _

theorem takeEnd_lawful {s : State} (hs : s.Lawful) {i : Slot} (hd : (s.entry i).state = .discovering) : (takeEnd i s).Lawful := by
  unfold takeEnd
  dsimp only
  split
  · exact refuse_lawful hs hd _
  · exact setContext_lawful hs hd _

/-! ### Trips, link loss and TELEMETRY (R155 to R160) -/

theorem vacate_noStack_vacatesTo (st : EntryState) : Entry.VacatesTo st fun e => { Entry.vacate st e with stack := [] } :=
  ⟨fun _ => rfl, fun _ => rfl, fun _ => rfl, fun _ => rfl⟩

theorem forceEntry_lawful {s : State} (hs : s.Lawful) {i : Slot} (hc : (s.entry i).state.carries = true) : (forceEntry i s).Lawful :=
  leave_free_lawful hs hc (vacate_noStack_vacatesTo .free) _ _

/-- A TRIPPED entry suits every zone. -/
theorem trip_lawful {s : State} {i : Slot} (hs : s.LawfulBut i) (hx : (s.context i).Idle) (hf : (s.fleetSlot i).forget = none)
    (ls : LoaderStatus) : (trip i ls s).Lawful := by
  have left : (leave i .tripped (some .tripped) (fun e => { Entry.vacate .tripped e with stack := [] }) s).Lawful :=
    hs.lawful (fun j => leave_easesAt_of_ne i _ _ _ s) <|
      leave_lawfulAt hs.1 (vacate_noStack_vacatesTo .tripped) (by decide) (by decide) _ _ (fun _ => hx) (fun _ => hf)
        fun _ _ => ⟨fun h => absurd h (by decide), fun h => absurd h (by decide)⟩
  exact notify_lawful (modFleetSlot_lawful left (f := fun x => { x with forget := none }) fun _ => rfl) _ _

theorem loseLink_lawful {s : State} (hs : s.Lawful) {i : Slot} (hd : (s.entry i).state ≠ .discovering) : (loseLink i s).Lawful := by
  have left : (leave i .linkLost (some .linkLost) (Entry.vacate .linkLost) s).Lawful :=
    (hs.but i).lawful (fun j => leave_easesAt_of_ne i _ _ _ s) <|
      leave_lawfulAt (hs.slot i).1 (vacate_vacatesTo .linkLost) (by decide) (by decide) _ _ (fun _ => (hs.slot i).1.idle hd)
        (fun h => absurd rfl h) fun _ _ => ⟨fun h => absurd h (by decide), fun h => absurd h (by decide)⟩
  have lost : ((leave i .linkLost (some .linkLost) (Entry.vacate .linkLost) s).entry i).state = .linkLost := by
    rw [leave_entry, if_pos rfl]
    rfl
  unfold loseLink
  refine modFleetSlot_lawful (notify_lawful left _ _) fun h => absurd ?_ h
  exact (notify_easesAt ..).state.trans lost

/-- A stored status leaves the slot lawful but for its zone, in the state it was in and with the zone reported. -/
theorem storeStatus_spec {s : State} (hs : s.Lawful) (i : Slot) (vs : List (Descriptor × Int)) :
    (storeStatus i vs s).LawfulBut i ∧ ((storeStatus i vs s).entry i).state = (s.entry i).state ∧
      ((storeStatus i vs s).entry i).zone? = some (statusOf vs).zone ∧ (storeStatus i vs s).zones = s.zones := by
  set u := s.modEntry i fun e => { e with status := some (statusOf vs) }
  have entry : u.entry i = { s.entry i with status := some (statusOf vs) } := State.entry_setEntry_self ..
  have stored : u.LawfulBut i := by
    refine ⟨?_, fun j hj => (setEntry_easesAt_of_ne s _ hj).lawfulAt (hs.slot j)⟩
    obtain ⟨holder, record, caller, idle, forget⟩ := (hs.slot i).1
    constructor <;> rw [entry]
    exacts [holder, record, caller, idle, forget]
  have raised (j : Slot) : EasesAt u (if zoneOutOfRange (valueOf .zone vs) then u.raise .service .zoneRange else u) j := by
    split
    · exact raise_easesAt ..
    · exact .refl u j
  have heard (v : State) (j : Slot) : EasesAt v (v.modFleetSlot i fun x => { x with heard := true, misses := 0 }) j :=
    modFleetSlot_easesAt rfl j
  have eases (j : Slot) : EasesAt u (storeStatus i vs s) j := (raised j).trans (heard _ j)
  refine ⟨stored.of_eases eases, ?_, ?_, (eases i).zones⟩
  · rw [(eases i).state, entry]
  · rw [(eases i).zone?, entry]
    rfl

theorem zoneChanged_lawful {s : State} {i : Slot} (hs : s.LawfulBut i) {z : ZoneId} (hz : (s.entry i).zone? = some z) :
    (zoneChanged i z s).Lawful := by
  have effect := zoneChanged_effect (i := i) (z := z) (s := s)
  have dued (j : Slot) : EasesAt s (if (s.entry i).state = .auto then s.due else s) j := by
    split
    · exact due_easesAt s j
    · exact .refl s j
  have lawful := hs.of_eases dued
  exact lawful.lawful (fun j => effect.easesAt_of_ne) (effect.lawfulAt lawful.1 ((dued i).zone?.trans hz))

theorem zoneDropAt_lawful {s : State} (hs : s.Lawful) (i : Slot) (flagBefore : Bool) (ls : LoaderStatus) :
    (zoneDropAt i flagBefore ls s).Lawful := by
  unfold zoneDropAt
  split
  next held _ =>
    split
    · exact notify_lawful (dropHolder_lawful hs held _) _ _
    · exact hs
  next => exact hs

/-- The examination of a TELEMETRY makes up for the zone it reports: by a trip, or by the zone change. -/
theorem examine_lawful {s : State} {i : Slot} (hs : s.LawfulBut i) (hd : (s.entry i).state ≠ .discovering)
    (hl : (s.entry i).state ≠ .linkLost) {ls : LoaderStatus} (hz : (s.entry i).zone? = some ls.zone) {before : Entry}
    (hb : before.zone? = some ls.zone → s.zoneFits i = true) : (examine i before ls s).Lawful := by
  have changed : (if before.zone? = some ls.zone then s else zoneChanged i ls.zone s).Lawful := by
    split
    next same => exact hs.lawful (fun j _ => .refl s j) ⟨hs.1, hb same⟩
    next => exact zoneChanged_lawful hs hz
  unfold examine
  split
  · exact trip_lawful hs (hs.1.idle hd) (hs.1.forget hl) ls
  · exact zoneDropAt_lawful (evaluateGate_lawful changed i) i _ ls

/-- The state that a loader takes by its zone suits the zone. -/
theorem stateInZone_suits (z : Zone) :
    (stateInZone z = .free ∧ z.state = .opened) ∨ (stateInZone z = .locked ∧ z.state = .closed) := by
  unfold stateInZone
  cases z.state <;> simp

/-- A loader without authority, in zone `z`, takes the state of that zone. -/
theorem modEntry_stateInZone_lawfulAt {s : State} {i : Slot} {z : ZoneId} (hn : (s.entry i).handover = none) (hu : i ∉ s.callers)
    (hx : (s.context i).Idle) (hf : (s.fleetSlot i).forget = none) (hz : (s.entry i).zone? = some z) :
    (s.modEntry i (Entry.vacate (stateInZone (s.zone z)))).LawfulAt i := by
  have zone {y : ZoneId} (hy : (s.entry i).zone? = some y) : y = z := Option.some.inj (hy.symm.trans hz)
  rcases stateInZone_suits (s.zone z) with ⟨hst, hr⟩ | ⟨hst, hr⟩ <;> rw [hst]
  · exact modEntry_vacate_lawfulAt hn hu (by decide) (by decide) (fun _ => hx) (fun _ => hf)
      fun y hy => ⟨fun _ => zone hy ▸ hr, fun h => absurd h (by decide)⟩
  · exact modEntry_vacate_lawfulAt hn hu (by decide) (by decide) (fun _ => hx) (fun _ => hf)
      fun y hy => ⟨fun h => absurd h (by decide), fun _ => zone hy ▸ hr⟩

section
variable {s : State} {i : Slot} {ls : LoaderStatus}

theorem completeDiscovery_lawful (hs : s.LawfulBut i) (hd : (s.entry i).state = .discovering)
    (hz : (s.entry i).zone? = some ls.zone) : (completeDiscovery i ls s).Lawful := by
  set u := s.modContext i fun x => { x with stage := none, read := none, answerTimer := none }
  have context : u.context i = { s.context i with stage := none, read := none, answerTimer := none } :=
    State.context_setContext_self ..
  have idle : (u.context i).Idle := by
    rw [context]
    exact ⟨rfl, rfl, rfl⟩
  have own : (u.modEntry i (Entry.vacate (stateInZone (u.zone ls.zone)))).LawfulAt i :=
    modEntry_stateInZone_lawfulAt (hs.1.no_record (by rw [hd]; rfl)) (hs.1.not_called (by simp [hd])) idle
      (hs.1.forget (by simp [hd])) hz
  have completed : (u.modEntry i (Entry.vacate (stateInZone (u.zone ls.zone)))).Lawful :=
    hs.lawful (fun j hj => (setContext_easesAt_of_ne s _ hj).trans (setEntry_easesAt_of_ne u _ hj)) own
  unfold completeDiscovery
  dsimp only
  split
  · exact trip_lawful (completed.but i) idle (hs.1.forget (by simp [hd])) ls
  · exact completed

theorem returnFromLoss_lawful (hs : s.LawfulBut i) (hl : (s.entry i).state = .linkLost)
    (hz : (s.entry i).zone? = some ls.zone) : (returnFromLoss i ls s).Lawful := by
  set u := s.modFleetSlot i fun x => { x with forget := none }
  have others (j : Slot) (hj : j ≠ i) : EasesAt s u j := setFleetSlot_easesAt_of_ne s _ hj
  have stopped : (u.fleetSlot i).forget = none := congrArg FleetSlot.forget (State.fleetSlot_setFleetSlot_self s i _)
  have but : u.LawfulBut i := by
    refine ⟨?_, fun j hj => (others j hj).lawfulAt (hs.2 j hj)⟩
    exact { hs.1 with forget := fun _ => stopped }
  unfold returnFromLoss
  dsimp only
  split
  · exact trip_lawful but (hs.1.idle (by simp [hl])) stopped ls
  · refine but.lawful (fun j hj => setEntry_easesAt_of_ne u _ hj) ?_
    exact modEntry_stateInZone_lawfulAt (hs.1.no_record (by rw [hl]; rfl)) (hs.1.not_called (by simp [hl]))
      (hs.1.idle (by simp [hl])) stopped hz

end

/-- Every TELEMETRY leaves the entry in a state that suits the zone it reports. -/
theorem takeTelemetry_lawful (i : Slot) (payload : List Byte) : Preserves (takeTelemetry i payload) := fun s hs => by
  unfold takeTelemetry
  dsimp only
  split
  · exact hs
  split
  · exact raise_lawful hs _ _
  set vs := unpack (inChannels (s.context i).descriptors) (numberOf payload)
  obtain ⟨but, state, zone, zones⟩ := storeStatus_spec hs i vs
  have same (h : (s.entry i).zone? = some (statusOf vs).zone) : (storeStatus i vs s).zoneFits i = true :=
    zoneFits_congr state (zone.trans h.symm) zones (hs.slot i).2
  have examined (hd : (s.entry i).state ≠ .discovering) (hl : (s.entry i).state ≠ .linkLost) :
      (examine i (s.entry i) (statusOf vs) (storeStatus i vs s)).Lawful :=
    examine_lawful but (state ▸ hd) (state ▸ hl) zone same
  have kept (hc : (s.entry i).state.carries = false) (hl : (s.entry i).state ≠ .locked) : (storeStatus i vs s).Lawful :=
    but.lawful (fun j _ => .refl _ j) ⟨but.1, zoneFits_of_other (by rwa [state]) (by rwa [state])⟩
  cases hst : (s.entry i).state with
  | discovering => exact completeDiscovery_lawful but (state.trans hst) zone
  | free | auto | held | locked => exact examined (by simp [hst]) (by simp [hst])
  | linkLost => exact returnFromLoss_lawful but (state.trans hst) zone
  | empty | refused | tripped => exact kept (by rw [hst]; rfl) (by simp [hst])

/-! ### The timers of a slot (R150, R151, R156, R159) -/

theorem countMiss_lawful (i : Slot) : Preserves (countMiss i) := fun s hs => by
  have heard (n : Nat) : (s.setFleetSlot i { s.fleetSlot i with heard := false, misses := n }).Lawful :=
    hs.of_eases (modFleetSlot_easesAt (f := fun f => { f with heard := false, misses := n }) rfl)
  have missed (n : Nat) : (s.setFleetSlot i { s.fleetSlot i with misses := n }).Lawful :=
    hs.of_eases (modFleetSlot_easesAt (f := fun f => { f with misses := n }) rfl)
  unfold countMiss
  dsimp only
  split
  · split
    · exact heard 0
    · split
      · split
        next hd => exact refuse_lawful (missed _) hd _
        next hd => exact loseLink_lawful (missed _) hd
      · exact missed _
  · exact heard (s.fleetSlot i).misses

theorem sendStatus_lawful {s : State} (hs : s.Lawful) (i : Slot) (axes : Axes) (capped ramped : Bool) :
    (sendStatus i axes capped ramped s).Lawful := by
  unfold sendStatus
  split
  · exact hs.of_same (send_table ..) (send_elsewhere ..)
  · exact hs

theorem buildCommand_lawful (i : Slot) : Preserves (buildCommand i) := fun s hs => by
  unfold buildCommand
  split
  · exact hs
  · split
    · exact hs.of_eases (queueCommand_easesAt s i _ _)
    · refine sendStatus_lawful (.of_eases (.of_eases hs ?_) (queueCommand_easesAt _ i _ _)) ..
      exact modEntry_easesAt rfl rfl rfl id

theorem cycle_lawful (i : Slot) {s : State} (hs : s.Lawful) :
    ((buildCommand i (countMiss i s)).modFleetSlot i fun x =>
      { x with cycle := some (((buildCommand i (countMiss i s)).context i).period.getD Config.discoveryPeriodMs) }).Lawful :=
  (buildCommand_lawful i _ (countMiss_lawful i s hs)).of_eases (modFleetSlot_easesAt rfl)

/-- A forgotten slot is as at reset. -/
theorem forget_lawful {s : State} (hs : s.Lawful) {i : Slot} (hl : (s.entry i).state = .linkLost) :
    ((((s.setEntry i (Entry.blank .empty)).setContext i Context.cleared).setFleetSlot i FleetSlot.reset).withdrawAnyCommand i).Lawful := by
  have entry : (((s.setEntry i (Entry.blank .empty)).setContext i Context.cleared).setFleetSlot i FleetSlot.reset).entry i =
      Entry.blank .empty := State.entry_setEntry_self ..
  refine State.Lawful.of_eases ?_ (withdrawAnyCommand_easesAt _ i)
  refine (hs.but i).lawful (fun j hj => ?_) ⟨slotFits_of_vacated ?_ ((hs.slot i).1.not_called (by simp [hl])) (fun _ => ?_)
    (fun _ => ?_), zoneFits_of_other ?_ ?_⟩
  · exact (setEntry_easesAt_of_ne s _ hj).trans ((setContext_easesAt_of_ne _ _ hj).trans (setFleetSlot_easesAt_of_ne _ _ hj))
  · rw [entry]
    exact blank_vacated (by decide) (by decide)
  · rw [State.setFleetSlot_context, State.context_setContext_self]
    exact ⟨rfl, rfl, rfl⟩
  · rw [State.fleetSlot_setFleetSlot_self]
    rfl
  · rw [entry]
    rfl
  · rw [entry]
    exact fun h => by cases h

/-- A discovery read that departs starts the answer timer of a loader in DISCOVERING alone. -/
theorem fleetDeparted_lawful (f : FleetFrame) : Preserves (fleetDeparted f) := fun s hs => by
  unfold fleetDeparted
  split
  · exact hs
  · split
    next h => exact modContext_lawful hs ((hs.slot _).1.discovering_of_read h) _
    next => exact hs

/-! ### Calls (R59 to R61) -/

theorem createCall_lawful {s : State} (hs : s.Lawful) {i : Slot} (ha : (s.entry i).state = .auto) (r : CallReason) :
    (createCall i r s).Lawful := by
  have called (attach : Bool) := insertCall_lawful hs (k := ⟨i, r, attach, 0#6, 0⟩) ha
  unfold createCall
  dsimp only
  split
  · exact (called _).of_eases (modEntry_easesAt rfl rfl rfl (mt fun hn => by simp [hn]))
  · exact due_lawful (called _)

/-- A raised call leaves its place and joins the queue again. -/
theorem raiseCall_lawful {s : State} (hs : s.Lawful) {k : Call} (ha : (s.entry k.slot).state = .auto) (r : CallReason) :
    (raiseCall k r s).Lawful := by
  have moved : ({ s.removeCall k.slot with calls := insertCall { k with reason := r } (s.removeCall k.slot).calls } : State).Lawful :=
    insertCall_lawful (hs.of_eases (removeCall_easesAt s k.slot)) ha
  unfold raiseCall
  split
  · dsimp only
    split
    · exact moved
    · exact due_lawful moved
  · exact hs

/-! ### Resets (R25, R177) -/

/-- The tables at their values of power-on. -/
theorem lawful_of_reset {s : State} (entries : s.entries = State.reset.entries) (calls : s.calls = [])
    (contexts : s.contexts = State.reset.contexts) (fleet : s.fleet = State.reset.fleet) : s.Lawful := by
  refine ⟨fun i => ?_⟩
  have entry : s.entry i = Entry.blank .empty := by
    rw [State.entry, entries]
    exact Vector.getElem_replicate i.isLt
  have context : s.context i = Context.cleared := by
    rw [State.context, contexts]
    exact Vector.getElem_replicate i.isLt
  have slot : s.fleetSlot i = FleetSlot.reset := by
    rw [State.fleetSlot, fleet]
    exact Vector.getElem_replicate i.isLt
  refine ⟨slotFits_of_vacated ?_ (by simp [State.callers, calls]) (fun _ => ?_) (fun _ => ?_), zoneFits_of_other ?_ ?_⟩
  · rw [entry]
    exact blank_vacated (by decide) (by decide)
  · rw [context]
    exact ⟨rfl, rfl, rfl⟩
  · rw [slot]
    rfl
  · rw [entry]
    rfl
  · rw [entry]
    exact fun h => by cases h

/-- Discovery starts of a reset keep the call queue empty. -/
theorem foldl_beginReads_lawful (idle : Slot → Prop) [DecidablePred idle] (l : List Slot) {s : State} (hs : s.Lawful)
    (hc : s.calls = []) :
    (l.foldl (fun t i => if idle i then t else beginReads i (t.setEntry i (Entry.blank .discovering))) s).Lawful := by
  induction l generalizing s with
  | nil => exact hs
  | cons i l ih =>
    rw [List.foldl_cons]
    split
    · exact ih hs hc
    · refine ih (beginReads_lawful (fun j hj => ?_) (State.entry_setEntry_self ..) (by simp [State.callers, hc])) hc
      exact (setEntry_easesAt_of_ne s _ hj).lawfulAt (hs.slot j)

theorem resetAllBlocks_lawful (s : State) : (resetAllBlocks s).Lawful := lawful_of_reset rfl rfl rfl rfl

theorem resetKeepAll_lawful (s : State) : (resetKeepAll s).Lawful :=
  foldl_beginReads_lawful (fun i => (s.entry i).state = .empty) allSlots (lawful_of_reset rfl rfl rfl rfl) rfl

end Sys2Proof.Machine
end

section
/-! SUPPORT. Every command keeps the laws of the authority table and the closed-zone law. -/

namespace Sys2Proof.Machine

theorem fromUnit_lawful (u : UnitNumber) {act : Slot → State → State} (ha : ∀ i, Preserves (act i)) : Preserves (fromUnit u act) :=
  fun s hs => by
    unfold fromUnit
    split
    · exact ha _ s hs
    · exact raise_lawful hs _ _

/-! ### The commands of the consoles -/

/-- A chair's request that carries a slot and a gate keeps the laws if its owning block does. -/
theorem gateRequest_lawful {b : Sender} {kind : RequestKind} {slot : Byte} {gate : Option GateIn}
    {owner : ChairId → Slot → Option Gate → State → State} (ho : ∀ c i g, Preserves (owner c i g)) :
    Preserves (event (takeRequest b kind (.slot slot) (fromChair b kind (.slot slot) fun c => withGate b kind slot gate (owner c)))) :=
  event_lawful (takeRequest_lawful _ _ _ (fromChair_lawful _ _ _ fun c => withGate_lawful _ _ _ _ (ho c)))

/-- A chair's request that carries a slot keeps the laws if its owning block does. -/
theorem slotRequest_lawful {b : Sender} {kind : RequestKind} {slot : Byte} {owner : ChairId → Slot → State → State}
    (ho : ∀ c i, Preserves (owner c i)) :
    Preserves (event (takeRequest b kind (.slot slot) (fromChair b kind (.slot slot) fun c => withSlot b kind slot (owner c)))) :=
  event_lawful (takeRequest_lawful _ _ _ (fromChair_lawful _ _ _ fun c => withSlot_lawful _ _ _ (ho c)))

section
variable (b : Sender) (slot : Byte) (gate : Option GateIn) {s : State}

theorem execAxis_lawful (c : ChairId) (f : AxisFrame) (hs : s.Lawful) : ∃ t, execAxis c f s = .next t ∧ t.Lawful := by
  refine ⟨_, rfl, event_lawful (fun u hu => ?_) s hs⟩
  split
  · exact takeAxis_lawful c f u hu
  · exact takeBadFrame_lawful _ _ u hu

theorem execPortFrameDepart_lawful (p : Port) (hs : s.Lawful) : ∃ t, execPortFrameDepart p s = .next t ∧ t.Lawful := by
  refine ⟨_, rfl, event_lawful (fun u hu => ?_) s hs⟩
  split
  · exact hu
  · exact modPort_lawful hu p _

theorem execTake_lawful (hs : s.Lawful) : ∃ t, execTake b slot gate s = .next t ∧ t.Lawful := by
  refine ⟨_, rfl, gateRequest_lawful (fun c i g u hu => ?_) s hs⟩
  split
  · exact reply_lawful hu ..
  next h => exact startTake_lawful hu (carries_of_takeChecks h) ..

theorem execPass_lawful (target : Byte) (hs : s.Lawful) : ∃ t, execPass b slot target gate s = .next t ∧ t.Lawful := by
  refine ⟨_, rfl, gateRequest_lawful (fun c i g u hu => ?_) s hs⟩
  split
  · exact fieldError_lawful hu ..
  · split
    · exact reply_lawful hu ..
    next h => exact startOffer_lawful hu (carries_of_passChecks h) ..

theorem execReturnLoader_lawful (hs : s.Lawful) : ∃ t, execReturnLoader b slot gate s = .next t ∧ t.Lawful := by
  refine ⟨_, rfl, gateRequest_lawful (fun c i g u hu => ?_) s hs⟩
  split
  · exact reply_lawful hu ..
  next h =>
    have carries := carries_of_holderChecks h
    split
    · exact reply_lawful hu ..
    · split
      · exact startOffer_lawful hu carries ..
      · exact reply_lawful hu ..
    · exact startToAuto_lawful hu carries ..

theorem execResume_lawful (hs : s.Lawful) : ∃ t, execResume b slot gate s = .next t ∧ t.Lawful := by
  refine ⟨_, rfl, gateRequest_lawful (fun c i g u hu => ?_) s hs⟩
  split
  · exact reply_lawful hu ..
  next h => exact startToAuto_lawful hu (carries_of_holderChecks h) ..

theorem execAccept_lawful (hs : s.Lawful) : ∃ t, execAccept b slot s = .next t ∧ t.Lawful := by
  refine ⟨_, rfl, slotRequest_lawful (fun c i u hu => ?_) s hs⟩
  split
  · exact enterGating_lawful (reply_lawful (modChair_lawful (moveToGating_lawful hu i) c _) ..) i
  · exact reply_lawful hu ..

theorem execDecline_lawful (hs : s.Lawful) : ∃ t, execDecline b slot s = .next t ∧ t.Lawful := by
  refine ⟨_, rfl, slotRequest_lawful (fun c i u hu => ?_) s hs⟩
  split
  · exact reply_lawful (abandon_lawful hu i _) ..
  · exact reply_lawful hu ..

theorem execReady_lawful (hs : s.Lawful) : ∃ t, execReady b s = .next t ∧ t.Lawful := by
  refine ⟨_, rfl, event_lawful (takeRequest_lawful _ _ _ (fromChair_lawful _ _ _ fun c u hu => ?_)) s hs⟩
  split
  · exact becomeReady_lawful b c u hu
  · exact reply_lawful hu ..

theorem execPark_lawful (hs : s.Lawful) : ∃ t, execPark b slot s = .next t ∧ t.Lawful := by
  refine ⟨_, rfl, slotRequest_lawful (fun c i u hu => ?_) s hs⟩
  split
  next h => exact parkLoader_lawful hu b slot c h
  next => exact reply_lawful hu ..

theorem execCancel_lawful (hs : s.Lawful) : ∃ t, execCancel b s = .next t ∧ t.Lawful := by
  refine ⟨_, rfl, event_lawful (fun u hu => ?_) s hs⟩
  have heard := goodFrame_lawful hu b.port
  dsimp only
  split
  · exact reply_lawful (cancelOutstanding_lawful heard _ _) ..
  · exact reply_lawful heard ..

theorem execQuery_lawful (target number field index : Byte) (hs : s.Lawful) :
    ∃ t, execQuery b target number field index s = .next t ∧ t.Lawful := by
  refine ⟨_, rfl, event_lawful (takeRequest_lawful _ _ _ fun u hu => ?_) s hs⟩
  split
  · exact reply_lawful hu ..
  · exact fieldError_lawful hu ..

theorem execZoneSet_lawful (zone : Byte) (state : ZoneState) (cap backoff : Half) (allowed : ChairSet) (hs : s.Lawful) :
    ∃ t, execZoneSet b zone state cap backoff allowed s = .next t ∧ t.Lawful := by
  refine ⟨_, rfl, event_lawful (takeRequest_lawful _ _ _ fun u hu => ?_) s hs⟩
  split
  · exact due_lawful (writeZone_lawful b _ _ u hu)
  · exact due_lawful (fieldError_lawful hu ..)

theorem execPolicySet_lawful (field : Byte) (value : PolicyValue) (hs : s.Lawful) :
    ∃ t, execPolicySet b field value s = .next t ∧ t.Lawful := by
  refine ⟨_, rfl, event_lawful (takeRequest_lawful _ _ _ fun u hu => ?_) s hs⟩
  split
  · exact fieldError_lawful hu ..
  · split
    · exact fieldError_lawful hu ..
    next p _ =>
      have written : ({ u with policy := p } : State).Lawful := hu.of_tables rfl rfl rfl rfl rfl
      exact reply_lawful written ..

theorem execForceFree_lawful (hs : s.Lawful) : ∃ t, execForceFree b slot s = .next t ∧ t.Lawful := by
  refine ⟨_, rfl, event_lawful (takeRequest_lawful _ _ _ (withSlot_lawful _ _ _ fun i u hu => ?_)) s hs⟩
  have forced (hc : (u.entry i).state.carries = true) : (reply b .forceFree .done (.slot slot) (forceEntry i u)).Lawful :=
    reply_lawful (forceEntry_lawful hu hc) ..
  split
  next h => exact forced (by rw [h]; rfl)
  next h => exact forced (by rw [h]; rfl)
  next h => exact forced (by rw [h]; rfl)
  next => exact reply_lawful hu ..

theorem execLoaderRestart_lawful (hs : s.Lawful) : ∃ t, execLoaderRestart b slot s = .next t ∧ t.Lawful := by
  refine ⟨_, rfl, event_lawful (takeRequest_lawful _ _ _ (withSlot_lawful _ _ _ fun i u hu => ?_)) s hs⟩
  have restarted : (reply b .loaderRestart .done (.slot slot) (startDiscovery i (u.queueRestart i))).Lawful :=
    reply_lawful (startDiscovery_lawful i _ (hu.of_eases (queueRestart_easesAt u i))) ..
  split
  exacts [restarted, restarted, restarted, reply_lawful hu _ _ _ _]

end

/-! ### The deadlines of a handover -/

section
variable {s : State} (i : Slot)

theorem execOfferDeadlineExpiry_lawful (hs : s.Lawful) : ∃ t, execOfferDeadlineExpiry i s = .next t ∧ t.Lawful := by
  refine ⟨_, rfl, event_lawful (fun u hu => ?_) s hs⟩
  split
  · exact hu
  · split
    · exact hu
    · refine abandon_lawful ?_ i _
      split
      · exact modChair_lawful hu _ _
      · exact hu

theorem execGateDeadlineExpiry_lawful (hs : s.Lawful) : ∃ t, execGateDeadlineExpiry i s = .next t ∧ t.Lawful := by
  refine ⟨_, rfl, event_lawful (fun u hu => ?_) s hs⟩
  split
  · exact hu
  · split
    · exact hu
    · exact abandon_lawful hu i _

/-! ### The commands of the fleet link -/

theorem execCycleExpiry_lawful (hs : s.Lawful) : ∃ t, execCycleExpiry i s = .next t ∧ t.Lawful :=
  ⟨_, rfl, event_lawful (ite_lawful fun _ hu => cycle_lawful i hu) s hs⟩

theorem execForgetExpiry_lawful (hs : s.Lawful) : ∃ t, execForgetExpiry i s = .next t ∧ t.Lawful := by
  refine ⟨_, rfl, event_lawful (fun u hu => ?_) s hs⟩
  split
  next h => exact forget_lawful hu ((hu.slot i).1.linkLost_of_forget h)
  next => exact hu

theorem execAnswerTimerExpiry_lawful (hs : s.Lawful) : ∃ t, execAnswerTimerExpiry i s = .next t ∧ t.Lawful := by
  refine ⟨_, rfl, event_lawful (fun u hu => ?_) s hs⟩
  split
  next h => exact refuse_lawful hu ((hu.slot i).1.discovering_of_answerTimer h) _
  next => exact hu

end

section
variable (u : UnitNumber) {s : State}

theorem execHello_lawful (hs : s.Lawful) : ∃ t, execHello u s = .next t ∧ t.Lawful := by
  refine ⟨_, rfl, event_lawful (fun v hv => ?_) s hs⟩
  split
  · exact raise_lawful hv _ _
  · split
    · exact startDiscovery_lawful _ v hv
    · exact bindUnit_lawful u v hv

theorem execIdAnswer_lawful (name : LoaderName) (period watchdog : Half) (hs : s.Lawful) :
    ∃ t, execIdAnswer u name period watchdog s = .next t ∧ t.Lawful := by
  refine ⟨_, rfl, event_lawful (fromUnit_lawful u fun i v hv => ?_) s hs⟩
  split
  next h => exact sendRead_lawful hv ((hv.slot i).1.discovering_of_stage h) _ _
  next => exact hv

theorem execEntryAnswer_lawful (index : Byte) (descriptor : Option Descriptor) (hs : s.Lawful) :
    ∃ t, execEntryAnswer u index descriptor s = .next t ∧ t.Lawful := by
  refine ⟨_, rfl, event_lawful (fromUnit_lawful u fun i v hv => ?_) s hs⟩
  split
  next h =>
    have discovering := (hv.slot i).1.discovering_of_stage h.1
    split
    · exact takeDescriptor_lawful hv discovering index _
    · exact takeEnd_lawful hv discovering
  next => exact hv

theorem ignoreCall_lawful (i : Slot) : Preserves (ignoreCall i) := fun _ hs => hs.of_tables rfl rfl rfl rfl rfl

theorem execCall_lawful (r : CallReason) (hs : s.Lawful) : ∃ t, execCall u r s = .next t ∧ t.Lawful := by
  refine ⟨_, rfl, event_lawful (fromUnit_lawful u fun i v hv => ?_) s hs⟩
  split
  next auto =>
    split
    next k hk => exact raiseCall_lawful hv (by rwa [slot_of_findCall hk]) r
    next => exact createCall_lawful hv auto r
  next => exact ignoreCall_lawful i v hv

theorem execCallClear_lawful (hs : s.Lawful) : ∃ t, execCallClear u s = .next t ∧ t.Lawful := by
  refine ⟨_, rfl, event_lawful (fromUnit_lawful u fun i v hv => ?_) s hs⟩
  have removed := hv.of_eases (removeCall_easesAt v i)
  split
  · split
    · dsimp only
      split
      · exact abandon_lawful removed i _
      · exact removed
    · exact hv
  · exact ignoreCall_lawful i v hv

theorem execGatewayReadyChange_lawful (asserted : Bool) (hs : s.Lawful) :
    ∃ t, execGatewayReadyChange asserted s = .next t ∧ t.Lawful := by
  refine ⟨_, rfl, event_lawful (fun v hv => ?_) s hs⟩
  exact hv.of_tables rfl rfl rfl rfl rfl

theorem execFleetFrameDepart_lawful (hs : s.Lawful) : ∃ t, execFleetFrameDepart s = .next t ∧ t.Lawful := by
  refine ⟨_, rfl, event_lawful (fun v hv => ?_) s hs⟩
  split
  · exact fleetDeparted_lawful _ _ (hv.of_tables rfl rfl rfl rfl rfl)
  · exact hv

end

/-! ### Every command -/

theorem exec_lawful (cmd : Instr) {s : State} (hs : s.Lawful) : ∃ t, exec cmd s = .next t ∧ t.Lawful := by
  cases cmd with
  | powerOn => exact ⟨_, rfl, lawful_of_reset rfl rfl rfl rfl⟩
  | axis c f => exact execAxis_lawful c f hs
  | idle p => exact ⟨_, rfl, event_lawful (fun _ hu => goodFrame_lawful hu p) s hs⟩
  | badFrame p why => exact ⟨_, rfl, event_lawful (takeBadFrame_lawful p why) s hs⟩
  | take b slot gate => exact execTake_lawful b slot gate hs
  | pass b slot target gate => exact execPass_lawful b slot gate target hs
  | returnLoader b slot gate => exact execReturnLoader_lawful b slot gate hs
  | resume b slot gate => exact execResume_lawful b slot gate hs
  | accept b slot => exact execAccept_lawful b slot hs
  | decline b slot => exact execDecline_lawful b slot hs
  | ready b => exact execReady_lawful b hs
  | unready b =>
    exact ⟨_, rfl, event_lawful (takeRequest_lawful _ _ _ (fromChair_lawful _ _ _ fun c _ hu => becomeUnready_lawful b c hu)) s hs⟩
  | park b slot => exact execPark_lawful b slot hs
  | cancel b => exact execCancel_lawful b hs
  | query b target number field index => exact execQuery_lawful b target number field index hs
  | ack b flags clearCount =>
    exact ⟨_, rfl, event_lawful (takeRequest_lawful _ _ _ fun _ hu => reply_lawful (modPort_lawful hu _ _) _ _ _ _) s hs⟩
  | zoneSet b zone state cap backoff allowed => exact execZoneSet_lawful b zone state cap backoff allowed hs
  | policySet b field value => exact execPolicySet_lawful b field value hs
  | forceFree b slot => exact execForceFree_lawful b slot hs
  | loaderRestart b slot => exact execLoaderRestart_lawful b slot hs
  | resetAll b =>
    exact ⟨_, rfl, event_lawful (takeRequest_lawful _ _ _ fun u _ => reply_lawful (resetAllBlocks_lawful u) _ _ _ _) s hs⟩
  | resetKeep b =>
    exact ⟨_, rfl, event_lawful (takeRequest_lawful _ _ _ fun u _ => reply_lawful (resetKeepAll_lawful u) _ _ _ _) s hs⟩
  | settleExpiry c => exact ⟨_, rfl, event_lawful (ite_lawful (becomePresent_lawful c)) s hs⟩
  | graceExpiry c => exact ⟨_, rfl, event_lawful (ite_lawful (loseGrace_lawful c)) s hs⟩
  | stalenessExpiry c => exact ⟨_, rfl, event_lawful (ite_lawful (goStale_lawful c)) s hs⟩
  | silenceExpiry p => exact ⟨_, rfl, event_lawful (ite_lawful (goOffline_lawful p)) s hs⟩
  | offerDeadlineExpiry i => exact execOfferDeadlineExpiry_lawful i hs
  | gateDeadlineExpiry i => exact execGateDeadlineExpiry_lawful i hs
  | cycleExpiry i => exact execCycleExpiry_lawful i hs
  | forgetExpiry i => exact execForgetExpiry_lawful i hs
  | answerTimerExpiry i => exact execAnswerTimerExpiry_lawful i hs
  | hello u => exact execHello_lawful u hs
  | idAnswer u name period watchdog => exact execIdAnswer_lawful u name period watchdog hs
  | entryAnswer u index descriptor => exact execEntryAnswer_lawful u index descriptor hs
  | call u r => exact execCall_lawful u r hs
  | callClear u => exact execCallClear_lawful u hs
  | telemetry u payload => exact ⟨_, rfl, event_lawful (fromUnit_lawful u fun i => takeTelemetry_lawful i payload) s hs⟩
  | badFleetFrame why => exact ⟨_, rfl, event_lawful (fun _ hu => raise_lawful hu _ _) s hs⟩
  | gatewayReadyChange asserted => exact execGatewayReadyChange_lawful asserted hs
  | fleetFrameDepart => exact execFleetFrameDepart_lawful hs
  | portFrameDepart p => exact execPortFrameDepart_lawful p hs

theorem step_lawful {s t : State} (h : step s = .next t) (hs : s.Lawful) : t.Lawful := by
  unfold step at h
  split at h
  · cases h
    exact hs
  next cmd rest _ =>
    obtain ⟨u, hu, lawful⟩ := exec_lawful cmd (s := { s with pending := rest }) (hs.of_tables rfl rfl rfl rfl rfl)
    rw [hu] at h
    cases h
    exact lawful

end Sys2Proof.Machine

namespace Sys2Proof.Settled

open Sys2Proof.Machine

/-- Settles O51: the laws taken one slot at a time, and each command by what it does to the slots. -/
theorem stepsKeepTheClosedZoneLaw : Obligations.StepsKeepTheClosedZoneLaw := fun s t h authority zones =>
  (lawful_iff t).1 (step_lawful h ((lawful_iff s).2 ⟨authority, zones⟩))

end Sys2Proof.Settled
end

section
/-! SUPPORT. The answers of a loader to READ_ENTRY: the descriptor that joins its list, the end of the list, and the refusals of its
discovery (R138, R140, R143). -/

namespace Sys2Proof.Machine

/-! ### The directions of a list (R139) -/

/-- The two direction tests read the direction byte; any byte but 0 and 1 names no direction. -/
theorem isOut_isIn_eq (d : Descriptor) : isOut d = (d.direction == 0#8) ∧ isIn d = (d.direction == 1#8) := by
  simp only [isOut, isIn, directionOf, ← BitVec.toNat_inj, Bool.beq_eq_decide_eq, BitVec.toNat_ofNat]
  match d.direction.toNat with
  | 0 | 1 => exact ⟨rfl, rfl⟩
  | _ + 2 => simp

/-- The model's test of a descriptor that finds no room is that of R138. -/
theorem wouldOverflow_iff (d : Descriptor) (ds : List Descriptor) : wouldOverflow d ds = true ↔ tooMany ds d := by
  have outs : outChannels ds = ds.filter fun k => k.direction == 0#8 := List.filter_congr fun k _ => (isOut_isIn_eq k).1
  have ins : inChannels ds = ds.filter fun k => k.direction == 1#8 := List.filter_congr fun k _ => (isOut_isIn_eq k).2
  simp [wouldOverflow, outs, ins, isOut_isIn_eq, or_assoc]

/-! ### Refusals and reads (R143, R152) -/

/-- A refusal in stage `st`: the read withdrawn, the entry REFUSED, the cause recorded, and the service link told. -/
theorem refuse_of_stage {s : State} {i : Slot} {st : Stage} (hs : (s.context i).stage = some st) (cause : Code) :
    refuse i cause s =
      (({ s with fleetQueue := s.fleetQueue.filter (fun f => !f.isReadOf i) }.setEntry i
        { s.entry i with state := .refused, holder := none, ramp := none, zoneDrop := false }).setContext i
        { s.context i with
          stage := none, read := none, answerTimer := none, refusal := some ⟨cause, st, (s.context i).read⟩ }).told
        (.refused i (s.unitNumber i) ⟨cause, st, (s.context i).read⟩) := by
  simp only [refuse, hs, Option.getD_some]
  rfl

theorem refuse_quiet {s : State} (hq : s.Quiet) (i : Slot) (cause : Code) : (refuse i cause s).Quiet :=
  (send_dispatchDue _ .service _).trans hq

theorem sendRead_eq (i : Slot) (r : Read) (f : Context → Context) (s : State) :
    sendRead i r f s =
      { s with fleetQueue := placeRead (.read i (s.unitNumber i) r) s.fleetQueue }.setContext i
        { f (s.context i) with read := some r, answerTimer := none } := rfl

/-! ### The answers by the outstanding read (R138, R144) -/

section
variable {s : State} {u : UnitNumber} {i : Slot} {n : Byte}

theorem exec_entryAnswer_of_outstanding (hq : s.Quiet) (hu : s.slotOfUnit u = some i)
    (hr : (s.context i).stage = some .readingEntries ∧ (s.context i).read = some (.readEntry n)) (d : Option Descriptor) :
    exec (.entryAnswer u n d) s = .next (finish (d.elim (takeEnd i s) fun d => takeDescriptor i n d s)) := by
  refine congrArg Host.Outcome.next ((event_fromUnit hq hu _).trans ?_)
  rw [if_pos hr]
  cases d <;> rfl

theorem exec_entryAnswer_of_other (hq : s.Quiet) (hu : s.slotOfUnit u = some i)
    (hr : ¬ ((s.context i).stage = some .readingEntries ∧ (s.context i).read = some (.readEntry n))) (d : Option Descriptor) :
    exec (.entryAnswer u n d) s = .next s := by
  refine congrArg Host.Outcome.next ((event_fromUnit hq hu _).trans ?_)
  rw [if_neg hr]
  exact finish_of_quiet hq

theorem takeDescriptor_of_tooMany {d : Descriptor} (hd : tooMany (s.context i).descriptors d) :
    takeDescriptor i n d s = refuse i .descriptorOversize s := if_pos ((wouldOverflow_iff ..).2 hd)

theorem takeDescriptor_of_room {d : Descriptor} (hd : ¬ tooMany (s.context i).descriptors d) :
    takeDescriptor i n d s =
      sendRead i (.readEntry (n + 1#8)) (fun x => { x with descriptors := x.descriptors ++ [d] }) s :=
  if_neg (mt (wouldOverflow_iff ..).1 hd)

theorem takeEnd_of_valid {p w : Nat} (hp : (s.context i).period = some p) (hw : (s.context i).watchdog = some w)
    (hv : validate (s.context i).descriptors p w = none) :
    takeEnd i s =
      s.setContext i
        { s.context i with
          stage := some .awaitingTelemetry, read := none, answerTimer := none
          admitted := some (admissionOf (s.context i).descriptors) } := by
  simp [takeEnd, hp, hw, hv]

theorem takeEnd_of_invalid {p w : Nat} {cause : Code} (hp : (s.context i).period = some p) (hw : (s.context i).watchdog = some w)
    (hv : validate (s.context i).descriptors p w = some cause) : takeEnd i s = refuse i cause s := by
  simp [takeEnd, hp, hw, hv]

end

end Sys2Proof.Machine

namespace Sys2Proof.Settled

open Sys2Proof.Machine

/-- Settles O34: the outstanding answer with a descriptor, by whether it finds room, and with END, by the list's validation; and any
other answer. -/
theorem entryAnswersBuildTheList : Obligations.EntryAnswersBuildTheList := by
  intro s u i n hq hu
  refine ⟨fun hs hr => ⟨fun d hd => ?_, fun d hd => ?_, fun p hp w hw => ⟨fun hv => ?_, fun cause hv => ?_⟩⟩,
    exec_entryAnswer_of_other hq hu⟩
  all_goals rw [exec_entryAnswer_of_outstanding hq hu ⟨hs, hr⟩]
  · rw [Option.elim_some, takeDescriptor_of_room hd, sendRead_eq, finish_of_quiet (by exact hq)]
  · rw [Option.elim_some, takeDescriptor_of_tooMany hd, finish_of_quiet (refuse_quiet hq ..), refuse_of_stage hs, hr]
  · rw [Option.elim_none, takeEnd_of_valid hp hw hv, finish_of_quiet (by exact hq)]
  · rw [Option.elim_none, takeEnd_of_invalid hp hw hv, finish_of_quiet (refuse_quiet hq ..), refuse_of_stage hs, hr]

end Sys2Proof.Settled
end

section
/-! SUPPORT. How a request of the supervisor runs when the service port takes it, and POLICY_SET: the numbers of the policy fields, and
what a write leaves of every field (R172, R173). -/

namespace Sys2Proof.Machine

/-! ### A request that the service port takes -/

/-- The state in which the service port has just taken a valid frame, which brings it online (R86 to R88, R91). -/
def State.serviceHeard (s : State) : State := { s with service := { online := true, port := s.service.port.heard } }

theorem goodFrame_service (s : State) : goodFrame .service s = s.serviceHeard := by
  have online : comeOnline .service s = { s with service := { s.service with online := true } } := by
    unfold comeOnline
    split
    · next h => rw [← show s.service.online = true from h]
    · rfl
  rw [goodFrame, online]
  rfl

/-- A request that the service port takes is an event of the frame heard and the owning block's effects (R164). -/
theorem event_takeRequest_service {s : State} (hq : s.Quiet) (ht : s.ServiceTakes) (tag : Tag) {kind : RequestKind}
    (hk : kind.acceptedOn .service = true) (content : Content) (owner : State → State) :
    event (takeRequest ⟨.service, tag⟩ kind content owner) s = finish (owner s.serviceHeard) := by
  have quiet : ({ s with dispatchDue := false } : State) = s := by rw [← show s.dispatchDue = false from hq]
  have slotFree : (s.serviceHeard.port .service).outstanding = none := ht
  simp [event, quiet, takeRequest, goodFrame_service, slotFree, hk]

@[simp] theorem policy_serviceReplied (s : State) (a : Answer) : (s.serviceReplied a).policy = s.policy := rfl

/-- A request that is only answered changes the service port alone. -/
theorem finish_reply_serviceHeard {s : State} (hq : s.Quiet) (tag : Tag) (kind : RequestKind) (code : Code) (content : Content) :
    finish (reply ⟨.service, tag⟩ kind code content s.serviceHeard) =
      s.serviceReplied { kind := kind, tag := tag, code := code, content := content } :=
  finish_of_quiet (by exact hq)

/-- A FIELD_ERROR answer on the service port, with FIELD set before it (R164, R187). -/
theorem finish_fieldError_serviceHeard {s : State} (hq : s.Quiet) (tag : Tag) (kind : RequestKind) (content : Content) :
    finish (fieldError ⟨.service, tag⟩ kind content s.serviceHeard) =
      ({ s with service := { s.service with port := s.service.port.raise .field } } : State).serviceReplied
        { kind := kind, tag := tag, code := .fieldError, content := content } :=
  finish_of_quiet (by exact hq)

/-! ### The numbers of the policy fields (R172, R186) -/

theorem policyFields_eq :
    policyFields = numFields.map .number ++ (handoverKinds.map .gate ++ [.writeCount]) := rfl

theorem policyFieldOf_eq_number_iff (b : Byte) (f : NumField) :
    policyFieldOf b = some (.number f) ↔ numFields[b.toNat]? = some f := by
  rw [policyFieldOf, policyFields_eq, List.getElem?_append]
  split
  · simp
  next beyond =>
    have noNumber : PolicyField.number f ∉ handoverKinds.map .gate ++ [.writeCount] := by simp
    have past : numFields.length ≤ b.toNat := by simpa using beyond
    simp [List.getElem?_eq_none past, mt List.mem_of_getElem? noNumber]

theorem policyFieldOf_eq_gate_iff (b : Byte) (k : HandoverKind) :
    policyFieldOf b = some (.gate k) ↔ 11 ≤ b.toNat ∧ handoverKinds[b.toNat - 11]? = some k := by
  have eleven : (numFields.map PolicyField.number).length = 11 := rfl
  rw [policyFieldOf, policyFields_eq, List.getElem?_append, eleven]
  split
  next before => simp [Nat.not_le.2 before]
  next beyond =>
    rw [List.getElem?_append]
    split
    · simp [Nat.not_lt.1 beyond]
    next last =>
      have noGate : PolicyField.gate k ∉ [PolicyField.writeCount] := by simp
      have past : handoverKinds.length ≤ b.toNat - 11 := by simpa using last
      simp [List.getElem?_eq_none past, mt List.mem_of_getElem? noGate]

/-! ### What a write leaves of every field (R172, R173) -/

theorem NumField.get_put (f g : NumField) (v : Nat) (p : Policy) : g.get (f.put v p) = if g = f then v else g.get p := by
  cases f <;> cases g <;> rfl

theorem Policy.gateFor_putGate (k l : HandoverKind) (g : Gate) (p : Policy) :
    (p.putGate g k).gateFor l = if l = k then g else p.gateFor l := by
  cases k <;> cases l <;> rfl

@[simp] theorem Policy.gateFor_put (k : HandoverKind) (f : NumField) (v : Nat) (p : Policy) : (f.put v p).gateFor k = p.gateFor k := by
  cases f <;> rfl

@[simp] theorem NumField.get_putGate (f : NumField) (k : HandoverKind) (g : Gate) (p : Policy) : f.get (p.putGate g k) = f.get p := by
  cases k <;> rfl

/-- The table with one more write counted, WRITE_COUNT having stood at `n`. -/
def Policy.counted (n : Nat) (p : Policy) : Policy := { p with writeCount := if n < 65535 then n + 1 else 65535 }

@[simp] theorem NumField.get_counted (f : NumField) (n : Nat) (p : Policy) : f.get (p.counted n) = f.get p := by
  cases f <;> rfl

@[simp] theorem Policy.gateFor_counted (k : HandoverKind) (n : Nat) (p : Policy) : (p.counted n).gateFor k = p.gateFor k := by
  cases k <;> rfl

@[simp] theorem Policy.writeCount_counted (n : Nat) (p : Policy) :
    (p.counted n).writeCount = if n < 65535 then n + 1 else 65535 := rfl

theorem min_succ_eq_ite (m n : Nat) : min m (n + 1) = if n < m then n + 1 else m := by
  split <;> omega

theorem NumField.range_fst_le_snd (f : NumField) : f.range.1 ≤ f.range.2 := by
  cases f <;> decide

/-- A number is stored as the nearest one in its range. -/
theorem clampTo_eq_ite {lo hi : Nat} (h : lo ≤ hi) (n : Nat) : clampTo lo hi n = if n < lo then lo else if hi < n then hi else n := by
  unfold clampTo
  split_ifs <;> omega

theorem Policy.write_number (p : Policy) (f : NumField) (v : Half) :
    p.write (.number f) (.number v) =
      some ((f.put (if v.toNat < f.range.1 then f.range.1 else if f.range.2 < v.toNat then f.range.2 else v.toNat) p).counted
        p.writeCount) := by
  rw [Policy.write, clampTo_eq_ite f.range_fst_le_snd, min_succ_eq_ite]
  rfl

theorem Policy.write_gate (p : Policy) (k : HandoverKind) (g : GateIn) :
    p.write (.gate k) (.gate g) = (gateOf g).map fun r => (p.putGate r k).counted p.writeCount := by
  rw [Policy.write, min_succ_eq_ite]
  rfl

/-- A number is refused by every field but a numeric one. -/
theorem Policy.write_number_eq_none {p : Policy} {x : PolicyField} (h : ∀ f, x ≠ .number f) (v : Half) :
    p.write x (.number v) = none := by
  cases x with
  | number f => exact absurd rfl (h f)
  | gate k => rfl
  | writeCount => rfl

/-- A gate record is refused by every field but a gate, and by a gate when its phase is out of range. -/
theorem Policy.write_gate_eq_none {p : Policy} {x : PolicyField} {g : GateIn} (h : ∀ k, x = .gate k → gateOf g = none) :
    p.write x (.gate g) = none := by
  cases x with
  | number f => rfl
  | gate k => rw [Policy.write_gate, h k rfl, Option.map_none]
  | writeCount => rfl

/-! ### POLICY_SET (R173) -/

section
variable {s : State} {tag : Tag} {field : Byte} {value : PolicyValue}

theorem exec_policySet_of_write (hq : s.Quiet) (ht : s.ServiceTakes) {x : PolicyField} (hx : policyFieldOf field = some x) {p : Policy}
    (hw : s.policy.write x value = some p) :
    exec (.policySet ⟨.service, tag⟩ field value) s =
      .next (({ s with policy := p } : State).serviceReplied
        { kind := .policySet, tag := tag, code := .done, content := .policyStored x (p.value x) p.writeCount }) := by
  have heard : s.serviceHeard.policy.write x value = some p := hw
  refine congrArg Host.Outcome.next ((event_takeRequest_service hq ht tag rfl _ _).trans ?_)
  simp only [hx, heard]
  exact finish_reply_serviceHeard (s := { s with policy := p }) hq ..

theorem exec_policySet_of_refused (hq : s.Quiet) (ht : s.ServiceTakes)
    (hw : ∀ x, policyFieldOf field = some x → s.policy.write x value = none) :
    exec (.policySet ⟨.service, tag⟩ field value) s =
      .next (({ s with service := { s.service with port := s.service.port.raise .field } } : State).serviceReplied
        { kind := .policySet, tag := tag, code := .fieldError, content := .nothing }) := by
  refine congrArg Host.Outcome.next ((event_takeRequest_service hq ht tag rfl _ _).trans ?_)
  cases hx : policyFieldOf field with
  | none => exact finish_fieldError_serviceHeard hq ..
  | some x =>
    have heard : s.serviceHeard.policy.write x value = none := hw x hx
    simp only [heard]
    exact finish_fieldError_serviceHeard hq ..

end

end Sys2Proof.Machine

namespace Sys2Proof.Settled

open Sys2Proof.Machine

/-- Settles O29: a number for a numeric field, a gate record for a gate, and the refusals of the values of either form. -/
theorem policySetWritesTheTable : Obligations.PolicySetWritesTheTable := by
  intro s tag field hq ht
  refine ⟨fun v f hf => ?_, fun g r hg hle k hk => ?_, fun v hle => ?_, fun g hg => ?_⟩
  · have named := (policyFieldOf_eq_number_iff field f).2 hf
    refine ⟨_, exec_policySet_of_write hq ht named (s.policy.write_number f v), ?_, ?_, rfl, fun f' _ hne => ?_, fun k _ => ?_⟩
    · simp [Policy.value, NumField.get_put]
    · simp [NumField.get_put]
    · simp [NumField.get_put, hne]
    · simp
  · have named := (policyFieldOf_eq_gate_iff field k).2 ⟨hle, hk⟩
    have written := (s.policy.write_gate k g).trans (congrArg (Option.map _) hg)
    refine ⟨_, exec_policySet_of_write hq ht named written, ?_, ?_, rfl, fun k' _ hne => ?_, fun f _ => ?_⟩
    · simp [Policy.value, Policy.gateFor_putGate]
    · simp [Policy.gateFor_putGate]
    · simp [Policy.gateFor_putGate, hne]
    · simp
  · refine exec_policySet_of_refused hq ht fun x hx => Policy.write_number_eq_none (fun f hf => ?_) v
    obtain ⟨within, _⟩ := List.getElem?_eq_some_iff.1 ((policyFieldOf_eq_number_iff field f).1 (hf ▸ hx))
    exact absurd within (Nat.not_lt.2 hle)
  · refine exec_policySet_of_refused hq ht fun x hx => Policy.write_gate_eq_none fun k hk => ?_
    obtain ⟨least, found⟩ := (policyFieldOf_eq_gate_iff field k).1 (hk ▸ hx)
    obtain ⟨within, _⟩ := List.getElem?_eq_some_iff.1 found
    have most : field.toNat - 11 < 5 := within
    rcases hg with below | above | phase
    · omega
    · omega
    · exact phase

end Sys2Proof.Settled
end


section
/-! SUPPORT. An abandonment, a transfer and an entry's leaving authority as their parts in order, and each chair after them (R14, R44 to
R46). -/

namespace Sys2Proof.Machine

/-! ### The parts of an abandonment and of a transfer -/

/-- The attached call released, where the cause says so (R46, R63). -/
def callReleased (i : Slot) (h : Handover) (cause : Code) (s : State) : State :=
  if h.callAttached && cause.releasesCall then releaseCall i h cause s else s

/-- The chair target returned to READY or IDLE (R46). -/
def targetSettled (h : Handover) (s : State) : State :=
  match h.target with
  | .chair t => s.settleChair t
  | .auto => s

/-- The requester answered (R45, R46). -/
def requesterAnswered (h : Handover) (code : Code) (s : State) : State :=
  match h.requester with
  | some r => s.answerOutstanding r code
  | none => s

/-- The chair target DRIVING (R45). -/
def targetDriving (h : Handover) (s : State) : State :=
  match h.target with
  | .chair t => s.setChairState t .driving
  | .auto => s

/-- The chair source returned to READY or IDLE (R45). -/
def sourceSettled (h : Handover) (s : State) : State :=
  match h.source with
  | some (.chair c) => s.settleChair c
  | _ => s

/-- HOLDING to a chair target that did not ask (R45). -/
def targetTold (i : Slot) (h : Handover) (s : State) : State :=
  match h.target with
  | .chair t => if h.requester = some t then s else s.notify (.chair t) (.holding i h.kind h.source)
  | .auto => s

/-- The call of an AUTO entry removed (R14). -/
def autoCallRemoved (i : Slot) (st : EntryState) (s : State) : State := if st = .auto then s.removeCall i else s

theorem abandon_of_none {s : State} {i : Slot} (cause : Code) (hh : (s.entry i).handover = none) : abandon i cause s = s := by
  simp [abandon, hh]

theorem abandon_of_some {s : State} {i : Slot} {h : Handover} (cause : Code) (hh : (s.entry i).handover = some h) :
    abandon i cause s =
      notifyTarget i h cause (requesterAnswered h cause (targetSettled h (callReleased i h cause
        (s.setEntry i { s.entry i with handover := none })))) := by
  unfold abandon
  rw [hh]
  rfl

theorem transfer_eq (i : Slot) (h : Handover) (s : State) :
    transfer i h s =
      targetTold i h (requesterAnswered h .done (sourceSettled h (targetDriving h
        ((s.setEntry i (entryAfter h s.policy (s.entry i))).removeCall i)))) := rfl

theorem leave_eq (i : Slot) (cause : Code) (lost : Option Code) (f : Entry → Entry) (s : State) :
    leave i cause lost f s =
      autoCallRemoved i (s.entry i).state (releaseHolder i (s.entry i) lost ((abandon i cause s).modEntry i f)) := rfl

/-! ### One chair after each part -/

section
variable (i : Slot) (h : Handover) (s : State) (d : ChairId)

theorem chair_answerOutstanding (c : ChairId) (code : Code) :
    (s.answerOutstanding c code).chair d = if c = d then (s.chair d).answered code else s.chair d := by
  rw [answerOutstanding_eq_setChair, State.chair_setChair]
  split
  next hc => rw [hc]
  next => rfl

theorem chair_setChairState (c : ChairId) (st : ChairState) :
    (s.setChairState c st).chair d = if c = d then { s.chair d with state := st } else s.chair d := by
  rw [State.setChairState, State.modChair, State.chair_setChair]
  split
  next hc => rw [hc]
  next => rfl

theorem chair_callReleased (cause : Code) : (callReleased i h cause s).chair d = s.chair d := by
  unfold callReleased
  split <;> rfl

theorem chair_targetSettled :
    (targetSettled h s).chair d = if h.target = .chair d then (s.chair d).settled else s.chair d := by
  unfold targetSettled
  cases h.target with
  | auto => simp
  | chair t => simp [chair_settleChair]

theorem chair_requesterAnswered (code : Code) :
    (requesterAnswered h code s).chair d = if h.requester = some d then (s.chair d).answered code else s.chair d := by
  unfold requesterAnswered
  cases h.requester with
  | none => simp
  | some r => simp [chair_answerOutstanding]

theorem chair_targetDriving :
    (targetDriving h s).chair d = if h.target = .chair d then { s.chair d with state := .driving } else s.chair d := by
  unfold targetDriving
  cases h.target with
  | auto => simp
  | chair t => simp [chair_setChairState]

theorem chair_sourceSettled :
    (sourceSettled h s).chair d = if h.source = some (.chair d) then (s.chair d).settled else s.chair d := by
  unfold sourceSettled
  split
  next c hc => simp [hc, chair_settleChair]
  next hn => rw [if_neg (hn d)]

theorem chair_notify_of_online (c : ChairId) (n : Notice) (online : (s.chair c).state ≠ .offline) :
    (s.notify (.chair c) n).chair d = if c = d then (s.chair d).queued (.notice n) else s.chair d := by
  rw [State.notify, chair_send_chair]
  simp [online]

/-- The notice to the chair target of an ended handover, which is online. -/
theorem chair_notifyTarget (cause : Code) (online : ∀ t, h.target = .chair t → (s.chair t).state ≠ .offline) :
    (notifyTarget i h cause s).chair d =
      if h.target = .chair d ∧ h.requester ≠ some d ∧ cause ≠ .declined then
        (s.chair d).queued (.notice (match h.phase with
          | .offering => .offerWithdrawn i cause
          | .gating => .abandoned i cause))
      else s.chair d := by
  unfold notifyTarget
  cases ht : h.target with
  | auto => simp
  | chair t =>
    have on := online t ht
    by_cases silent : h.requester = some t ∨ cause = .declined
    · have no : ¬ (t = d ∧ h.requester ≠ some d ∧ cause ≠ .declined) := by
        rintro ⟨rfl, ask, told⟩
        exact silent.elim ask told
      simp [silent, no]
    · obtain ⟨ask, told⟩ := not_or.1 silent
      cases h.phase <;> by_cases hd : t = d <;> simp_all [chair_notify_of_online]

theorem chair_targetTold (online : ∀ t, h.target = .chair t → (s.chair t).state ≠ .offline) :
    (targetTold i h s).chair d =
      if h.target = .chair d ∧ h.requester ≠ some d then (s.chair d).queued (.notice (.holding i h.kind h.source)) else s.chair d := by
  unfold targetTold
  cases ht : h.target with
  | auto => simp
  | chair t =>
    have on := online t ht
    by_cases ask : h.requester = some t <;> by_cases hd : t = d <;> simp_all [chair_notify_of_online]

theorem chair_releaseHolder (e : Entry) (lost : Code) :
    (releaseHolder i e (some lost) s).chair d =
      if e.state = .held ∧ e.holder = some (.chair d) then (s.chair d).settled.queued (.notice (.lost i lost)) else s.chair d := by
  unfold releaseHolder
  split
  next c hs hh =>
    rw [chair_notify_of_online _ _ _ _ (by rw [chair_settleChair, if_pos rfl]; exact Chair.settled_state_ne_offline _)]
    by_cases hd : c = d <;> simp [hs, hh, hd, chair_settleChair]
  next hn => rw [if_neg fun h => hn d h.1 h.2]

end

/-! ### The dispatcher's flag -/

section
variable (i : Slot) (h : Handover) (s : State)

theorem dispatchDue_settleChair (c : ChairId) : (s.settleChair c).dispatchDue = ((s.chair c).latch || s.dispatchDue) := by
  rw [settleChair_eq_setChair]

theorem dispatchDue_requesterAnswered (code : Code) : (requesterAnswered h code s).dispatchDue = s.dispatchDue := by
  unfold requesterAnswered
  split
  · rw [answerOutstanding_eq_setChair, State.setChair_dispatchDue]
  · rfl

theorem dispatchDue_targetDriving : (targetDriving h s).dispatchDue = s.dispatchDue := by
  unfold targetDriving
  split <;> rfl

theorem dispatchDue_notifyTarget (cause : Code) : (notifyTarget i h cause s).dispatchDue = s.dispatchDue := by
  unfold notifyTarget
  split
  · rfl
  · split
    · rfl
    · split <;> exact send_dispatchDue ..

theorem dispatchDue_targetTold : (targetTold i h s).dispatchDue = s.dispatchDue := by
  unfold targetTold
  split
  · split
    · rfl
    · exact send_dispatchDue ..
  · rfl

theorem dispatchDue_targetSettled :
    (targetSettled h s).dispatchDue = true ↔ s.dispatchDue = true ∨ ∃ t, h.target = .chair t ∧ (s.chair t).latch = true := by
  unfold targetSettled
  cases h.target with
  | auto => simp
  | chair t => simp [dispatchDue_settleChair, or_comm]

theorem dispatchDue_sourceSettled :
    (sourceSettled h s).dispatchDue = true ↔ s.dispatchDue = true ∨ ∃ c, h.source = some (.chair c) ∧ (s.chair c).latch = true := by
  unfold sourceSettled
  split
  next c hc => simp [hc, dispatchDue_settleChair, or_comm]
  next hn => exact ⟨.inl, fun h => h.elim id fun ⟨c, hc, _⟩ => absurd hc (hn c)⟩

theorem dispatchDue_callReleased (cause : Code) :
    (callReleased i h cause s).dispatchDue = true ↔ s.dispatchDue = true ∨ (h.callAttached && cause.releasesCall) = true := by
  unfold callReleased
  split <;> simp_all [releaseCall, State.due]

end

/-! ### The tables and the service port -/

/-- The authority table, the call queue, the pointer and the service port are as they were. -/
abbrev SameDesk (s t : State) : Prop := SameTable s t ∧ t.service = s.service

theorem SameDesk.refl (s : State) : SameDesk s s := ⟨.refl s, rfl⟩

theorem SameDesk.trans {s t u : State} (h : SameDesk s t) (k : SameDesk t u) : SameDesk s u :=
  ⟨h.1.trans k.1, k.2.trans h.2⟩

section
variable (i : Slot) (h : Handover) (s : State)

theorem settleChair_desk (c : ChairId) : SameDesk s (s.settleChair c) :=
  ⟨settleChair_table c s, by rw [settleChair_eq_setChair]; rfl⟩

theorem notify_chair_desk (c : ChairId) (n : Notice) : SameDesk s (s.notify (.chair c) n) :=
  ⟨send_table _ _ s, service_send_chair s c _⟩

theorem targetSettled_desk : SameDesk s (targetSettled h s) := by
  unfold targetSettled
  split
  · exact settleChair_desk s _
  · exact .refl s

theorem targetDriving_desk : SameDesk s (targetDriving h s) := by
  unfold targetDriving
  split <;> exact .refl s

theorem sourceSettled_desk : SameDesk s (sourceSettled h s) := by
  unfold sourceSettled
  split
  · exact settleChair_desk s _
  · exact .refl s

theorem requesterAnswered_desk (code : Code) : SameDesk s (requesterAnswered h code s) := by
  unfold requesterAnswered
  split
  · exact ⟨answerOutstanding_table _ _ s, by rw [answerOutstanding_eq_setChair, State.setChair_service]⟩
  · exact .refl s

theorem notifyTarget_desk (cause : Code) : SameDesk s (notifyTarget i h cause s) := by
  unfold notifyTarget
  split
  · exact .refl s
  · split
    · exact .refl s
    · split <;> exact notify_chair_desk s _ _

theorem targetTold_desk : SameDesk s (targetTold i h s) := by
  unfold targetTold
  split
  · split
    · exact .refl s
    · exact notify_chair_desk s _ _
  · exact .refl s

theorem releaseHolder_desk (e : Entry) (lost : Option Code) : SameDesk s (releaseHolder i e lost s) := by
  unfold releaseHolder
  split
  next c _ _ =>
    refine (settleChair_desk s c).trans ?_
    cases lost with
    | some cause => exact notify_chair_desk _ _ _
    | none => exact .refl _
  next => exact .refl s

/-- Beyond the entry and the call, an abandonment writes chairs alone. -/
theorem abandon_desk {i : Slot} {h : Handover} {s : State} (cause : Code) (hh : (s.entry i).handover = some h) :
    SameDesk (callReleased i h cause (s.setEntry i { s.entry i with handover := none })) (abandon i cause s) := by
  rw [abandon_of_some cause hh]
  exact (targetSettled_desk h _).trans ((requesterAnswered_desk h _ cause).trans (notifyTarget_desk i h _ cause))

/-- Beyond its entry and its call, a transfer writes chairs alone. -/
theorem transfer_desk : SameDesk ((s.setEntry i (entryAfter h s.policy (s.entry i))).removeCall i) (transfer i h s) := by
  rw [transfer_eq]
  exact (targetDriving_desk h _).trans ((sourceSettled_desk h _).trans
    ((requesterAnswered_desk h _ .done).trans (targetTold_desk i h _)))

end

/-! ### The chairs and the flag after the whole -/

/-- A chair after an abandonment (R46). -/
def Chair.abandoned (i : Slot) (h : Handover) (cause : Code) (d : ChairId) (x : Chair) : Chair :=
  let x := if h.target = .chair d then x.settled else x
  let x := if h.requester = some d then x.answered cause else x
  if h.target = .chair d ∧ h.requester ≠ some d ∧ cause ≠ .declined then
    x.queued (.notice (match h.phase with
      | .offering => .offerWithdrawn i cause
      | .gating => .abandoned i cause))
  else x

/-- A chair after a transfer (R45). -/
def Chair.transferred (i : Slot) (h : Handover) (d : ChairId) (x : Chair) : Chair :=
  let x := if h.target = .chair d then { x with state := .driving } else x
  let x := if h.source = some (.chair d) then x.settled else x
  let x := if h.requester = some d then x.answered .done else x
  if h.target = .chair d ∧ h.requester ≠ some d then x.queued (.notice (.holding i h.kind h.source)) else x

section
variable {i : Slot} {h : Handover} {s : State}

theorem abandon_chair (cause : Code) (hh : (s.entry i).handover = some h) (d : ChairId) :
    (abandon i cause s).chair d = (s.chair d).abandoned i h cause d := by
  rw [abandon_of_some cause hh, chair_notifyTarget]
  · simp only [chair_requesterAnswered, chair_targetSettled, chair_callReleased, State.setEntry_chair, Chair.abandoned]
  · intro t ht
    rw [chair_requesterAnswered, chair_targetSettled, if_pos ht]
    split
    · rw [Chair.answered_state]
      exact Chair.settled_state_ne_offline _
    · exact Chair.settled_state_ne_offline _

theorem abandon_dispatchDue (cause : Code) (hh : (s.entry i).handover = some h) :
    (abandon i cause s).dispatchDue = true ↔
      s.dispatchDue = true ∨ (h.callAttached && cause.releasesCall) = true ∨ ∃ t, h.target = .chair t ∧ (s.chair t).latch = true := by
  rw [abandon_of_some cause hh, dispatchDue_notifyTarget, dispatchDue_requesterAnswered, dispatchDue_targetSettled,
    dispatchDue_callReleased, or_assoc]
  simp only [chair_callReleased, State.setEntry_chair, State.setEntry_dispatchDue]

theorem abandon_calls (cause : Code) (hh : (s.entry i).handover = some h) :
    (abandon i cause s).calls = (callReleased i h cause s).calls := by
  rw [(abandon_desk cause hh).1.2.1]
  unfold callReleased
  split <;> rfl

theorem abandon_service (i : Slot) (cause : Code) (s : State) :
    (abandon i cause s).pointer = s.pointer ∧ (abandon i cause s).service = s.service := by
  cases hh : (s.entry i).handover with
  | none => rw [abandon_of_none cause hh]; exact ⟨rfl, rfl⟩
  | some h =>
    rw [(abandon_desk cause hh).1.2.2, (abandon_desk cause hh).2]
    unfold callReleased
    split <;> exact ⟨rfl, rfl⟩

theorem transfer_chair (i : Slot) (h : Handover) (s : State) (d : ChairId) :
    (transfer i h s).chair d = (s.chair d).transferred i h d := by
  rw [transfer_eq, chair_targetTold]
  · simp only [chair_requesterAnswered, chair_sourceSettled, chair_targetDriving, Chair.transferred]
    rfl
  · intro t ht
    rw [chair_requesterAnswered, chair_sourceSettled, chair_targetDriving, if_pos ht]
    split <;> split <;> simp [Chair.settled_state_ne_offline]

theorem transfer_dispatchDue (i : Slot) (h : Handover) (s : State) :
    (transfer i h s).dispatchDue = true ↔ s.dispatchDue = true ∨ ∃ c, h.source = some (.chair c) ∧ (s.chair c).latch = true := by
  have latch (c : ChairId) : ((targetDriving h ((s.setEntry i (entryAfter h s.policy (s.entry i))).removeCall i)).chair c).latch =
      (s.chair c).latch := by
    rw [chair_targetDriving]
    split <;> rfl
  rw [transfer_eq, dispatchDue_targetTold, dispatchDue_requesterAnswered, dispatchDue_sourceSettled, dispatchDue_targetDriving]
  simp only [latch]
  rfl

theorem leave_chair (i : Slot) (cause lost : Code) (f : Entry → Entry) (s : State) (d : ChairId) :
    (leave i cause (some lost) f s).chair d =
      if (s.entry i).state = .held ∧ (s.entry i).holder = some (.chair d) then
        ((abandon i cause s).chair d).settled.queued (.notice (.lost i lost))
      else (abandon i cause s).chair d := by
  have removed (u : State) : (autoCallRemoved i (s.entry i).state u).chair d = u.chair d := by
    unfold autoCallRemoved
    split <;> rfl
  rw [leave_eq, removed, chair_releaseHolder]
  rfl

theorem leave_desk (i : Slot) (cause : Code) (lost : Option Code) (f : Entry → Entry) (s : State) :
    (leave i cause lost f s).calls =
        (if (s.entry i).state = .auto then (abandon i cause s).calls.filter (fun k => k.slot ≠ i) else (abandon i cause s).calls) ∧
      (leave i cause lost f s).pointer = s.pointer ∧ (leave i cause lost f s).service = s.service := by
  obtain ⟨⟨-, calls, pointer⟩, service⟩ :=
    releaseHolder_desk i ((abandon i cause s).modEntry i f) (s.entry i) lost
  obtain ⟨pointer', service'⟩ := abandon_service i cause s
  rw [leave_eq]
  unfold autoCallRemoved
  split
  · rw [removeCall_eq]
    exact ⟨congrArg (List.filter _) calls, pointer.trans pointer', service.trans service'⟩
  · exact ⟨calls, pointer.trans pointer', service.trans service'⟩

end

/-- The causes that release the attached call, as R63 lists them. -/
theorem releasesCall_eq_contains (cause : Code) :
    cause.releasesCall = [Code.declined, .offerTimeout, .gateFailed, .gateTimeout, .cancelled, .targetAbsent, .targetOffline,
      .notPermitted].contains cause := by
  cases cause <;> rfl

theorem joinsDeclined_iff (cause : Code) : cause.joinsDeclined = true ↔ cause = .declined ∨ cause = .offerTimeout := by
  cases cause <;> simp [Code.joinsDeclined]

/-- A push as R11 gives it, for a stack of any length. -/
theorem pushStack_eq (p : Party) (st : List Party) :
    pushStack p st = if st.take 1 = [p] then st else (p :: st).take 4 := by
  cases st <;> simp [pushStack]

/-- The stack of a transfer: popped by a RETURN, and otherwise pushed with the source there is (R11, R12). -/
theorem stackAfter_eq (h : Handover) (st : List Party) :
    stackAfter h st =
      if h.kind = .returned then st.drop 1
      else
        match h.source with
        | none => st
        | some p => if st.take 1 = [p] then st else (p :: st).take 4 := by
  unfold stackAfter
  cases h.kind <;> cases h.source <;> simp [pushStack_eq]

/-- The ramp record of a transfer, by the target and the kind (R7, R44). -/
theorem rampAfter_eq (h : Handover) (applied : Axes) (pol : Policy) :
    rampAfter h applied pol =
      if h.target = .auto then none
      else if h.kind = .take ∨ h.kind = .claim then
        some { purpose := .engage, start := ⟨0, 0, 0, 0⟩, length := pol.engageRamp, progress := 1 }
      else some { purpose := .pass, start := applied, length := pol.passRamp, progress := 1 } := by
  unfold rampAfter startRamp
  cases h.target <;> cases h.kind <;> simp [Axes.neutral]

end Sys2Proof.Machine

namespace Sys2Proof.Settled

open Sys2Proof.Machine

/-- Settles O16: the parts of an abandonment in order, and what each leaves. -/
theorem abandonmentEffects : Obligations.AbandonmentEffects := by
  intro s i h cause hh
  refine ⟨fun j => ?_, ?_, abandon_chair cause hh, ?_, (abandon_service i cause s).1, (abandon_service i cause s).2,
    abandon_elsewhere i cause s⟩
  · rw [abandon_entry]
    by_cases hj : i = j
    · simp [hj]
    · simp [hj, Ne.symm hj]
  · rw [abandon_calls cause hh, callReleased, releasesCall_eq_contains]
    split
    · simp only [releaseCall, State.modCall, State.due, joinsDeclined_iff, addChair, beq_iff_eq] <;> rfl
    · rfl
  · rw [abandon_dispatchDue cause hh, releasesCall_eq_contains]

/-- Settles O17: the parts of a transfer in order, and what each leaves. -/
theorem transferEffects : Obligations.TransferEffects := by
  intro s i h
  obtain ⟨⟨-, calls, pointer⟩, service⟩ := transfer_desk i h s
  refine ⟨fun j hj => ?_, ?_, ?_, transfer_chair i h s, transfer_dispatchDue i h s, pointer, service, transfer_elsewhere i h s⟩
  · rw [transfer_entry, if_neg hj.symm]
  · rw [transfer_entry, if_pos rfl, entryAfter, stackAfter_eq, rampAfter_eq]
    cases h.target <;> rfl
  · rw [calls, removeCall_eq]
    rfl

/-- Settles O18: the abandonment, the write, the release and the call's removal, each by what it leaves. -/
theorem leavingAuthorityOrder : Obligations.LeavingAuthorityOrder := by
  intro s i cause lost f
  obtain ⟨calls, pointer, service⟩ := leave_desk i cause (some lost) f s
  refine ⟨fun j => ?_, leave_chair i cause lost f s, calls, pointer, service, leave_elsewhere i cause (some lost) f s⟩
  rw [leave_entry]
  by_cases hj : i = j
  · simp [hj]
  · simp [hj, Ne.symm hj]

end Sys2Proof.Settled
end


section
/-! SUPPORT. The single writes of which every event is made: what one write may do to an entry, a port, a chair, a queue or a record. The
laws over one record at a time are kept by each write, and so by every event. -/

namespace Sys2Proof.Machine

/-! ### Writes of one record -/

/-- What an entry that leaves authority for state `st` may be written as (R14 to R25). -/
inductive Vacating (pol : Policy) (e : Entry) (st : EntryState) : Entry → Prop where
  | kept : Vacating pol e st (e.vacate st)
  | emptied : Vacating pol e st { e.vacate st with stack := [] }
  | rundown : Vacating pol e st { e.vacate st with ramp := some (startRamp .rundown e.applied pol.rundownRamp) }
  | blank : Vacating pol e st (Entry.blank st)

/-- What one write may make of the entry of slot `i`. The mark `b` is free where the write leaves the state, the holder and the record. -/
inductive Rewrite (s : State) (i : Slot) : Bool → Entry → Prop where
  | status {b : Bool} (ls : LoaderStatus) : Rewrite s i b { s.entry i with status := some ls }
  | flag {b : Bool} (f : Bool) : Rewrite s i b { s.entry i with zoneDrop := f }
  | ramp {b : Bool} {r : Option Ramp} (h : r = none ∨ r = some (startRamp .engage Axes.neutral s.policy.engageRamp)) :
      Rewrite s i b { s.entry i with ramp := r }
  | built {b : Bool} {src : FrameSource} (h : frameSource i s = some src) :
      Rewrite s i b
        { s.entry i with
          applied := cappedAxes (s.loaderZone i) src.axes
          lights := src.lights
          ramp := if src.ramped then (s.entry i).ramp.bind Ramp.advance else (s.entry i).ramp }
  | record (h : Option Handover) : Rewrite s i false { s.entry i with handover := h }
  | vacated {st : EntryState} {e : Entry} (held : st ≠ .held) (auto : st ≠ .auto) (h : Vacating s.policy (s.entry i) st e) :
      Rewrite s i false e
  | transferred (h : Handover) : Rewrite s i false (entryAfter h s.policy (s.entry i))

/-- What one write may make of a port's registers; `on` says whether the port is online. -/
inductive PortWrite (on service : Bool) (r : PortRegs) : PortRegs → Prop where
  | raised (f : Sticky) : PortWrite on service r (r.raise f)
  | queued {f : PortFrame} (online : on = true) (kind : service = true → f.isStatus = false) : PortWrite on service r (r.enqueue f)
  | answered : PortWrite on service r { r with outstanding := none }
  | heard (online : on = true) : PortWrite on service r r.heard
  | ran (online : on = true) (few : r.badRun + 1 < Config.badRunLimit) : PortWrite on service r { r with badRun := r.badRun + 1 }
  | occupied (online : on = true) (o : Outstanding) : PortWrite on service r { r with outstanding := some o }
  | acknowledged (flags : Half) (clearCount : Bool) : PortWrite on service r (r.acknowledge flags clearCount)
  | departed {f : PortFrame} {q : List PortFrame} (h : r.queue = f :: q) (bytes : List Byte) :
      PortWrite on service r { r with queue := q, sending := bytes }
  | wiped : PortWrite on service r { r with outstanding := none, queue := [] }

/-- What one write may make of the fleet transmit queue (R152). -/
inductive QueueWrite (q : List FleetFrame) : List FleetFrame → Prop where
  | command (i : Slot) (u : UnitNumber) (m : Mode) (payload : List Byte) : QueueWrite q (placeCommand (.command i u m payload) q)
  | restart (i : Slot) (u : UnitNumber) : QueueWrite q (placeRestart (.command i u .restart []) q)
  | read (i : Slot) (u : UnitNumber) (r : Read) : QueueWrite q (placeRead (.read i u r) q)
  | fewer {r : List FleetFrame} (h : r.Sublist q) : QueueWrite q r

/-- A chair whose link is down (R89). -/
def Chair.cutOff (x : Chair) : Chair :=
  { x with
    state := .offline, latch := false, presence := .absent, settle := none, grace := none, staleness := none,
    sample := Sample.neutral
    port := { x.port with silence := none, badRun := 0, outstanding := none, queue := [] } }

/-- What the events of a chair's axes, presence and latch write of the chair's record. The chair's state tells the same afterwards of what
the chair holds and of what targets it. -/
inductive ChairWrite (s : State) (c : ChairId) : Chair → Prop where
  | sampled {f : AxisFrame} (h : f.WellFormed) : ChairWrite s c { s.chair c with sample := sampleOf f }
  | timed {x : Chair} (state : x.state = (s.chair c).state) (port : x.port = (s.chair c).port)
      (sample : x.sample = (s.chair c).sample) : ChairWrite s c x
  | switched {st : ChairState} (before : (s.chair c).state = .idle ∨ (s.chair c).state = .ready)
      (after : st = .idle ∨ st = .ready) : ChairWrite s c { s.chair c with state := st }

/-- What of a call the laws of the queue and the reservations turn on. -/
def Call.mark (k : Call) : Slot × CallReason × Bool := (k.slot, k.reason, k.reserved)

/-- The part as a reset leaves it before discovery starts again: the tables as at power-on, the plans as at power-on or kept, the inputs and
the waiting commands kept (R25, R177, R178). -/
structure Blanked (s t : State) : Prop where
  entries : t.entries = State.reset.entries
  chairs : ∀ c, ∃ bytes, t.chair c = { Chair.reset with port := { PortRegs.reset with sending := bytes } }
  service : ∃ silence bytes, t.service.port = { PortRegs.reset with silence := silence, sending := bytes }
  calls : t.calls = []
  zones : t.zones = State.reset.zones ∨ t.zones = s.zones
  policy : t.policy = State.reset.policy ∨ t.policy = s.policy
  bindings : t.bindings = State.reset.bindings ∨ t.bindings = s.bindings
  contexts : t.contexts = State.reset.contexts
  fleet : t.fleet = State.reset.fleet
  fleetQueue : t.fleetQueue = []
  gatewayReady : t.gatewayReady = s.gatewayReady
  pending : t.pending = s.pending

/-! ### One write -/

/-- One write of the part. `C` says what else may be written of a chair than its port, its link, its return to READY or IDLE and its place
in a handover. A write marked `true` leaves to every loader its authority: see `Still`. -/
inductive Micro (C : State → ChairId → Chair → Prop) : Bool → State → State → Prop where
  | entry {b s i e} (h : Rewrite s i b e) : Micro C b s (s.setEntry i e)
  | port {b s p r} (h : PortWrite (s.online p) (p == .service) (s.port p) r) : Micro C b s (s.setPort p r)
  | settled {s} (c : ChairId) : Micro C false s (s.setChair c (s.chair c).settled)
  | placed {s} (c : ChairId) {st : ChairState} (h : st = .driving ∨ st = .offered ∨ st = .engaging) :
      Micro C false s (s.setChairState c st)
  | online {b s} {c : ChairId} (h : (s.chair c).state = .offline) :
      Micro C b s (s.setChair c { s.chair c with state := .idle, presence := .absent, latch := false })
  | gone {s} (c : ChairId) : Micro C false s (s.setChair c (s.chair c).cutOff)
  | chair {b s c x} (h : C s c x) : Micro C b s (s.setChair c x)
  | serviceOn {b s} : Micro C b s { s with service := { s.service with online := true } }
  | serviceOff {b s} : Micro C b s (serviceOffline s)
  | due {b s} (d : Bool) : Micro C b s { s with dispatchDue := d }
  | calls {s} (q : List Call) : Micro C false s { s with calls := q }
  | marked {b s} {q : List Call} (h : q.map Call.mark = s.calls.map Call.mark) : Micro C b s { s with calls := q }
  | pointer {b s} (c : ChairId) : Micro C b s { s with pointer := c }
  | ignored {b s} (i : Slot) (n : Nat) : Micro C b s (s.setIgnored i n)
  | zone {b s} (z : ZoneId) {r : Zone} (h : r.backoff ≤ r.cap ∧ r.cap ≤ 2047) : Micro C b s (s.setZone z r)
  | policy {b s f v p} (h : s.policy.write f v = some p) : Micro C b s { s with policy := p }
  | bound {b s} (i : Slot) {u : UnitNumber} (zero : u ≠ 0#32) (new : s.slotOfUnit u = none) :
      Micro C b s (s.setBinding i { unit := some u, used := true })
  | context {b s} (i : Slot) {x : Context}
      (h : b = true → (s.context i).stage = none → (s.context i).read = none → (s.context i).answerTimer = none →
        x.stage = none ∧ x.read = none ∧ x.answerTimer = none) : Micro C b s (s.setContext i x)
  | fleet {b s} (i : Slot) {x : FleetSlot} (h : b = true → (s.fleetSlot i).forget = none → x.forget = none) :
      Micro C b s (s.setFleetSlot i x)
  | fleetQueue {b s q} (h : QueueWrite s.fleetQueue q) : Micro C b s { s with fleetQueue := q }
  | sent {b s} (bytes : List Byte) : Micro C b s { s with fleetSending := bytes }
  | blanked {s t} (h : Blanked s t) : Micro C false s t

/-- Writes one after the other. -/
abbrev Micros (C : State → ChairId → Chair → Prop) (b : Bool) : State → State → Prop := Relation.ReflTransGen (Micro C b)

variable {C : State → ChairId → Chair → Prop} {b : Bool}

theorem Micro.micros {s t : State} (h : Micro C b s t) : Micros C b s t := .single h

theorem Micros.refl (s : State) : Micros C b s s := Relation.ReflTransGen.refl

/-- A property that each write keeps is kept by writes one after the other. -/
theorem Micros.keeps {P : State → Prop} (h : ∀ {s t}, Micro C b s t → P s → P t) {s t : State} (hm : Micros C b s t) (hs : P s) :
    P t := by
  induction hm with
  | refl => exact hs
  | tail _ hm ih => exact h hm ih

/-! ### Ports -/

section
variable (s : State)

theorem modPort_micros (p : Port) (f : PortRegs → PortRegs) (h : PortWrite (s.online p) (p == .service) (s.port p) (f (s.port p))) :
    Micros C b s (s.modPort p f) := (Micro.port h).micros

theorem raise_micros (p : Port) (f : Sticky) : Micros C b s (s.raise p f) := modPort_micros s p _ (.raised f)

theorem send_micros (p : Port) {f : PortFrame} (h : p = .service → f.isStatus = false) : Micros C b s (s.send p f) := by
  unfold State.send
  split
  next on => exact modPort_micros s p _ (.queued on (by simpa using h))
  next => exact .refl s

theorem notify_micros (p : Port) (n : Notice) : Micros C b s (s.notify p n) := send_micros s p fun _ => rfl
theorem answer_micros (p : Port) (a : Answer) : Micros C b s (s.answer p a) := send_micros s p fun _ => rfl

theorem answerOutstanding_micros (c : ChairId) (code : Code) : Micros C b s (s.answerOutstanding c code) := by
  unfold State.answerOutstanding
  split
  · exact .refl s
  · exact (modPort_micros s (.chair c) _ .answered).trans (answer_micros _ _ _)

theorem reply_micros (r : Sender) (kind : RequestKind) (code : Code) (content : Content) :
    Micros C b s (reply r kind code content s) := answer_micros s _ _

theorem fieldError_micros (r : Sender) (kind : RequestKind) (content : Content) : Micros C b s (fieldError r kind content s) :=
  (raise_micros s _ _).trans (reply_micros _ _ _ _ _)

theorem due_micros : Micros C b s s.due := (Micro.due true).micros

/-! ### Handovers -/

theorem settleChair_micros (c : ChairId) : Micros C false s (s.settleChair c) := by
  have due : Micros C false (s.setChair c (s.chair c).settled)
      { s.setChair c (s.chair c).settled with dispatchDue := (s.chair c).latch || s.dispatchDue } := (Micro.due _).micros
  rw [settleChair_eq_setChair]
  exact (Micro.settled c).micros.trans due

variable (i : Slot) (h : Handover)

theorem callReleased_micros (cause : Code) : Micros C false s (callReleased i h cause s) := by
  unfold callReleased
  split
  · exact (Micro.calls _).micros.trans (due_micros _)
  · exact .refl s

theorem targetSettled_micros : Micros C false s (targetSettled h s) := by
  unfold targetSettled
  split
  · exact settleChair_micros s _
  · exact .refl s

theorem sourceSettled_micros : Micros C false s (sourceSettled h s) := by
  unfold sourceSettled
  split
  · exact settleChair_micros s _
  · exact .refl s

theorem targetDriving_micros : Micros C false s (targetDriving h s) := by
  unfold targetDriving
  split
  · exact (Micro.placed _ (.inl rfl)).micros
  · exact .refl s

theorem requesterAnswered_micros (code : Code) : Micros C b s (requesterAnswered h code s) := by
  unfold requesterAnswered
  split
  · exact answerOutstanding_micros s _ _
  · exact .refl s

theorem notifyTarget_micros (cause : Code) : Micros C b s (notifyTarget i h cause s) := by
  unfold notifyTarget
  split
  · exact .refl s
  · split
    · exact .refl s
    · split <;> exact notify_micros s _ _

theorem targetTold_micros : Micros C b s (targetTold i h s) := by
  unfold targetTold
  split
  · split
    · exact .refl s
    · exact notify_micros s _ _
  · exact .refl s

theorem abandon_micros (cause : Code) : Micros C false s (abandon i cause s) := by
  cases hh : (s.entry i).handover with
  | none => rw [abandon_of_none cause hh]
  | some h =>
    rw [abandon_of_some cause hh]
    exact (Micro.entry (.record none)).micros.trans ((callReleased_micros _ i h cause).trans
      ((targetSettled_micros _ h).trans ((requesterAnswered_micros _ h cause).trans (notifyTarget_micros _ i h cause))))

theorem transfer_micros : Micros C false s (transfer i h s) := by
  rw [transfer_eq]
  exact (Micro.entry (.transferred h)).micros.trans ((Micro.calls _).micros.trans ((targetDriving_micros _ h).trans
    ((sourceSettled_micros _ h).trans ((requesterAnswered_micros _ h .done).trans (targetTold_micros _ i h)))))

theorem releaseHolder_micros (e : Entry) (lost : Option Code) : Micros C false s (releaseHolder i e lost s) := by
  unfold releaseHolder
  split
  next c _ _ =>
    refine (settleChair_micros s c).trans ?_
    cases lost with
    | some cause => exact notify_micros _ _ _
    | none => exact Micros.refl _
  next => exact .refl s

/-- An event that leaves authority for a state other than HELD and AUTO. -/
theorem leave_micros {st : EntryState} (held : st ≠ .held) (auto : st ≠ .auto) (cause : Code) (lost : Option Code) {f : Entry → Entry}
    (hf : ∀ e : Entry, e.applied = (s.entry i).applied → Vacating s.policy e st (f e)) :
    Micros C false s (leave i cause lost f s) := by
  have written : Micros C false (abandon i cause s) ((abandon i cause s).modEntry i f) := by
    refine (Micro.entry (.vacated held auto ?_)).micros
    rw [(abandon_elsewhere i cause s).2.1]
    exact hf _ (by rw [abandon_entry, if_pos rfl])
  have removed (u : State) : Micros C false u (autoCallRemoved i (s.entry i).state u) := by
    unfold autoCallRemoved
    split
    · exact (Micro.calls _).micros
    · exact .refl u
  rw [leave_eq]
  exact (abandon_micros s i cause).trans (written.trans ((releaseHolder_micros _ i _ lost).trans (removed _)))

theorem startHandover_micros : Micros C false s (startHandover i h s) := by
  have recorded : Micros C false s (s.withRecord i h) := by
    refine Relation.ReflTransGen.trans ?_ (Micro.entry (.record (some h))).micros
    exact (Micro.calls _).micros
  rw [startHandover_eq]
  split
  · exact recorded
  next t _ =>
    refine recorded.trans (Micro.placed t ?_).micros
    split <;> simp

/-! ### The dispatcher -/

theorem testSaturation_micros (k : Call) : Micros C b s (testSaturation k s) := by
  unfold testSaturation
  split
  · refine Relation.ReflTransGen.trans (Micro.marked ?_).micros (notify_micros _ _ _)
    rw [List.map_map]
    refine List.map_congr_left fun d _ => ?_
    simp only [Function.comp_apply]
    split <;> rfl
  · exact .refl s

end

end Sys2Proof.Machine
end


section
/-! SUPPORT. The moves of which every event is made: the writes that leave authority as it is, and the operations on handovers, calls,
discovery and links, each with what the model checks before it. -/

namespace Sys2Proof.Machine

/-! ### Moves -/

/-- The entry, context, fleet port items and COMMAND frame of a slot that is forgotten (R159). -/
def forgotten (i : Slot) (s : State) : State :=
  (((s.setEntry i (Entry.blank .empty)).setContext i Context.cleared).setFleetSlot i FleetSlot.reset).withdrawAnyCommand i

/-- An operation of an event, with what the model has checked before it. -/
inductive Move (C : State → ChairId → Chair → Prop) : State → State → Prop where
  | still {s t} (h : ∀ b, Micros C b s t) : Move C s t
  | abandon {s} (i : Slot) (cause : Code) (h : cause.releasesCall = true ∨ i ∉ s.callers) : Move C s (abandon i cause s)
  | leave {s} (i : Slot) (cause : Code) (lost : Option Code) {st : EntryState} {f : Entry → Entry}
      (after : st = .free ∨ st = .locked ∨ st = .tripped ∨ st = .linkLost)
      (vacates : ∀ e : Entry, e.applied = (s.entry i).applied → Vacating s.policy e st (f e))
      (admitted : (s.entry i).state ≠ .discovering) (stopped : (s.entry i).state = .linkLost → (s.fleetSlot i).forget = none) :
      Move C s (leave i cause lost f s)
  | discover {s} (i : Slot) : Move C s (startDiscovery i s)
  | transfer {s} (i : Slot) {h : Handover} (hh : (s.entry i).handover = some h) : Move C s (transfer i h s)
  | start {s} (i : Slot) {h : Handover} (free : (s.entry i).handover = none)
      (target : ∀ t, h.target = .chair t → s.available t = true)
      (source : ((s.entry i).state = .free ∧ h.source = none) ∨ (((s.entry i).state = .auto ∨ i ∈ s.callers) ∧ h.source = some .auto) ∨
        ∃ c, (s.entry i).heldBy c = true ∧ h.source = some (.chair c))
      (attached : h.callAttached = true ∨ ∀ k, s.findCall i = some k → (s.entry i).state = .auto → k.reserved = true) :
      Move C s (startHandover i h s)
  | accept {s} (i : Slot) (c : ChairId) (h : offeredTo i c s = true) : Move C s ((moveToGating i s).setChairState c .engaging)
  | place {s} (i : Slot) {st : EntryState} (after : st = .free ∨ st = .locked)
      (before : (s.entry i).state = .locked ∨ ((s.entry i).state = .discovering ∧ (s.context i).Idle) ∨
        ((s.entry i).state = .linkLost ∧ (s.fleetSlot i).forget = none)) : Move C s (s.modEntry i (Entry.vacate st))
  | lost {s} (i : Slot) (n : Nat) (h : (s.entry i).state = .linkLost) :
      Move C s (s.modFleetSlot i fun x => { x with forget := some n })
  | refuse {s} (i : Slot) (cause : Code) (h : ¬ (s.context i).Idle) : Move C s (refuse i cause s)
  | forget {s} (i : Slot) (h : (s.fleetSlot i).forget ≠ none) : Move C s (forgotten i s)
  | create {s} (i : Slot) (r : CallReason) (auto : (s.entry i).state = .auto) (new : s.findCall i = none) : Move C s (createCall i r s)
  | raise {s} {k : Call} (r : CallReason) (hk : s.findCall k.slot = some k) : Move C s (raiseCall k r s)
  | remove {s} (i : Slot) : Move C s (s.removeCall i)
  | reset {s t} (h : Blanked s t) : Move C s t
  | resetKeep {s} : Move C s (resetKeepAll s)
  | offline {s} (c : ChairId) : Move C s (chairOffline c s)

/-- Moves one after the other. -/
abbrev Moves (C : State → ChairId → Chair → Prop) : State → State → Prop := Relation.ReflTransGen (Move C)

/-- An operation made of moves. -/
abbrev Moving (C : State → ChairId → Chair → Prop) (f : State → State) : Prop := ∀ s, Moves C s (f s)

variable {C : State → ChairId → Chair → Prop}

theorem Moves.refl (s : State) : Moves C s s := Relation.ReflTransGen.refl

theorem Move.moves {s t : State} (h : Move C s t) : Moves C s t := .single h

theorem Moves.of_micros {s t : State} (h : ∀ b, Micros C b s t) : Moves C s t := (Move.still h).moves

theorem Moves.of_micro {s t : State} (h : ∀ b, Micro C b s t) : Moves C s t := .of_micros fun b => (h b).micros

/-! ### Handovers -/

theorem evaluateGate_moves (i : Slot) : Moving C (evaluateGate i) := fun s => by
  unfold evaluateGate
  split
  · exact Moves.refl s
  next h hh =>
    split
    · exact Moves.refl s
    · split
      · exact (Move.transfer i hh).moves
      · exact Moves.refl s

theorem enterGating_moves (i : Slot) : Moving C (enterGating i) := fun s => by
  unfold enterGating
  split
  · exact Moves.refl s
  next h hh =>
    split
    · exact (Move.transfer i hh).moves
    · split
      · exact Moves.refl s
      · exact (Move.abandon i _ (.inl rfl)).moves

theorem evaluateTargeting_moves (c : ChairId) : Moving C (evaluateTargeting c) := fun s => by
  unfold evaluateTargeting
  split
  · exact Moves.refl s
  · exact evaluateGate_moves _ s

theorem dropHolder_moves {s : State} {i : Slot} (held : (s.entry i).state = .held) (lost : Code) : Moves C s (dropHolder i lost s) :=
  (Move.leave i .sourceLost (some lost) (.inl rfl) (fun _ _ => .kept) (by simp [held]) (by simp [held])).moves

/-! ### The dispatcher -/

theorem testSaturation_moves (k : Call) : Moving C (testSaturation k) := fun s => .of_micros fun _ => testSaturation_micros s k

theorem available_of_eligible {k : Call} {c : ChairId} {s : State} (h : eligible k c s = true) : s.available c = true := by
  simp only [eligible, Bool.and_eq_true] at h
  simp [State.available, h.1.1.1]

theorem eligible_of_chooseChair {k : Call} {c : ChairId} {s : State} (h : chooseChair k s = some c) : eligible k c s = true :=
  List.find?_some (p := fun d => eligible k d s) h

theorem offerCall_moves {s : State} {k : Call} {c : ChairId} (hk : k.slot ∈ s.callers) (free : (s.entry k.slot).handover = none)
    (fit : eligible k c s = true) : Moves C s (offerCall k c s) := by
  have started : Move C s (startHandover k.slot (newRecord .claim (some .auto) (.chair c) .offering none none true s.policy) s) :=
    .start k.slot free (fun t ht => by
      obtain rfl : c = t := by simpa [newRecord] using ht
      exact available_of_eligible fit) (.inr (.inl ⟨.inr hk, rfl⟩)) (.inl rfl)
  have pointed (u : State) : Moves C u { u with pointer := c + 1 } := .of_micro fun _ => .pointer (c + 1)
  exact started.moves.trans ((Moves.of_micros fun _ => notify_micros _ _ _).trans (pointed _))

theorem visitCall_moves (i : Slot) : Moving C fun s => visitCall s i := fun s => by
  simp only [visitCall]
  split
  · exact Moves.refl s
  next k hk =>
    split
    · exact Moves.refl s
    next passed =>
      have free : (s.entry i).handover = none := by
        simp only [Bool.or_eq_true, not_or] at passed
        simpa using passed.2
      refine (testSaturation_moves k s).trans ?_
      rw [findCall_testSaturation hk]
      dsimp only
      have same : (k.tested s).slot = i := by rw [Call.tested_slot, slot_of_findCall hk]
      have called := mem_callers_of_findCall (findCall_testSaturation hk)
      split
      · exact Moves.refl _
      next c hc =>
        refine offerCall_moves called ?_ (eligible_of_chooseChair hc)
        rw [same, entry_testSaturation]
        exact free

theorem foldl_visitCall_moves (l : List Slot) : Moving C fun s => l.foldl visitCall s := fun s => by
  induction l generalizing s with
  | nil => exact Moves.refl s
  | cons i l ih => exact (visitCall_moves i s).trans (ih _)

theorem due_moves (s : State) (d : Bool) : Moves C s { s with dispatchDue := d } := .of_micro fun _ => .due d

theorem finish_moves : Moving C finish := fun s => by
  unfold finish
  split
  · exact (due_moves s false).trans (foldl_visitCall_moves _ _)
  · exact Moves.refl s

theorem event_moves {f : State → State} (h : Moving C f) : Moving C (event f) := fun s =>
  (due_moves s false).trans ((h _).trans (finish_moves _))

/-! ### Ports and links -/

theorem raise_moves (p : Port) (f : Sticky) : Moving C fun s => s.raise p f := fun s => .of_micros fun _ => raise_micros s p f
theorem notify_moves (p : Port) (n : Notice) : Moving C fun s => s.notify p n := fun s => .of_micros fun _ => notify_micros s p n
theorem set_due_moves : Moving C State.due := fun s => due_moves s true

theorem reply_moves (r : Sender) (kind : RequestKind) (code : Code) (content : Content) : Moving C (reply r kind code content) :=
  fun s => .of_micros fun _ => reply_micros s r kind code content

theorem fieldError_moves (r : Sender) (kind : RequestKind) (content : Content) : Moving C (fieldError r kind content) :=
  fun s => .of_micros fun _ => fieldError_micros s r kind content

theorem timed_moves (s : State) (c : ChairId) {f : Chair → Chair} (state : (f (s.chair c)).state = (s.chair c).state)
    (port : (f (s.chair c)).port = (s.chair c).port) (sample : (f (s.chair c)).sample = (s.chair c).sample) :
    Moves ChairWrite s (s.modChair c f) := .of_micro fun _ => .chair (.timed state port sample)

theorem switched_moves {s : State} {c : ChairId} {st : ChairState} (before : (s.chair c).state = .idle ∨ (s.chair c).state = .ready)
    (after : st = .idle ∨ st = .ready) : Moves ChairWrite s (s.setChairState c st) := .of_micro fun _ => .chair (.switched before after)

theorem comeOnline_moves (p : Port) : Moving C (comeOnline p) := fun s => by
  unfold comeOnline
  split
  · exact Moves.refl s
  next off =>
    cases p with
    | chair c => exact .of_micro fun _ => (.online (by simpa [State.online] using off))
    | service => exact .of_micro fun _ => .serviceOn

theorem online_comeOnline (p : Port) (s : State) : (comeOnline p s).online p = true := by
  unfold comeOnline
  split
  · assumption
  · cases p <;> simp [State.online, State.modChair]

theorem goodFrame_moves (p : Port) : Moving C (goodFrame p) := fun s =>
  (comeOnline_moves p s).trans (Moves.of_micros fun _ => modPort_micros _ p _ (.heard (online_comeOnline p s)))

theorem goOffline_moves (p : Port) : Moving C (goOffline p) := fun s => by
  cases p with
  | chair c => exact (Move.offline c).moves
  | service => exact .of_micro fun _ => .serviceOff

theorem takeBadFrame_moves (p : Port) (why : BadFrame) : Moving C (takeBadFrame p why) := fun s => by
  refine (raise_moves p (badFrameFlag why) s).trans ?_
  unfold takeBadFrame
  dsimp only
  split
  next on =>
    split
    next few => exact Moves.of_micros fun _ => modPort_micros _ p _ (.ran on few)
    next => exact goOffline_moves p _
  next => exact Moves.refl _

/-- An expiry acts only while its timer runs. -/
theorem ite_moves {p : State → Prop} [DecidablePred p] {f : State → State} (hf : Moving C f) :
    Moving C fun s => if p s then f s else s := fun s => by
  show Moves C s (if p s then f s else s)
  split
  · exact hf s
  · exact Moves.refl s

/-! ### Presence -/

theorem setHeldRamp_moves (c : ChairId) {ramp : State → Option Ramp}
    (h : ∀ s, ramp s = none ∨ ramp s = some (startRamp .engage Axes.neutral s.policy.engageRamp)) : Moving C (setHeldRamp c ramp) :=
  fun s => by
    unfold setHeldRamp
    split
    · exact .of_micro fun _ => .entry (.ramp (h s))
    · exact Moves.refl s

theorem becomePresent_moves (c : ChairId) : Moving ChairWrite (becomePresent c) := fun s => by
  refine (timed_moves s c (f := fun x => { x with presence := .present, settle := none, grace := none }) rfl rfl rfl).trans
    ((setHeldRamp_moves c (fun _ => .inr rfl) _).trans ((evaluateTargeting_moves c _).trans ?_))
  unfold becomePresent
  dsimp only
  split
  · exact set_due_moves _
  · exact Moves.refl _

theorem press_moves (c : ChairId) : Moving ChairWrite (press c) := fun s => by
  have pressed : Moves ChairWrite s (if s.policy.pressSettle = 0 then becomePresent c s
      else s.modChair c fun x => { x with presence := .settling, settle := some s.policy.pressSettle }) := by
    split
    · exact becomePresent_moves c s
    · exact timed_moves s c rfl rfl rfl
  unfold press
  split
  exacts [Moves.refl s, Moves.refl s, pressed, pressed]

theorem letGo_moves (c : ChairId) : Moving ChairWrite (letGo c) := fun s => by
  unfold letGo
  split
  · exact Moves.refl s
  · exact Moves.refl s
  · exact timed_moves s c rfl rfl rfl
  · refine Relation.ReflTransGen.trans ?_
      ((setHeldRamp_moves c (fun _ => .inl rfl) _).trans (evaluateTargeting_moves c _))
    exact timed_moves s c rfl rfl rfl

theorem sampled_moves (s : State) (c : ChairId) {f : AxisFrame} (hf : f.WellFormed) :
    Moves ChairWrite s (s.modChair c fun x => { x with sample := sampleOf f }) := .of_micro fun _ => .chair (.sampled hf)

theorem takeAxis_moves (c : ChairId) {f : AxisFrame} (hf : f.WellFormed) : Moving ChairWrite (takeAxis c f) := fun s => by
  have flagged (u : State) : Moves ChairWrite u (if f.gear = 3#2 then u.raise (.chair c) .gearInvalid else u) := by
    split
    · exact raise_moves _ _ u
    · exact Moves.refl u
  have enabled (u : State) : Moves ChairWrite u (if f.enable then press c u else letGo c u) := by
    split
    · exact press_moves c u
    · exact letGo_moves c u
  have staled (u : State) : Moves ChairWrite u (u.modChair c fun x => { x with staleness := some u.policy.axisStale }) :=
    timed_moves u c rfl rfl rfl
  exact (goodFrame_moves (.chair c) s).trans ((sampled_moves _ c hf).trans ((flagged _).trans
    ((staled _).trans ((enabled _).trans (evaluateTargeting_moves c _)))))

theorem loseGrace_moves (c : ChairId) : Moving ChairWrite (loseGrace c) := fun s => by
  have dropped (u : State) : Moves ChairWrite u (match u.heldSlot c with
      | some i => dropHolder i .absent u
      | none => u) := by
    split
    next h => exact dropHolder_moves (held_of_heldSlot h) _
    next => exact Moves.refl u
  have abandoned (u : State) : Moves ChairWrite u (match u.targetSlot c with
      | some i => abandon i .targetAbsent u
      | none => u) := by
    split
    · exact (Move.abandon _ _ (.inl rfl)).moves
    · exact Moves.refl u
  have unready (u : State) : Moves ChairWrite u (if (u.chair c).state = .ready then u.setChairState c .idle else u) := by
    split
    next h => exact switched_moves (.inr h) (.inl rfl)
    next => exact Moves.refl u
  exact (timed_moves s c (f := fun x => { x with grace := none, presence := _, latch := false }) rfl rfl rfl).trans
    ((dropped _).trans ((abandoned _).trans (unready _)))

theorem goStale_moves (c : ChairId) : Moving ChairWrite (goStale c) := fun s => by
  refine (timed_moves s c (f := fun x => { x with staleness := none }) rfl rfl rfl).trans ?_
  have released (u : State) : Moves ChairWrite u (letGo c (u.raise (.chair c) .stale)) := (raise_moves _ _ u).trans (letGo_moves c _)
  unfold goStale
  dsimp only
  split
  exacts [released _, released _, Moves.refl _, Moves.refl _]

/-! ### Requests -/

theorem takeRequest_moves (r : Sender) (kind : RequestKind) (content : Content) {owner : State → State}
    (ho : ∀ s, s.online r.port = true → (s.port r.port).outstanding = none → Moves C s (owner s)) :
    Moving C (takeRequest r kind content owner) := fun s => by
  have on : (goodFrame r.port s).online r.port = true := by
    have up := online_comeOnline r.port s
    unfold goodFrame
    cases hp : r.port with
    | chair c => simpa [hp, State.online, State.modPort, State.setPort, State.modChair] using up
    | service => simpa [hp, State.online, State.modPort, State.setPort] using up
  refine (goodFrame_moves r.port s).trans ?_
  unfold takeRequest
  dsimp only
  split
  · exact reply_moves _ _ _ _ _
  next empty =>
    split
    · exact ho _ on (by simpa using empty)
    · exact fieldError_moves _ _ _ _

theorem fromChair_moves (r : Sender) (kind : RequestKind) (content : Content) {owner : ChairId → State → State} {s : State}
    (ho : ∀ c, r.port = .chair c → Moves C s (owner c s)) : Moves C s (fromChair r kind content owner s) := by
  unfold fromChair
  split
  next c hc => exact ho c hc
  next => exact fieldError_moves _ _ _ s

theorem withSlot_moves (r : Sender) (kind : RequestKind) (slot : Byte) {owner : Slot → State → State} {s : State}
    (ho : ∀ i, Moves C s (owner i s)) : Moves C s (withSlot r kind slot owner s) := by
  unfold withSlot
  split
  · exact ho _
  · exact fieldError_moves _ _ _ s

theorem withGate_moves (r : Sender) (kind : RequestKind) (slot : Byte) (gate : Option GateIn)
    {owner : Slot → Option Gate → State → State} {s : State} (ho : ∀ i g, Moves C s (owner i g s)) :
    Moves C s (withGate r kind slot gate owner s) :=
  withSlot_moves r kind slot fun i => by
    split
    · exact ho i _
    · exact fieldError_moves _ _ _ s

end Sys2Proof.Machine
end


section
/-! SUPPORT. Every command as moves: the requests of the chairs and of the supervisor, the events of the loaders, and one step. -/

namespace Sys2Proof.Machine

variable {C : State → ChairId → Chair → Prop}

/-! ### The requests of the chairs -/

theorem becomeReady_moves (r : Sender) (c : ChairId) : Moving ChairWrite (becomeReady r c) := fun s => by
  have latched : Moves ChairWrite s (s.modChair c fun x => { x with latch := true }) := timed_moves s c rfl rfl rfl
  unfold becomeReady
  dsimp only
  split
  next h => exact latched.trans ((reply_moves r _ _ _ _).trans ((switched_moves (.inl h) (.inr rfl)).trans (set_due_moves _)))
  next => exact latched.trans (reply_moves r _ _ _ _)

theorem becomeUnready_moves (r : Sender) (c : ChairId) (s : State) :
    Moves ChairWrite s (reply r .unready .done .nothing
      (if ((s.clearLatch c).chair c).state = .ready then (s.clearLatch c).setChairState c .idle else s.clearLatch c)) := by
  have cleared : Moves ChairWrite s (s.clearLatch c) := timed_moves s c rfl rfl rfl
  split
  next h => exact cleared.trans ((switched_moves (.inr h) (.inl rfl)).trans (reply_moves r _ _ _ _))
  next => exact cleared.trans (reply_moves r _ _ _ _)

theorem parkLoader_moves (r : Sender) (slot : Byte) (c : ChairId) {i : Slot} {s : State} (hh : (s.entry i).heldBy c = true) :
    Moves C s (parkLoader r slot c i s) := by
  have held : (s.entry i).state = .held := ((heldBy_iff _ _).1 hh).1
  refine (Move.leave i .sourceLost none (.inl rfl) (fun e he => ?_) (by simp [held]) (by simp [held])).moves.trans
    (reply_moves r _ _ _ _)
  unfold parkRamp
  split
  · rw [← he]
    exact .rundown
  · exact .kept

/-! ### The requests of the handover engine -/

/-- A request slot that becomes occupied leaves what the checks of a request read. -/
theorem occupySlot_frame (r : Sender) (kind : RequestKind) (i : Slot) (s : State) :
    (∀ j, (occupySlot r kind i s).entry j = s.entry j) ∧ (occupySlot r kind i s).calls = s.calls ∧
      ∀ c, (occupySlot r kind i s).available c = s.available c := by
  obtain ⟨entries, calls, -⟩ := modPort_table r.port (fun p => { p with outstanding := some { kind := kind, tag := r.tag, slot := i } }) s
  refine ⟨fun j => by rw [State.entry, occupySlot, entries]; rfl, calls, fun c => ?_⟩
  unfold occupySlot
  cases r.port with
  | chair d => simp only [State.available, chair_modPort_chair]; split <;> rfl
  | service => rfl

/-- A handover that a request of a chair starts: its slot occupied, the record, and no call but one that the record has attached. -/
theorem start_moves {r : Sender} {kind : RequestKind} {i : Slot} {h : Handover} {s : State} (on : s.online r.port = true)
    (free : (s.entry i).handover = none) (target : ∀ t, h.target = .chair t → s.available t = true)
    (source : ((s.entry i).state = .free ∧ h.source = none) ∨ ((s.entry i).state = .auto ∧ h.source = some .auto) ∨
        ∃ c, (s.entry i).heldBy c = true ∧ h.source = some (.chair c))
    (attached : h.callAttached = true ∨ ∀ k, s.findCall i = some k → (s.entry i).state = .auto → k.reserved = true) :
    Moves C s (startHandover i h (occupySlot r kind i s)) := by
  obtain ⟨entry, calls, available⟩ := occupySlot_frame r kind i s
  have occupied : Moves C s (occupySlot r kind i s) := .of_micros fun _ => modPort_micros s _ _ (.occupied on _)
  refine occupied.trans (Move.start i ?_ ?_ ?_ ?_).moves
  · rwa [entry]
  · simpa only [available] using target
  · rw [entry]
    exact source.imp_right fun h => h.imp_left fun h => ⟨.inl h.1, h.2⟩
  · rw [State.findCall, calls, entry]
    exact attached

section
variable {r : Sender} {c : ChairId} {i : Slot} {s : State}

theorem startTake_moves (on : s.online r.port = true) (g : Option Gate) (h : firstFailing (takeChecks i c s) = none) :
    Moves C s (startTake r c i g s) := by
  have passed := (firstFailing_eq_none_iff _).1 h
  have free : (s.entry i).handover = none := by
    simpa using passed ((s.entry i).handover.isNone, .handoverPending) (by simp only [takeChecks, List.mem_cons, true_or])
  have open_ := passed ((s.entry i).state == .free || (s.entry i).state == .auto, .notAvailable)
    (by simp only [takeChecks, List.mem_cons, true_or, or_true])
  have fit : s.available c = true := passed (s.available c, .busyChair)
    (by simp only [takeChecks, List.mem_cons, true_or, or_true])
  refine (start_moves on free ?_ ?_ ?_).trans (enterGating_moves i _)
  · rintro t ht
    obtain rfl : c = t := by simpa [newRecord] using ht
    exact fit
  · rw [Bool.or_eq_true, beq_iff_eq, beq_iff_eq] at open_
    rcases open_ with hs | hs
    · exact .inl ⟨hs, by simp [newRecord, hs]⟩
    · exact .inr (.inl ⟨hs, by simp [newRecord, hs]⟩)
  · refine or_iff_not_imp_left.2 fun alone k hk auto => ?_
    have calls := (occupySlot_frame r .take i s).2.1
    have entry := (occupySlot_frame r .take i s).1
    simpa [newRecord, takesCall, entry, State.findCall, calls, show List.find? _ s.calls = some k from hk, auto] using alone

theorem held_of_heldBy {e : Entry} {c : ChairId} (h : e.heldBy c = true) : e.state = .held := ((heldBy_iff e c).1 h).1

/-- A handover from the holder: a held loader has no call that the queue could reserve. -/
theorem startHeld_moves {kind : RequestKind} (on : s.online r.port = true) (free : (s.entry i).handover = none)
    (held : (s.entry i).heldBy c = true) {h : Handover} (source : h.source = some (.chair c))
    (target : ∀ t, h.target = .chair t → s.available t = true) : Moves C s (startHandover i h (occupySlot r kind i s)) :=
  start_moves on free target (.inr (.inr ⟨c, held, source⟩)) (.inr fun _ _ auto => by simp [held_of_heldBy held] at auto)

theorem startOffer_moves {kind : RequestKind} {hk : HandoverKind} {t : ChairId} (on : s.online r.port = true) (g : Option Gate)
    (free : (s.entry i).handover = none) (held : (s.entry i).heldBy c = true) (fit : s.available t = true) :
    Moves C s (startOffer r kind hk c t i g s) := by
  refine (startHeld_moves on free held rfl ?_).trans (notify_moves _ _ _)
  rintro d hd
  obtain rfl : t = d := by simpa [newRecord] using hd
  exact fit

theorem startToAuto_moves {kind : RequestKind} {hk : HandoverKind} (on : s.online r.port = true) (g : Option Gate)
    (free : (s.entry i).handover = none) (held : (s.entry i).heldBy c = true) : Moves C s (startToAuto r kind hk c i g s) :=
  (startHeld_moves on free held rfl (by simp [newRecord])).trans (enterGating_moves i _)

theorem passChecks_passed {t : ChairId} (h : firstFailing (passChecks i c t s) = none) :
    (s.entry i).handover = none ∧ (s.entry i).heldBy c = true ∧ s.available t = true := by
  have passed := (firstFailing_eq_none_iff _).1 h
  simp only [passChecks, List.forall_mem_cons] at passed
  exact ⟨by simpa using passed.1, passed.2.1, passed.2.2.2.1⟩

theorem holderChecks_passed (h : firstFailing (holderChecks i c s) = none) :
    (s.entry i).handover = none ∧ (s.entry i).heldBy c = true := by
  have passed := (firstFailing_eq_none_iff _).1 h
  simp only [holderChecks, List.forall_mem_cons] at passed
  exact ⟨by simpa using passed.1, passed.2.1⟩

end

theorem cancelOutstanding_moves (c : ChairId) (o : Outstanding) : Moving C (cancelOutstanding c o) := fun s => by
  have abandoned : Moves C s (match (s.entry o.slot).handover with
      | some h => if h.requester = some c then abandon o.slot .cancelled s else s
      | none => s) := by
    split
    · split
      · exact (Move.abandon _ _ (.inl rfl)).moves
      · exact .refl s
    · exact .refl s
  exact abandoned.trans (Moves.of_micros fun _ => answerOutstanding_micros _ _ _)

/-! ### Zones -/

theorem lock_moves {s : State} {i : Slot} (hc : (s.entry i).state.carries = true) : Moves C s (lock i s) :=
  (Move.leave i .zoneClosed (some .zoneClosed) (.inr (.inl rfl)) (fun _ _ => .kept) (fun h => by simp [h, EntryState.carries] at hc)
    (fun h => by simp [h, EntryState.carries] at hc)).moves

theorem unlock_moves {s : State} {i : Slot} (hl : (s.entry i).state = .locked) : Moves C s (unlock i s) :=
  (Move.place i (.inl rfl) (.inl hl)).moves

theorem testTarget_moves (i : Slot) : Moving C (testTarget i) := fun s => by
  unfold testTarget
  split
  · split
    · split
      · exact .refl s
      · exact (Move.abandon i _ (.inl rfl)).moves
    · exact .refl s
  · exact .refl s

theorem setZoneDrop_moves (i : Slot) (c : ChairId) (z : ZoneId) (f : Bool) : Moving C (setZoneDrop i c z f) := fun _ =>
  (Moves.of_micro fun _ => .entry (.flag f)).trans (notify_moves _ _ _)

theorem testHolderAtWrite_moves (i : Slot) (z : ZoneId) : Moving C (testHolderAtWrite i z) := fun s => by
  unfold testHolderAtWrite
  split
  · split
    · exact setZoneDrop_moves _ _ _ _ s
    · exact .refl s
  · exact .refl s

theorem testHolderAtChange_moves (i : Slot) (z : ZoneId) : Moving C (testHolderAtChange i z) := fun s => by
  unfold testHolderAtChange
  split
  · split
    · exact setZoneDrop_moves _ _ _ _ s
    · split
      · exact setZoneDrop_moves _ _ _ _ s
      · exact .refl s
  · exact .refl s

theorem zoneWritten_moves (z : ZoneId) (i : Slot) : Moving C fun s => zoneWritten z s i := fun s => by
  have tested : Moves C s (testHolderAtWrite i z (testTarget i s)) :=
    (testTarget_moves i s).trans (testHolderAtWrite_moves i z _)
  simp only [zoneWritten]
  split
  · cases hs : (s.entry i).state <;> cases (s.zone z).state
    case free.closed | auto.closed | held.closed => exact lock_moves (by rw [hs]; rfl)
    case locked.opened => exact unlock_moves hs
    case free.opened | auto.opened | held.opened => exact tested
    all_goals exact .refl s
  · exact .refl s

theorem foldl_zoneWritten_moves (z : ZoneId) (l : List Slot) : Moving C fun s => l.foldl (zoneWritten z) s := fun s => by
  induction l generalizing s with
  | nil => exact .refl s
  | cons i l ih => exact (zoneWritten_moves z i s).trans (ih _)

theorem zoneStored_bounds (st : ZoneState) (cap backoff : Half) (allowed : ChairSet) :
    (zoneStored st cap backoff allowed).backoff ≤ (zoneStored st cap backoff allowed).cap ∧
      (zoneStored st cap backoff allowed).cap ≤ 2047 := ⟨Nat.min_le_left _ _, Nat.min_le_left _ _⟩

theorem writeZone_moves (r : Sender) (z : ZoneId) {record : Zone} (h : record.backoff ≤ record.cap ∧ record.cap ≤ 2047) :
    Moving C (writeZone r z record) := fun _ =>
  (Moves.of_micro fun _ => .zone z h).trans ((foldl_zoneWritten_moves z allSlots _).trans (reply_moves _ _ _ _ _))

theorem zoneChanged_moves (i : Slot) (z : ZoneId) : Moving C (zoneChanged i z) := fun s => by
  have dued : Moves C s (if (s.entry i).state = .auto then s.due else s) := by
    split
    · exact set_due_moves s
    · exact .refl s
  refine dued.trans ?_
  unfold zoneChanged
  dsimp only
  generalize (if (s.entry i).state = .auto then s.due else s) = u
  have tested : Moves C u (testHolderAtChange i z (testTarget i u)) :=
    (testTarget_moves i u).trans (testHolderAtChange_moves i z _)
  cases hs : (u.entry i).state <;> cases (u.zone z).state
  case free.closed | auto.closed | held.closed => exact lock_moves (by rw [hs]; rfl)
  case locked.opened => exact unlock_moves hs
  case free.opened | auto.opened | held.opened => exact tested
  all_goals exact Moves.refl u

/-! ### Discovery -/

theorem context_micro {b : Bool} {s : State} {i : Slot} {x : Context} (h : (s.context i).Idle → x.Idle) :
    Micro C b s (s.setContext i x) := .context i fun _ stage read timer => h ⟨stage, read, timer⟩

theorem bindUnit_moves {u : UnitNumber} {s : State} (zero : u ≠ 0#32) (new : s.slotOfUnit u = none) : Moves C s (bindUnit u s) := by
  unfold bindUnit
  split
  · exact notify_moves _ _ s
  next i _ =>
    have bound : Moves C s ((s.setBinding i { unit := some u, used := true }).setIgnored i 0) :=
      (Moves.of_micro fun _ => .bound i zero new).trans (Moves.of_micro fun _ => .ignored i 0)
    refine bound.trans (Relation.ReflTransGen.trans ?_ (Move.discover i).moves)
    split
    · exact notify_moves _ _ _
    · exact Moves.refl _

theorem sendRead_moves {s : State} {i : Slot} (h : ¬ (s.context i).Idle) (r : Read) (f : Context → Context) :
    Moves C s (sendRead i r f s) :=
  (Moves.of_micro fun _ => context_micro fun idle => absurd idle h).trans (Moves.of_micro fun _ => .fleetQueue (.read ..))

theorem takeDescriptor_moves {s : State} {i : Slot} (h : ¬ (s.context i).Idle) (index : Byte) (d : Descriptor) :
    Moves C s (takeDescriptor i index d s) := by
  unfold takeDescriptor
  split
  · exact (Move.refuse i _ h).moves
  · exact sendRead_moves h _ _

theorem takeEnd_moves {s : State} {i : Slot} (h : ¬ (s.context i).Idle) : Moves C s (takeEnd i s) := by
  unfold takeEnd
  dsimp only
  split
  · exact (Move.refuse i _ h).moves
  · exact .of_micro fun _ => context_micro fun idle => absurd idle h

theorem not_idle_of_stage {x : Context} {st : Stage} (h : x.stage = some st) : ¬ x.Idle := fun idle => by simp [idle.1] at h

/-! ### TELEMETRY and link loss -/

theorem fleet_moves (s : State) (i : Slot) {f : FleetSlot → FleetSlot} (h : (s.fleetSlot i).forget = none → (f (s.fleetSlot i)).forget = none) :
    Moves C s (s.modFleetSlot i f) := .of_micro fun _ => .fleet i fun _ => h

theorem trip_moves {s : State} {i : Slot} (admitted : (s.entry i).state ≠ .discovering)
    (stopped : (s.entry i).state = .linkLost → (s.fleetSlot i).forget = none) (ls : LoaderStatus) : Moves C s (trip i ls s) :=
  (Move.leave i .tripped (some .tripped) (.inr (.inr (.inl rfl))) (fun _ _ => .emptied) admitted stopped).moves.trans
    ((fleet_moves _ i (f := fun x => { x with forget := none }) fun _ => rfl).trans (notify_moves _ _ _))

theorem loseLink_moves {s : State} {i : Slot} (admitted : (s.entry i).state ≠ .discovering)
    (stopped : (s.entry i).state = .linkLost → (s.fleetSlot i).forget = none) : Moves C s (loseLink i s) := by
  have left : ((leave i .linkLost (some .linkLost) (Entry.vacate .linkLost) s).entry i).state = .linkLost := by
    rw [leave_entry, if_pos rfl]
    rfl
  refine (Move.leave i .linkLost (some .linkLost) (.inr (.inr (.inr rfl))) (fun _ _ => .kept) admitted stopped).moves.trans
    ((notify_moves _ _ _).trans (Move.lost i _ ?_).moves)
  exact (notify_easesAt ..).state.trans left

/-- A stored status leaves what the examination of a TELEMETRY turns on. -/
theorem storeStatus_frame (i : Slot) (vs : List (Descriptor × Int)) (s : State) :
    ((storeStatus i vs s).entry i).state = (s.entry i).state ∧ (storeStatus i vs s).contexts = s.contexts ∧
      ((storeStatus i vs s).fleetSlot i).forget = (s.fleetSlot i).forget := by
  have raised (u : State) : (u.raise .service .zoneRange).entry i = u.entry i ∧ (u.raise .service .zoneRange).fleetSlot i = u.fleetSlot i :=
    ⟨rfl, rfl⟩
  unfold storeStatus
  split <;> simp [State.modEntry, State.modFleetSlot, raised]
  rfl

theorem storeStatus_moves (i : Slot) (vs : List (Descriptor × Int)) : Moving C (storeStatus i vs) := fun s => by
  have raised (u : State) : Moves C u (if zoneOutOfRange (valueOf .zone vs) then u.raise .service .zoneRange else u) := by
    split
    · exact raise_moves _ _ u
    · exact .refl u
  have heard (u : State) : Moves C u (u.modFleetSlot i fun x => { x with heard := true, misses := 0 }) := fleet_moves u i id
  exact (Moves.of_micro fun _ => .entry (.status _)).trans ((raised _).trans (heard _))

theorem zoneDropAt_moves (i : Slot) (flagBefore : Bool) (ls : LoaderStatus) : Moving C (zoneDropAt i flagBefore ls) := fun s => by
  unfold zoneDropAt
  split
  next held _ =>
    split
    · exact (dropHolder_moves held _).trans (notify_moves _ _ _)
    · exact .refl s
  next => exact .refl s

theorem examine_moves {s : State} {i : Slot} (admitted : (s.entry i).state ≠ .discovering) (online : (s.entry i).state ≠ .linkLost)
    (before : Entry) (ls : LoaderStatus) : Moves C s (examine i before ls s) := by
  have changed : Moves C s (if before.zone? = some ls.zone then s else zoneChanged i ls.zone s) := by
    split
    · exact .refl s
    · exact zoneChanged_moves i _ s
  unfold examine
  split
  · exact trip_moves admitted (fun h => absurd h online) ls
  · exact changed.trans ((evaluateGate_moves i _).trans (zoneDropAt_moves i _ ls _))

theorem stateInZone_place (z : Zone) : stateInZone z = .free ∨ stateInZone z = .locked := (stateInZone_suits z).imp And.left And.left

theorem completeDiscovery_moves {s : State} {i : Slot} (hd : (s.entry i).state = .discovering) (ls : LoaderStatus) :
    Moves C s (completeDiscovery i ls s) := by
  have cleared : Moves C s (s.modContext i fun x => { x with stage := none, read := none, answerTimer := none }) :=
    .of_micro fun _ => context_micro fun _ => ⟨rfl, rfl, rfl⟩
  have idle : ((s.modContext i fun x => { x with stage := none, read := none, answerTimer := none }).context i).Idle := by
    rw [State.modContext, State.context_setContext_self]
    exact ⟨rfl, rfl, rfl⟩
  have placed : Moves C s ((s.modContext i fun x => { x with stage := none, read := none, answerTimer := none }).modEntry i
      (Entry.vacate (stateInZone (s.zone ls.zone)))) := by
    refine cleared.trans (Move.place i (stateInZone_place _) ?_).moves
    exact .inr (.inl ⟨hd, idle⟩)
  have state : (((s.modContext i fun x => { x with stage := none, read := none, answerTimer := none }).modEntry i
      (Entry.vacate (stateInZone (s.zone ls.zone)))).entry i).state = stateInZone (s.zone ls.zone) := by
    rw [State.modEntry, State.entry_setEntry_self]
    rfl
  unfold completeDiscovery
  dsimp only
  split
  · have settled : stateInZone (s.zone ls.zone) ≠ .discovering ∧ stateInZone (s.zone ls.zone) ≠ .linkLost := by
      rcases stateInZone_place (s.zone ls.zone) with h | h <;> simp [h]
    refine placed.trans (trip_moves ?_ ?_ ls)
    · exact ne_of_eq_of_ne state settled.1
    · exact fun lost => absurd (state.symm.trans lost) settled.2
  · exact placed

theorem returnFromLoss_moves {s : State} {i : Slot} (hl : (s.entry i).state = .linkLost) (ls : LoaderStatus) :
    Moves C s (returnFromLoss i ls s) := by
  have stopped : Moves C s (s.modFleetSlot i fun x => { x with forget := none }) := fleet_moves s i fun _ => rfl
  have none : ((s.modFleetSlot i fun x => { x with forget := none }).fleetSlot i).forget = none := by
    rw [State.modFleetSlot, State.fleetSlot_setFleetSlot_self]
  unfold returnFromLoss
  dsimp only
  split
  · exact stopped.trans (trip_moves (by simp [State.modFleetSlot, hl]) (fun _ => none) ls)
  · refine stopped.trans (Move.place i (stateInZone_place _) ?_).moves
    exact .inr (.inr ⟨hl, none⟩)

theorem takeTelemetry_moves (i : Slot) (payload : List Byte) : Moving C (takeTelemetry i payload) := fun s => by
  unfold takeTelemetry
  dsimp only
  split
  · exact .refl s
  split
  · exact raise_moves _ _ s
  set vs := unpack (inChannels (s.context i).descriptors) (numberOf payload)
  have stored : Moves C s (storeStatus i vs s) := storeStatus_moves i vs s
  have state := (storeStatus_frame i vs s).1
  cases hst : (s.entry i).state with
  | discovering => exact stored.trans (completeDiscovery_moves (state.trans hst) _)
  | free | auto | held | locked => exact stored.trans (examine_moves (by simp [state, hst]) (by simp [state, hst]) _ _)
  | linkLost => exact stored.trans (returnFromLoss_moves (state.trans hst) _)
  | empty | refused | tripped => exact stored

/-! ### The timers of a slot -/

theorem countMiss_moves (i : Slot) : Moving C (countMiss i) := fun s => by
  have counted (heard : Bool) (n : Nat) : Moves C s (s.setFleetSlot i { s.fleetSlot i with heard := heard, misses := n }) :=
    .of_micro fun _ => .fleet i fun _ => id
  unfold countMiss
  dsimp only
  split
  next counts =>
    split
    · exact counted _ _
    · split
      · refine (counted (s.fleetSlot i).heard ((s.fleetSlot i).misses + 1)).trans ?_
        split
        next hd =>
          refine (Move.refuse i _ ?_).moves
          have stage : (s.context i).stage = some .awaitingTelemetry := by simpa [countsMisses, hd] using counts
          exact not_idle_of_stage stage
        next hd =>
          refine loseLink_moves hd fun hl => ?_
          have lost : (s.entry i).state = .linkLost := hl
          simp [countsMisses, lost] at counts
      · exact counted _ _
  next => exact counted _ _

theorem sendStatus_moves (i : Slot) (axes : Axes) (capped ramped : Bool) : Moving C (sendStatus i axes capped ramped) := fun s => by
  unfold sendStatus
  split
  · exact .of_micros fun _ => send_micros s _ (by simp)
  · exact .refl s

theorem queueCommand_moves (i : Slot) (mode : Mode) (payload : List Byte) : Moving C fun s => s.queueCommand i mode payload :=
  fun _ => .of_micro fun _ => .fleetQueue (.command ..)

theorem buildCommand_moves (i : Slot) : Moving C (buildCommand i) := fun s => by
  unfold buildCommand
  split
  · exact .refl s
  · split
    · exact queueCommand_moves _ _ _ s
    next src hsrc =>
      exact (Moves.of_micro fun _ => .entry (.built hsrc)).trans
        ((queueCommand_moves _ _ _ _).trans (sendStatus_moves _ _ _ _ _))

theorem fleetDeparted_moves (f : FleetFrame) : Moving C (fleetDeparted f) := fun s => by
  unfold fleetDeparted
  split
  · exact .refl s
  · split
    next h => exact .of_micro fun _ => context_micro fun idle => by simp [idle.2.1] at h
    next => exact .refl s

/-! ### Resets -/

theorem chair_afterReset (v : Vector Chair 6) (c : ChairId) :
    (v.map Chair.afterReset).get c = { Chair.reset with port := { PortRegs.reset with sending := (v.get c).port.sending } } := by
  simp [Vector.get_eq_getElem, Chair.afterReset, PortRegs.afterReset]

theorem resetAllBlocks_blanked (s : State) : Blanked s (resetAllBlocks s) :=
  { entries := rfl, chairs := fun c => ⟨_, chair_afterReset s.chairs c⟩, service := ⟨_, _, rfl⟩, calls := rfl, zones := .inl rfl,
    policy := .inl rfl, bindings := .inl rfl, contexts := rfl, fleet := rfl, fleetQueue := rfl, gatewayReady := rfl, pending := rfl }

theorem resetKeepBlocks_blanked (s : State) : Blanked s (resetKeepBlocks s) :=
  { resetAllBlocks_blanked s with zones := .inr rfl, policy := .inr rfl, bindings := .inr rfl }

theorem chair_reset (c : ChairId) : State.reset.chair c = Chair.reset := Vector.getElem_replicate c.isLt

theorem powerOn_blanked (s : State) : Blanked s { State.reset with gatewayReady := s.gatewayReady, pending := s.pending } :=
  { entries := rfl, chairs := fun c => ⟨[], chair_reset c⟩, service := ⟨none, [], rfl⟩, calls := rfl, zones := .inl rfl,
    policy := .inl rfl, bindings := .inl rfl, contexts := rfl, fleet := rfl, fleetQueue := rfl, gatewayReady := rfl, pending := rfl }

end Sys2Proof.Machine
end


section
/-! SUPPORT. Every command but GATEWAY_READY_CHANGE as moves, and every step. -/

namespace Sys2Proof.Machine

variable {C : State → ChairId → Chair → Prop}

/-! ### The commands of the consoles -/

theorem fromUnit_moves (u : UnitNumber) {act : Slot → State → State} (ha : ∀ i, Moving C (act i)) : Moving C (fromUnit u act) := fun s => by
  unfold fromUnit
  split
  · exact ha _ s
  · exact raise_moves _ _ s

theorem removed_moves (s : State) (i : Slot) : Moves C s (s.removeCall i) := (Move.remove i).moves

theorem not_mem_callers_removeCall (s : State) (i : Slot) : i ∉ (s.removeCall i).callers := by
  simp [State.callers, State.removeCall]

/-- A chair's request that carries a slot and a gate, on the port it came from. -/
theorem gateRequest_moves {r : Sender} {kind : RequestKind} {slot : Byte} {gate : Option GateIn}
    {owner : ChairId → Slot → Option Gate → State → State}
    (ho : ∀ c i g s, s.online r.port = true → Moves C s (owner c i g s)) :
    Moving C (event (takeRequest r kind (.slot slot) (fromChair r kind (.slot slot) fun c => withGate r kind slot gate (owner c)))) :=
  event_moves (takeRequest_moves _ _ _ fun _ on _ => fromChair_moves _ _ _ fun c _ => withGate_moves _ _ _ _ fun i g => ho c i g _ on)

/-- A chair's request that carries a slot. -/
theorem slotRequest_moves {r : Sender} {kind : RequestKind} {slot : Byte} {owner : ChairId → Slot → State → State}
    (ho : ∀ c i, Moving C (owner c i)) :
    Moving C (event (takeRequest r kind (.slot slot) (fromChair r kind (.slot slot) fun c => withSlot r kind slot (owner c)))) :=
  event_moves (takeRequest_moves _ _ _ fun _ _ _ => fromChair_moves _ _ _ fun c _ => withSlot_moves _ _ _ fun i => ho c i _)

section
variable (r : Sender) (slot : Byte) (gate : Option GateIn) (s : State)

theorem execTake_moves : ∃ t, execTake r slot gate s = .next t ∧ Moves C s t := by
  refine ⟨_, rfl, gateRequest_moves (fun c i g u on => ?_) s⟩
  split
  · exact reply_moves _ _ _ _ u
  next h => exact startTake_moves on g h

theorem execPass_moves (target : Byte) : ∃ t, execPass r slot target gate s = .next t ∧ Moves C s t := by
  refine ⟨_, rfl, gateRequest_moves (fun c i g u on => ?_) s⟩
  split
  · exact fieldError_moves _ _ _ u
  · split
    · exact reply_moves _ _ _ _ u
    next h =>
      obtain ⟨free, held, fit⟩ := passChecks_passed h
      exact startOffer_moves on g free held fit

theorem available_of_returnTargetFit {i : Slot} {c t : ChairId} {s : State} (h : returnTargetFit i c t s = true) : s.available t = true := by
  simp only [returnTargetFit, Bool.and_eq_true] at h
  exact h.1.1.2

theorem execReturnLoader_moves : ∃ t, execReturnLoader r slot gate s = .next t ∧ Moves C s t := by
  refine ⟨_, rfl, gateRequest_moves (fun c i g u on => ?_) s⟩
  split
  · exact reply_moves _ _ _ _ u
  next h =>
    obtain ⟨free, held⟩ := holderChecks_passed h
    split
    · exact reply_moves _ _ _ _ u
    · split
      next fit => exact startOffer_moves on g free held (available_of_returnTargetFit fit)
      next => exact reply_moves _ _ _ _ u
    · exact startToAuto_moves on g free held

theorem execResume_moves : ∃ t, execResume r slot gate s = .next t ∧ Moves C s t := by
  refine ⟨_, rfl, gateRequest_moves (fun c i g u on => ?_) s⟩
  split
  · exact reply_moves _ _ _ _ u
  next h =>
    obtain ⟨free, held⟩ := holderChecks_passed h
    exact startToAuto_moves on g free held

theorem execAccept_moves : ∃ t, execAccept r slot s = .next t ∧ Moves C s t := by
  refine ⟨_, rfl, slotRequest_moves (fun c i u => ?_) s⟩
  split
  next h => exact (Move.accept i c h).moves.trans ((reply_moves _ _ _ _ _).trans (enterGating_moves i _))
  next => exact reply_moves _ _ _ _ u

theorem execDecline_moves : ∃ t, execDecline r slot s = .next t ∧ Moves C s t := by
  refine ⟨_, rfl, slotRequest_moves (fun c i u => ?_) s⟩
  split
  · exact (Move.abandon i _ (.inl rfl)).moves.trans (reply_moves _ _ _ _ _)
  · exact reply_moves _ _ _ _ u

theorem execPark_moves : ∃ t, execPark r slot s = .next t ∧ Moves C s t := by
  refine ⟨_, rfl, slotRequest_moves (fun c i u => ?_) s⟩
  split
  next h => exact parkLoader_moves r slot c h
  next => exact reply_moves _ _ _ _ u

theorem execCancel_moves : ∃ t, execCancel r s = .next t ∧ Moves C s t := by
  refine ⟨_, rfl, event_moves (fun u => ?_) s⟩
  refine (goodFrame_moves r.port u).trans ?_
  dsimp only
  split
  · exact (cancelOutstanding_moves _ _ _).trans (reply_moves _ _ _ _ _)
  · exact reply_moves _ _ _ _ _

theorem execQuery_moves (target number field index : Byte) : ∃ t, execQuery r target number field index s = .next t ∧ Moves C s t := by
  refine ⟨_, rfl, event_moves (takeRequest_moves _ _ _ fun u _ _ => ?_) s⟩
  split
  · exact reply_moves _ _ _ _ u
  · exact fieldError_moves _ _ _ u

theorem execAck_moves (flags : Half) (clearCount : Bool) : ∃ t, execAck r flags clearCount s = .next t ∧ Moves C s t :=
  ⟨_, rfl, event_moves (takeRequest_moves _ _ _ fun u _ _ =>
    (Moves.of_micros fun _ => modPort_micros u _ _ (.acknowledged flags clearCount)).trans (reply_moves _ _ _ _ _)) s⟩

theorem execZoneSet_moves (zone : Byte) (state : ZoneState) (cap backoff : Half) (allowed : ChairSet) :
    ∃ t, execZoneSet r zone state cap backoff allowed s = .next t ∧ Moves C s t := by
  refine ⟨_, rfl, event_moves (takeRequest_moves _ _ _ fun u _ _ => ?_) s⟩
  split
  · exact (writeZone_moves r _ (zoneStored_bounds ..) u).trans (set_due_moves _)
  · exact (fieldError_moves _ _ _ u).trans (set_due_moves _)

theorem execPolicySet_moves (field : Byte) (value : PolicyValue) : ∃ t, execPolicySet r field value s = .next t ∧ Moves C s t := by
  refine ⟨_, rfl, event_moves (takeRequest_moves _ _ _ fun u _ _ => ?_) s⟩
  split
  · exact fieldError_moves _ _ _ u
  · split
    · exact fieldError_moves _ _ _ u
    next h => exact (Moves.of_micro fun _ => .policy h).trans (reply_moves _ _ _ _ _)

theorem forceEntry_moves {i : Slot} {s : State} (h : (s.entry i).state.carries = true) : Moves C s (forceEntry i s) :=
  (Move.leave i .forced (some .forced) (.inl rfl) (fun _ _ => .emptied) (fun d => by simp [d, EntryState.carries] at h)
    (fun l => by simp [l, EntryState.carries] at h)).moves

theorem execForceFree_moves : ∃ t, execForceFree r slot s = .next t ∧ Moves C s t := by
  refine ⟨_, rfl, event_moves (takeRequest_moves _ _ _ fun u _ _ => withSlot_moves _ _ _ fun i => ?_) s⟩
  have forced (hc : (u.entry i).state.carries = true) : Moves C u (reply r .forceFree .done (.slot slot) (forceEntry i u)) :=
    (forceEntry_moves hc).trans (reply_moves _ _ _ _ _)
  split
  next h => exact forced (by rw [h]; rfl)
  next h => exact forced (by rw [h]; rfl)
  next h => exact forced (by rw [h]; rfl)
  next => exact reply_moves _ _ _ _ u

theorem execLoaderRestart_moves : ∃ t, execLoaderRestart r slot s = .next t ∧ Moves C s t := by
  refine ⟨_, rfl, event_moves (takeRequest_moves _ _ _ fun u _ _ => withSlot_moves _ _ _ fun i => ?_) s⟩
  have restarted : Moves C u (reply r .loaderRestart .done (.slot slot) (startDiscovery i (u.queueRestart i))) :=
    (Moves.of_micro fun _ => .fleetQueue (.restart ..)).trans ((Move.discover i).moves.trans (reply_moves _ _ _ _ _))
  split
  exacts [restarted, restarted, restarted, reply_moves _ _ _ _ u]

theorem execResetAll_moves : ∃ t, execResetAll r s = .next t ∧ Moves C s t :=
  ⟨_, rfl, event_moves (takeRequest_moves _ _ _ fun u _ _ =>
    (Move.reset (resetAllBlocks_blanked u)).moves.trans (reply_moves _ _ _ _ _)) s⟩

theorem execResetKeep_moves : ∃ t, execResetKeep r s = .next t ∧ Moves C s t :=
  ⟨_, rfl, event_moves (takeRequest_moves _ _ _ fun _ _ _ => Move.resetKeep.moves.trans (reply_moves _ _ _ _ _)) s⟩

/-! ### The axes, presence and latch of a chair -/

theorem wellFormed_iff (f : AxisFrame) : axisInRange f = true ↔ f.WellFormed := by
  simp [axisInRange, inCounts, and_assoc]

theorem execAxis_moves (c : ChairId) (f : AxisFrame) : ∃ t, execAxis c f s = .next t ∧ Moves ChairWrite s t := by
  refine ⟨_, rfl, event_moves (fun u => ?_) s⟩
  split
  next h => exact takeAxis_moves c ((wellFormed_iff f).1 h) u
  next => exact takeBadFrame_moves _ _ u

theorem execReady_moves : ∃ t, execReady r s = .next t ∧ Moves ChairWrite s t := by
  refine ⟨_, rfl, event_moves (takeRequest_moves _ _ _ fun u _ _ => fromChair_moves _ _ _ fun c _ => ?_) s⟩
  split
  · exact becomeReady_moves r c u
  · exact reply_moves _ _ _ _ u

theorem execUnready_moves : ∃ t, execUnready r s = .next t ∧ Moves ChairWrite s t :=
  ⟨_, rfl, event_moves (takeRequest_moves _ _ _ fun u _ _ => fromChair_moves _ _ _ fun c _ => becomeUnready_moves r c u) s⟩

theorem settleExpiry_moves (c : ChairId) : ∃ t, execSettleExpiry c s = .next t ∧ Moves ChairWrite s t :=
  ⟨_, rfl, event_moves (ite_moves (becomePresent_moves c)) s⟩

theorem graceExpiry_moves (c : ChairId) : ∃ t, execGraceExpiry c s = .next t ∧ Moves ChairWrite s t :=
  ⟨_, rfl, event_moves (ite_moves (loseGrace_moves c)) s⟩

theorem stalenessExpiry_moves (c : ChairId) : ∃ t, execStalenessExpiry c s = .next t ∧ Moves ChairWrite s t :=
  ⟨_, rfl, event_moves (ite_moves (goStale_moves c)) s⟩

end

/-! ### The links and the deadlines -/

section
variable (s : State) (i : Slot) (p : Port)

theorem execIdle_moves : ∃ t, execIdle p s = .next t ∧ Moves C s t := ⟨_, rfl, event_moves (goodFrame_moves p) s⟩

theorem execBadFrame_moves (why : BadFrame) : ∃ t, execBadFrame p why s = .next t ∧ Moves C s t :=
  ⟨_, rfl, event_moves (takeBadFrame_moves p why) s⟩

theorem execSilenceExpiry_moves : ∃ t, execSilenceExpiry p s = .next t ∧ Moves C s t :=
  ⟨_, rfl, event_moves (ite_moves (goOffline_moves p)) s⟩

theorem execPortFrameDepart_moves : ∃ t, execPortFrameDepart p s = .next t ∧ Moves C s t := by
  refine ⟨_, rfl, event_moves (fun u => ?_) s⟩
  split
  · exact Moves.refl u
  next h => exact Moves.of_micros fun _ => modPort_micros u p _ (.departed h _)

theorem execOfferDeadlineExpiry_moves : ∃ t, execOfferDeadlineExpiry i s = .next t ∧ Moves ChairWrite s t := by
  refine ⟨_, rfl, event_moves (fun u => ?_) s⟩
  split
  · exact Moves.refl u
  · split
    · exact Moves.refl u
    · refine Relation.ReflTransGen.trans ?_ (Move.abandon i _ (.inl rfl)).moves
      split
      · exact timed_moves u _ rfl rfl rfl
      · exact Moves.refl u

theorem execGateDeadlineExpiry_moves : ∃ t, execGateDeadlineExpiry i s = .next t ∧ Moves C s t := by
  refine ⟨_, rfl, event_moves (fun u => ?_) s⟩
  split
  · exact Moves.refl u
  · split
    · exact Moves.refl u
    · exact (Move.abandon i _ (.inl rfl)).moves

/-! ### The commands of the fleet link -/

theorem execCycleExpiry_moves : ∃ t, execCycleExpiry i s = .next t ∧ Moves C s t := by
  refine ⟨_, rfl, event_moves (ite_moves fun u => ?_) s⟩
  exact (countMiss_moves i u).trans ((buildCommand_moves i _).trans (fleet_moves _ i id))

theorem execForgetExpiry_moves : ∃ t, execForgetExpiry i s = .next t ∧ Moves C s t := by
  refine ⟨_, rfl, event_moves (fun u => ?_) s⟩
  split
  next h => exact (Move.forget i (by simpa [Option.isSome_iff_ne_none] using h)).moves
  next => exact Moves.refl u

theorem execAnswerTimerExpiry_moves : ∃ t, execAnswerTimerExpiry i s = .next t ∧ Moves C s t := by
  refine ⟨_, rfl, event_moves (fun u => ?_) s⟩
  split
  next h => exact (Move.refuse i _ fun idle => by simp [idle.2.2] at h).moves
  next => exact Moves.refl u

end

section
variable (u : UnitNumber) (s : State)

theorem execHello_moves : ∃ t, execHello u s = .next t ∧ Moves C s t := by
  refine ⟨_, rfl, event_moves (fun v => ?_) s⟩
  split
  · exact raise_moves _ _ v
  next zero =>
    split
    · exact (Move.discover _).moves
    next new => exact bindUnit_moves zero new

theorem execIdAnswer_moves (name : LoaderName) (period watchdog : Half) :
    ∃ t, execIdAnswer u name period watchdog s = .next t ∧ Moves C s t := by
  refine ⟨_, rfl, event_moves (fromUnit_moves u fun i v => ?_) s⟩
  split
  next h => exact sendRead_moves (not_idle_of_stage h) _ _
  next => exact Moves.refl v

theorem execEntryAnswer_moves (index : Byte) (descriptor : Option Descriptor) :
    ∃ t, execEntryAnswer u index descriptor s = .next t ∧ Moves C s t := by
  refine ⟨_, rfl, event_moves (fromUnit_moves u fun i v => ?_) s⟩
  split
  next h =>
    split
    · exact takeDescriptor_moves (not_idle_of_stage h.1) index _
    · exact takeEnd_moves (not_idle_of_stage h.1)
  next => exact Moves.refl v

theorem execCall_moves (r : CallReason) : ∃ t, execCall u r s = .next t ∧ Moves C s t := by
  refine ⟨_, rfl, event_moves (fromUnit_moves u fun i v => ?_) s⟩
  split
  next auto =>
    split
    next k hk => exact (Move.raise r (by rwa [slot_of_findCall hk])).moves
    next new => exact (Move.create i r auto new).moves
  next => exact .of_micro fun _ => .ignored i _

theorem execCallClear_moves : ∃ t, execCallClear u s = .next t ∧ Moves C s t := by
  refine ⟨_, rfl, event_moves (fromUnit_moves u fun i v => ?_) s⟩
  split
  · split
    · split
      · exact (removed_moves v i).trans (Move.abandon i _ (.inr (not_mem_callers_removeCall v i))).moves
      · exact removed_moves v i
    · exact Moves.refl v
  · exact .of_micro fun _ => .ignored i _

theorem execTelemetry_moves (payload : List Byte) : ∃ t, execTelemetry u payload s = .next t ∧ Moves C s t :=
  ⟨_, rfl, event_moves (fromUnit_moves u fun i => takeTelemetry_moves i payload) s⟩

theorem execBadFleetFrame_moves (why : BadFleetFrame) : ∃ t, execBadFleetFrame why s = .next t ∧ Moves C s t :=
  ⟨_, rfl, event_moves (fun v => raise_moves _ _ v) s⟩

theorem execFleetFrameDepart_moves : ∃ t, execFleetFrameDepart s = .next t ∧ Moves C s t := by
  refine ⟨_, rfl, event_moves (fun v => ?_) s⟩
  split
  next f q _ h =>
    refine Relation.ReflTransGen.trans ?_ (fleetDeparted_moves f _)
    exact (Moves.of_micro fun _ => .fleetQueue (.fewer (h ▸ List.sublist_cons_self f q))).trans
      (Moves.of_micro fun _ => .sent (fleetFrameBytes f))
  next => exact Moves.refl v

theorem execPowerOn_moves : ∃ t, execPowerOn s = .next t ∧ Moves C s t := ⟨_, rfl, (Move.reset (powerOn_blanked s)).moves⟩

end

/-! ### Every command -/

/-- Every command but the change of the input GATEWAY_READY is made of moves. -/
theorem exec_moves (cmd : Instr) (h : ∀ b, cmd ≠ .gatewayReadyChange b) (s : State) : ∃ t, exec cmd s = .next t ∧ Moves ChairWrite s t := by
  cases cmd with
  | powerOn => exact execPowerOn_moves s
  | axis c f => exact execAxis_moves s c f
  | idle p => exact execIdle_moves s p
  | badFrame p why => exact execBadFrame_moves s p why
  | take r slot gate => exact execTake_moves r slot gate s
  | pass r slot target gate => exact execPass_moves r slot gate s target
  | returnLoader r slot gate => exact execReturnLoader_moves r slot gate s
  | resume r slot gate => exact execResume_moves r slot gate s
  | accept r slot => exact execAccept_moves r slot s
  | decline r slot => exact execDecline_moves r slot s
  | ready r => exact execReady_moves r s
  | unready r => exact execUnready_moves r s
  | park r slot => exact execPark_moves r slot s
  | cancel r => exact execCancel_moves r s
  | query r target number field index => exact execQuery_moves r s target number field index
  | ack r flags clearCount => exact execAck_moves r s flags clearCount
  | zoneSet r zone state cap backoff allowed => exact execZoneSet_moves r s zone state cap backoff allowed
  | policySet r field value => exact execPolicySet_moves r s field value
  | forceFree r slot => exact execForceFree_moves r slot s
  | loaderRestart r slot => exact execLoaderRestart_moves r slot s
  | resetAll r => exact execResetAll_moves r s
  | resetKeep r => exact execResetKeep_moves r s
  | settleExpiry c => exact settleExpiry_moves s c
  | graceExpiry c => exact graceExpiry_moves s c
  | stalenessExpiry c => exact stalenessExpiry_moves s c
  | silenceExpiry p => exact execSilenceExpiry_moves s p
  | offerDeadlineExpiry i => exact execOfferDeadlineExpiry_moves s i
  | gateDeadlineExpiry i => exact execGateDeadlineExpiry_moves s i
  | cycleExpiry i => exact execCycleExpiry_moves s i
  | forgetExpiry i => exact execForgetExpiry_moves s i
  | answerTimerExpiry i => exact execAnswerTimerExpiry_moves s i
  | hello u => exact execHello_moves u s
  | idAnswer u name period watchdog => exact execIdAnswer_moves u s name period watchdog
  | entryAnswer u index descriptor => exact execEntryAnswer_moves u s index descriptor
  | call u r => exact execCall_moves u s r
  | callClear u => exact execCallClear_moves u s
  | telemetry u payload => exact execTelemetry_moves u s payload
  | badFleetFrame why => exact execBadFleetFrame_moves s why
  | gatewayReadyChange b => exact absurd rfl (h b)
  | fleetFrameDepart => exact execFleetFrameDepart_moves s
  | portFrameDepart p => exact execPortFrameDepart_moves s p

/-- GATEWAY_READY_CHANGE writes the input between moves. -/
theorem execGatewayReadyChange_moves (b : Bool) (s : State) :
    ∃ t, exec (.gatewayReadyChange b) s = .next t ∧ Moves C { s with dispatchDue := false, gatewayReady := b } t :=
  ⟨_, rfl, finish_moves _⟩

/-- What each move keeps, and what turns on neither the waiting commands nor GATEWAY_READY, is kept by every step. -/
theorem step_keeps {P : State → Prop} (move : ∀ {s t}, Move ChairWrite s t → P s → P t)
    (inputs : ∀ {s} (q : List Instr) (b : Bool), P s → P { s with pending := q, gatewayReady := b }) {s t : State}
    (h : step s = .next t) (hs : P s) : P t := by
  have moves {u v : State} (huv : Moves ChairWrite u v) (hu : P u) : P v := by
    induction huv with
    | refl => exact hu
    | tail _ hm ih => exact move hm ih
  unfold step at h
  split at h
  · cases h
    exact hs
  next cmd rest _ =>
    have ready : P { s with pending := rest } := inputs rest s.gatewayReady hs
    rcases em (∃ b, cmd = .gatewayReadyChange b) with ⟨b, rfl⟩ | other
    · obtain ⟨u, hu, hm⟩ := execGatewayReadyChange_moves (C := ChairWrite) b { s with pending := rest }
      rw [hu] at h
      cases h
      exact moves hm (inputs rest b (moves (due_moves s false) hs))
    · obtain ⟨u, hu, hm⟩ := exec_moves cmd (not_exists.1 other) { s with pending := rest }
      rw [hu] at h
      cases h
      exact moves hm ready

end Sys2Proof.Machine
end


section
/-! SUPPORT. Every move as single writes, and the laws over one record at a time, which each write keeps. -/

namespace Sys2Proof.Machine

variable {C : State → ChairId → Chair → Prop}

/-! ### Moves as writes -/

theorem Micros.of_micro {s t : State} {b : Bool} (h : Micro C b s t) : Micros C b s t := .single h

theorem beginReads_micros (i : Slot) (s : State) : Micros C false s (beginReads i s) := by
  have begun : Micros C false s (s.setContext i contextAtStart) := (Micro.context i (by simp)).micros
  have timed (u : State) : Micros C false u (u.setFleetSlot i fleetAtStart) := (Micro.fleet i (by simp)).micros
  have withdrawn (u : State) : Micros C false u (u.withdrawCommand i) := (Micro.fleetQueue (.fewer List.filter_sublist)).micros
  have read (u : State) : Micros C false u (u.queueRead i .readId) := (Micro.fleetQueue (.read ..)).micros
  exact begun.trans ((timed _).trans ((withdrawn _).trans (read _)))

theorem startDiscovery_micros (i : Slot) (s : State) : Micros C false s (startDiscovery i s) :=
  (leave_micros s i (by decide) (by decide) _ _ fun _ _ => .blank).trans (beginReads_micros i _)

theorem refuse_micros (i : Slot) (cause : Code) (s : State) : Micros C false s (refuse i cause s) := by
  have vacated : Micros C false s (s.modEntry i (Entry.vacate .refused)) :=
    (Micro.entry (.vacated (by decide) (by decide) .kept)).micros
  have ended (u : State) (x : Context) : Micros C false u (u.setContext i x) := (Micro.context i (by simp)).micros
  have withdrawn (u : State) : Micros C false u (u.withdrawRead i) := (Micro.fleetQueue (.fewer List.filter_sublist)).micros
  exact vacated.trans ((ended _ _).trans ((withdrawn _).trans (notify_micros _ _ _)))

theorem forgotten_micros (i : Slot) (s : State) : Micros C false s (forgotten i s) := by
  have emptied : Micros C false s (s.setEntry i (Entry.blank .empty)) :=
    (Micro.entry (.vacated (st := .empty) (by decide) (by decide) .blank)).micros
  have cleared (u : State) : Micros C false u (u.setContext i Context.cleared) := (Micro.context i (by simp)).micros
  have stopped (u : State) : Micros C false u (u.setFleetSlot i FleetSlot.reset) := (Micro.fleet i (by simp)).micros
  have withdrawn (u : State) : Micros C false u (u.withdrawAnyCommand i) := (Micro.fleetQueue (.fewer List.filter_sublist)).micros
  exact emptied.trans ((cleared _).trans ((stopped _).trans (withdrawn _)))

theorem calls_micros (s : State) (q : List Call) : Micros C false s { s with calls := q } := (Micro.calls q).micros

theorem createCall_micros (i : Slot) (r : CallReason) (s : State) : Micros C false s (createCall i r s) := by
  unfold createCall
  dsimp only
  split
  · exact (calls_micros s _).trans (Micro.entry (.record _)).micros
  · exact (calls_micros s _).trans (due_micros _)

theorem raiseCall_micros (k : Call) (r : CallReason) (s : State) : Micros C false s (raiseCall k r s) := by
  unfold raiseCall
  split
  · dsimp only
    split
    · exact calls_micros s _
    · exact (calls_micros s _).trans (due_micros _)
  · exact .refl s

theorem foldl_beginReads_micros (idle : Slot → Prop) [DecidablePred idle] (l : List Slot) (s : State) :
    Micros C false s (l.foldl (fun t i => if idle i then t else beginReads i (t.setEntry i (Entry.blank .discovering))) s) := by
  induction l generalizing s with
  | nil => exact .refl s
  | cons i l ih =>
    have begun : Micros C false s (beginReads i (s.setEntry i (Entry.blank .discovering))) :=
      (Micro.entry (.vacated (st := .discovering) (by decide) (by decide) .blank)).micros.trans (beginReads_micros i _)
    rw [List.foldl_cons]
    split
    · exact ih s
    · exact begun.trans (ih _)

theorem resetKeepAll_micros (s : State) : Micros C false s (resetKeepAll s) :=
  (Micro.blanked (resetKeepBlocks_blanked s)).micros.trans
    (foldl_beginReads_micros (fun i => (s.entry i).state = .empty) allSlots _)

theorem dropHolder_micros (i : Slot) (lost : Code) (s : State) : Micros C false s (dropHolder i lost s) :=
  leave_micros s i (by decide) (by decide) _ _ fun _ _ => .kept

theorem chairOffline_micros (c : ChairId) (s : State) : Micros C false s (chairOffline c s) := by
  have wiped : Micros C false s (s.modPort (.chair c) fun r => { r with outstanding := none, queue := [] }) :=
    modPort_micros s (.chair c) _ .wiped
  have dropped (u : State) : Micros C false u (match u.heldSlot c with
      | some i => dropHolder i .link u
      | none => u) := by
    split
    · exact dropHolder_micros _ _ u
    · exact .refl u
  have abandoned (u : State) : Micros C false u (match u.targetSlot c with
      | some i => abandon i .targetOffline u
      | none => u) := by
    split
    · exact abandon_micros u _ _
    · exact .refl u
  have cut (u : State) : Micros C false u (u.setChair c (u.chair c).cutOff).due := (Micro.gone c).micros.trans (due_micros _)
  exact wiped.trans ((dropped _).trans ((abandoned _).trans (cut _)))

theorem moveToGating_micros (i : Slot) (s : State) : Micros C false s (moveToGating i s) := (Micro.entry (.record _)).micros

theorem Move.micros {s t : State} (h : Move C s t) : Micros C false s t := by
  cases h with
  | still h => exact h false
  | abandon i cause => exact abandon_micros s i cause
  | leave i cause lost after vacates =>
    rcases after with rfl | rfl | rfl | rfl <;> exact leave_micros s i (by decide) (by decide) cause lost vacates
  | discover i => exact startDiscovery_micros i s
  | transfer i => exact transfer_micros s i _
  | start i => exact startHandover_micros s i _
  | accept i c => exact (moveToGating_micros i s).trans (Micro.placed c (.inr (.inr rfl))).micros
  | place i after =>
    rcases after with rfl | rfl <;> exact (Micro.entry (.vacated (by decide) (by decide) .kept)).micros
  | lost i n => exact (Micro.fleet i (by simp)).micros
  | refuse i cause => exact refuse_micros i cause s
  | forget i => exact forgotten_micros i s
  | create i r => exact createCall_micros i r s
  | raise r => exact raiseCall_micros _ r s
  | remove i => exact calls_micros s _
  | reset h => exact (Micro.blanked h).micros
  | resetKeep => exact resetKeepAll_micros s
  | offline c => exact chairOffline_micros c s

/-- What each write keeps, and what turns on neither the waiting commands nor GATEWAY_READY, is kept by every step. -/
theorem step_keeps_of_micro {P : State → Prop} (micro : ∀ {s t}, Micro ChairWrite false s t → P s → P t)
    (inputs : ∀ {s} (q : List Instr) (b : Bool), P s → P { s with pending := q, gatewayReady := b }) {s t : State}
    (h : step s = .next t) (hs : P s) : P t :=
  step_keeps (fun hm => hm.micros.keeps micro) inputs h hs

end Sys2Proof.Machine
end


section
/-! SUPPORT. The arithmetic of ramps and gains (R103, R108). -/

namespace Sys2Proof.Machine

/-! ### The rounded quotient of a ramp (R103) -/

/-- The magnitude of a quotient rounded to the nearest integer, a half toward zero. -/
def roundedMagnitude (n d : Nat) : Nat := (2 * n + d - 1) / (2 * d)

theorem roundQuotient_of_nonneg {n : Int} (h : 0 ≤ n) (d : Nat) : roundQuotient n d = roundedMagnitude n.natAbs d := by
  simp [roundQuotient, roundedMagnitude, not_lt.2 h]

theorem roundQuotient_of_neg {n : Int} (h : n < 0) (d : Nat) : roundQuotient n d = -roundedMagnitude n.natAbs d := by
  simp [roundQuotient, roundedMagnitude, h]

/-- The rounded magnitude exceeds the exact quotient by less than a half and falls short of it by at most a half. -/
theorem roundedMagnitude_bounds (n : Nat) {d : Nat} (hd : 0 < d) :
    2 * (d * roundedMagnitude n d) < 2 * n + d ∧ 2 * n ≤ 2 * (d * roundedMagnitude n d) + d := by
  have split := Nat.div_add_mod (2 * n + d - 1) (2 * d)
  have rest := Nat.mod_lt (2 * n + d - 1) (show 0 < 2 * d by omega)
  rw [mul_assoc] at split
  unfold roundedMagnitude
  omega

theorem roundedMagnitude_mul (m : Nat) {d : Nat} (hd : 0 < d) : roundedMagnitude (m * d) d = m := by
  have shape : 2 * (m * d) + d - 1 = (d - 1) + 2 * d * m := by
    rw [mul_assoc, mul_comm d m]
    omega
  rw [roundedMagnitude, shape, Nat.add_mul_div_left _ _ (by omega), Nat.div_eq_of_lt (by omega), zero_add]

theorem roundedMagnitude_le {n m d : Nat} (hd : 0 < d) (h : n ≤ m * d) : roundedMagnitude n d ≤ m := by
  refine le_trans ?_ (roundedMagnitude_mul m hd).le
  exact Nat.div_le_div_right (by omega)

/-- The rounded quotient is nearest, a half toward zero. -/
theorem roundQuotient_nearest (n : Int) {d : Nat} (hd : 0 < d) :
    2 * (d * roundQuotient n d - n).natAbs ≤ d ∧ (2 * (d * roundQuotient n d - n).natAbs = d → (d * roundQuotient n d).natAbs ≤ n.natAbs) := by
  obtain ⟨above, below⟩ := roundedMagnitude_bounds n.natAbs hd
  rcases le_or_gt 0 n with h | h
  · rw [roundQuotient_of_nonneg h, ← Nat.cast_mul]
    omega
  · rw [roundQuotient_of_neg h, mul_neg, ← Nat.cast_mul]
    omega

/-- A ramp's output lies between its start and its target. -/
theorem rampAxis_between (S T : Int) {k K : Nat} (hk : 1 ≤ k) (hK : k ≤ K) : min S T ≤ rampAxis S T k K ∧ rampAxis S T k K ≤ max S T := by
  have magnitude : ((T - S) * k).natAbs = (T - S).natAbs * k := by simp [Int.natAbs_mul]
  have far : roundedMagnitude ((T - S) * k).natAbs K ≤ (T - S).natAbs := by
    rw [magnitude]
    exact roundedMagnitude_le (by omega) (Nat.mul_le_mul_left _ hK)
  unfold rampAxis
  rcases le_or_gt 0 (T - S) with h | h
  · rw [roundQuotient_of_nonneg (mul_nonneg h (by omega))]
    omega
  · rw [roundQuotient_of_neg (mul_neg_of_neg_of_pos h (by omega))]
    omega

theorem rampAxis_end (S T : Int) {K : Nat} (hK : 1 ≤ K) : rampAxis S T K K = T := by
  have magnitude : ((T - S) * K).natAbs = (T - S).natAbs * K := by simp [Int.natAbs_mul]
  unfold rampAxis
  rcases le_or_gt 0 (T - S) with h | h
  · rw [roundQuotient_of_nonneg (mul_nonneg h (by omega)), magnitude, roundedMagnitude_mul _ hK]
    omega
  · rw [roundQuotient_of_neg (mul_neg_of_neg_of_pos h (by omega)), magnitude, roundedMagnitude_mul _ hK]
    omega

/-! ### Gains (R108) -/

/-- A count through the gain of one side of a raw range: never beyond the range, and the range itself at the last count. -/
theorem scaled_le {n limit range : Nat} (h : n ≤ limit) :
    (n * (range * 65536 / limit) + 32768) / 65536 ≤ range := by
  have gain : n * (range * 65536 / limit) ≤ range * 65536 := (Nat.mul_le_mul_right _ h).trans (Nat.mul_div_le _ _)
  omega

theorem scaled_end {limit range : Nat} (pos : 0 < limit) (small : limit ≤ 32768) :
    (limit * (range * 65536 / limit) + 32768) / 65536 = range := by
  have split := Nat.div_add_mod (range * 65536) limit
  have rest := Nat.mod_lt (range * 65536) pos
  omega

theorem scale_of_nonneg (g : Gain) (mid : Int) {n : Int} (h : 0 ≤ n) :
    scale g mid n = mid + ((n.natAbs * g.pos + 32768) / 65536 : Nat) := if_pos h

theorem scale_of_neg (g : Gain) (mid : Int) {n : Int} (h : n < 0) :
    scale g mid n = mid - ((n.natAbs * g.neg + 32768) / 65536 : Nat) := if_neg (not_le.2 h)

end Sys2Proof.Machine

namespace Sys2Proof.Settled

open Sys2Proof.Machine

/-- Settles O47: the ramp adds to its start a quotient rounded to the nearest integer, a half toward zero. -/
theorem rampOutputIsNearest : Obligations.RampOutputIsNearest := fun S T k K hk hK => by
  have moved : rampAxis S T k K - S = roundQuotient ((T - S) * k) K := by simp [rampAxis]
  obtain ⟨near, half⟩ := roundQuotient_nearest ((T - S) * k) (show 0 < K by omega)
  exact ⟨by rwa [moved], by rwa [moved], rampAxis_between S T hk hK, rampAxis_end S T (by omega)⟩

/-- Settles O48: each side of the raw range has its own gain, of which the last count makes the whole side. -/
theorem scalingStaysInRange : Obligations.ScalingStaysInRange := fun lo mid hi n _ hl hh _ ⟨least, most⟩ => by
  obtain ⟨up, hup⟩ := Int.eq_ofNat_of_zero_le (sub_nonneg.2 hh)
  obtain ⟨down, hdown⟩ := Int.eq_ofNat_of_zero_le (sub_nonneg.2 hl)
  have pos : (gainsOf lo mid hi).pos = up * 65536 / 2047 := by simp [gainsOf, hup]
  have neg : (gainsOf lo mid hi).neg = down * 65536 / 2048 := by simp [gainsOf, hdown]
  have last : scale (gainsOf lo mid hi) mid 2047 = hi := by
    rw [scale_of_nonneg _ _ (by decide), pos, show (2047 : Int).natAbs = 2047 from rfl, scaled_end (by decide) (by decide)]
    omega
  have first : scale (gainsOf lo mid hi) mid (-2048) = lo := by
    rw [scale_of_neg _ _ (by decide), neg, show (-2048 : Int).natAbs = 2048 from rfl, scaled_end (by decide) (by decide)]
    omega
  have neutral : scale (gainsOf lo mid hi) mid 0 = mid := by simp [scale_of_nonneg]
  rcases le_or_gt 0 n with h | h
  · have within := scaled_le (range := up) (show n.natAbs ≤ 2047 by omega)
    refine ⟨?_, ?_, last, first, neutral⟩ <;> rw [scale_of_nonneg _ _ h, pos] <;> omega
  · have within := scaled_le (range := down) (show n.natAbs ≤ 2048 by omega)
    refine ⟨?_, ?_, last, first, neutral⟩ <;> rw [scale_of_neg _ _ h, neg] <;> omega

end Sys2Proof.Settled
end


section
/-! SUPPORT. What one write can leave in each table, and the laws of the holders, the stacks, the plans and the counts. -/

namespace Sys2Proof.Machine

variable {C : State → ChairId → Chair → Prop} {b : Bool} {s t : State}

/-! ### The tables after one write -/

theorem entry_reset {s : State} (h : s.entries = State.reset.entries) (i : Slot) : s.entry i = Entry.blank .empty := by
  rw [State.entry, h]
  exact Vector.getElem_replicate i.isLt

theorem setPort_entry (s : State) (p : Port) (r : PortRegs) (i : Slot) : (s.setPort p r).entry i = s.entry i := by
  cases p <;> rfl

/-- One write leaves an entry as it was, rewrites it, or empties it with the whole table. -/
theorem Micro.entry_cases (h : Micro C b s t) (j : Slot) :
    t.entry j = s.entry j ∨ Rewrite s j b (t.entry j) ∨ t.entry j = Entry.blank .empty := by
  cases h with
  | @entry _ _ i e h =>
    rcases eq_or_ne i j with rfl | hj
    · exact .inr (.inl (by rwa [State.entry_setEntry_self]))
    · exact .inl (State.entry_setEntry_of_ne _ _ hj)
  | @port _ _ p r => exact .inl (setPort_entry s p r j)
  | blanked h => exact .inr (.inr (entry_reset h.entries j))
  | _ => exact .inl rfl

/-- One write leaves a zone record as it was, or writes one within the bounds. -/
theorem Micro.zone_cases (h : Micro C b s t) (z : ZoneId) :
    t.zone z = s.zone z ∨ ((t.zone z).backoff ≤ (t.zone z).cap ∧ (t.zone z).cap ≤ 2047) := by
  cases h with
  | zone y h =>
    rcases eq_or_ne y z with rfl | hy
    · exact .inr (by rwa [State.zone_setZone_self])
    · exact .inl (State.zone_setZone_of_ne _ _ hy)
  | @port _ _ p r => exact .inl (by cases p <;> rfl)
  | blanked h =>
    rcases h.zones with zones | zones
    · have record : t.zone z = Zone.reset := by
        rw [State.zone, zones]
        exact Vector.getElem_replicate z.isLt
      exact .inr (by rw [record]; decide)
    · exact .inl (by rw [State.zone, zones]; rfl)
  | _ => exact .inl rfl

theorem Micro.policy_cases (h : Micro C b s t) :
    t.policy = s.policy ∨ (∃ f v, s.policy.write f v = some t.policy) ∨ t.policy = Policy.defaults := by
  cases h with
  | policy h => exact .inr (.inl ⟨_, _, h⟩)
  | @port _ _ p r => exact .inl (by cases p <;> rfl)
  | blanked h => exact h.policy.elim (fun d => .inr (.inr d)) .inl
  | _ => exact .inl rfl

theorem Micro.bindings_cases (h : Micro C b s t) :
    t.bindings = s.bindings ∨
      (∃ i u, u ≠ 0#32 ∧ s.slotOfUnit u = none ∧ t.bindings = (s.setBinding i { unit := some u, used := true }).bindings) ∨
      t.bindings = State.reset.bindings := by
  cases h with
  | bound i zero new => exact .inr (.inl ⟨i, _, zero, new, rfl⟩)
  | @port _ _ p r => exact .inl (by cases p <;> rfl)
  | blanked h => exact h.bindings.elim (fun d => .inr (.inr d)) .inl
  | _ => exact .inl rfl

/-! ### Holders and stacks (R2, R10) -/

section
variable {pol : Policy} {e f : Entry} {st : EntryState}

theorem Vacating.state (h : Vacating pol e st f) : f.state = st := by
  cases h <;> rfl

theorem Vacating.holder (h : Vacating pol e st f) : f.holder = none := by
  cases h <;> rfl

theorem Vacating.handover (h : Vacating pol e st f) : f.handover = e.handover ∨ f.handover = none := by
  cases h with
  | blank => exact .inr rfl
  | _ => exact .inl rfl

theorem Vacating.stack (h : Vacating pol e st f) : f.stack = e.stack ∨ f.stack = [] := by
  cases h with
  | kept | rundown => exact .inl rfl
  | emptied | blank => exact .inr rfl

end

theorem holderFits_of_vacant {e : Entry} (held : e.state ≠ .held) (auto : e.state ≠ .auto) (none : e.holder = none) :
    e.holderFits = true := by
  cases hs : e.state with
  | held => exact absurd hs held
  | auto => exact absurd hs auto
  | _ => simp [Entry.holderFits, hs, none]

theorem holderLaw_of_micro (h : Micro C b s t) (hs : s.HolderLaw) : t.HolderLaw := fun i => by
  rcases h.entry_cases i with same | written | blank
  · rw [same]
    exact hs i
  · generalize t.entry i = e at written
    cases written with
    | vacated held auto h =>
      exact holderFits_of_vacant (by rwa [h.state]) (by rwa [h.state]) h.holder
    | transferred r => exact entryAfter_holderFits r _ _
    | _ => exact hs i
  · rw [blank]
    rfl

/-- The bounds of a holder stack (R10). -/
abbrev StackFits (st : List Party) : Prop := st.length ≤ 4 ∧ stackFits st = true

theorem stackAfter_fits (h : Handover) {st : List Party} (hst : StackFits st) : StackFits (stackAfter h st) := by
  have pushed : StackFits (match h.source with
      | some p => pushStack p st
      | none => st) := by
    split
    · exact pushStack_fits _ st hst
    · exact hst
  unfold stackAfter
  split
  exacts [tail_fits st hst, pushed, pushed, pushed, pushed]

theorem stackLaw_of_micro (h : Micro C b s t) (hs : s.StackLaw) : t.StackLaw := fun i => by
  rcases h.entry_cases i with same | written | blank
  · rw [same]
    exact hs i
  · generalize t.entry i = e at written
    cases written with
    | vacated held auto h =>
      rcases h.stack with stack | stack <;> rw [stack]
      · exact hs i
      · decide
    | transferred r => exact stackAfter_fits r (hs i)
    | _ => exact hs i
  · rw [blank]
    decide

/-! ### The plans (R115, R130, R172) -/

theorem zonePlanLaw_of_micro (h : Micro C b s t) (hs : s.ZonePlanLaw) : t.ZonePlanLaw := fun z => by
  rcases h.zone_cases z with same | bounds
  · rw [same]
    exact hs z
  · exact bounds

theorem clampTo_bounds {lo hi : Nat} (h : lo ≤ hi) (n : Nat) : lo ≤ clampTo lo hi n ∧ clampTo lo hi n ≤ hi := by
  unfold clampTo
  omega

theorem gateOf_fits {g : GateIn} {r : Gate} (h : gateOf g = some r) : r.Fits := by
  unfold gateOf at h
  split at h
  · cases h
    simp [Gate.Fits, BitVec.and_assoc]
  · split at h
    · cases h
    · cases h
      simp [Gate.Fits, BitVec.and_assoc]

/-- The ranges of every policy field (R172). -/
abbrev Policy.Fits (p : Policy) : Prop :=
  (∀ f ∈ numFields, f.range.1 ≤ f.get p ∧ f.get p ≤ f.range.2) ∧ (∀ k ∈ handoverKinds, (p.gateFor k).Fits) ∧ p.writeCount ≤ 65535

theorem Policy.counted_fits {p : Policy} (h : p.Fits) {n : Nat} (hn : n ≤ 65535) : (p.counted n).Fits := by
  refine ⟨?_, ?_, ?_⟩
  · simpa using h.1
  · simpa using h.2.1
  · rw [Policy.writeCount_counted]
    split <;> omega

theorem Policy.put_fits {p : Policy} (h : p.Fits) (f : NumField) {v : Nat} (hv : f.range.1 ≤ v ∧ v ≤ f.range.2) : (f.put v p).Fits := by
  refine ⟨fun g hg => ?_, ?_, ?_⟩
  · rw [NumField.get_put]
    split
    next same => exact same ▸ hv
    next => exact h.1 g hg
  · simpa using h.2.1
  · have same : (f.put v p).writeCount = p.writeCount := by cases f <;> rfl
    exact same ▸ h.2.2

theorem Policy.putGate_fits {p : Policy} (h : p.Fits) (k : HandoverKind) {g : Gate} (hg : g.Fits) : (p.putGate g k).Fits := by
  refine ⟨?_, fun l hl => ?_, ?_⟩
  · simpa using h.1
  · rw [Policy.gateFor_putGate]
    split
    · exact hg
    · exact h.2.1 l hl
  · have same : (p.putGate g k).writeCount = p.writeCount := by cases k <;> rfl
    exact same ▸ h.2.2

theorem Policy.write_fits {p q : Policy} (h : p.Fits) {x : PolicyField} {v : PolicyValue} (hw : p.write x v = some q) : q.Fits := by
  cases v with
  | number n =>
    cases x with
    | number f =>
      rw [Policy.write_number, ← clampTo_eq_ite f.range_fst_le_snd] at hw
      cases hw
      exact Policy.counted_fits (Policy.put_fits h f (clampTo_bounds f.range_fst_le_snd _)) h.2.2
    | gate k | writeCount => simp [Policy.write] at hw
  | gate g =>
    cases x with
    | gate k =>
      rw [Policy.write_gate, Option.map_eq_some_iff] at hw
      obtain ⟨r, hr, rfl⟩ := hw
      exact Policy.counted_fits (Policy.putGate_fits h k (gateOf_fits hr)) h.2.2
    | number f | writeCount => simp [Policy.write] at hw

theorem policyLaw_of_micro (h : Micro C b s t) (hs : s.PolicyLaw) : t.PolicyLaw := by
  rcases h.policy_cases with same | ⟨f, v, written⟩ | defaults
  · simpa only [State.PolicyLaw, same] using hs
  · exact Policy.write_fits hs written
  · have fits : Policy.defaults.Fits := by decide
    simpa only [State.PolicyLaw, defaults] using fits

/-- The binding map's law of its table (R130). -/
theorem bindingLaw_of_bindings {s t : State} (h : t.bindings = s.bindings) (hs : s.BindingLaw) : t.BindingLaw := by
  have same (i : Slot) : t.binding i = s.binding i := by rw [State.binding, h]; rfl
  simpa only [State.BindingLaw, same] using hs

theorem slotOfUnit_eq_none_iff (s : State) (u : UnitNumber) : s.slotOfUnit u = none ↔ ∀ i, (s.binding i).unit ≠ some u := by
  simp [State.slotOfUnit, allSlots]

theorem setBinding_law {s : State} (hs : s.BindingLaw) (i : Slot) {u : UnitNumber} (zero : u ≠ 0#32) (new : s.slotOfUnit u = none) :
    (s.setBinding i { unit := some u, used := true }).BindingLaw := by
  have fresh := (slotOfUnit_eq_none_iff s u).1 new
  obtain ⟨once, each⟩ := hs
  refine ⟨fun j k bound same => ?_, fun j => ?_⟩
  · rw [State.binding_setBinding] at bound
    simp only [State.binding_setBinding] at same
    by_cases hj : i = j <;> by_cases hk : i = k
    · exact hj ▸ hk
    · rw [if_pos hj, if_neg hk] at same
      exact absurd same.symm (fresh k)
    · rw [if_neg hj, if_pos hk] at same
      exact absurd same (fresh j)
    · rw [if_neg hj, if_neg hk] at same
      rw [if_neg hj] at bound
      exact once j k bound same
  · rw [State.binding_setBinding]
    split
    · simp [zero]
    · exact each j

theorem bindingLaw_reset : State.reset.BindingLaw := by
  have free (i : Slot) : State.reset.binding i = Binding.reset := Vector.getElem_replicate i.isLt
  simp [State.BindingLaw, free, Binding.reset]

theorem bindingLaw_of_micro (h : Micro C b s t) (hs : s.BindingLaw) : t.BindingLaw := by
  rcases h.bindings_cases with same | ⟨i, u, zero, new, bound⟩ | reset
  · exact bindingLaw_of_bindings same hs
  · exact bindingLaw_of_bindings bound (setBinding_law hs i zero new)
  · exact bindingLaw_of_bindings reset bindingLaw_reset

end Sys2Proof.Machine

namespace Sys2Proof.Settled

open Sys2Proof.Machine

/-- Settles O54: the states, holders and stacks that one write of an entry can leave. -/
theorem stepsKeepHoldersAndStacks : Obligations.StepsKeepHoldersAndStacks :=
  ⟨fun _ _ => step_keeps_of_micro (P := State.HolderLaw) holderLaw_of_micro fun _ _ hs => hs,
    fun _ _ => step_keeps_of_micro (P := State.StackLaw) stackLaw_of_micro fun _ _ hs => hs⟩

/-- Settles O55: each plan at the one write that touches it. -/
theorem stepsKeepThePlans : Obligations.StepsKeepThePlans := fun _ _ h zones policy bindings =>
  ⟨step_keeps_of_micro (P := State.ZonePlanLaw) zonePlanLaw_of_micro (fun _ _ hs => hs) h zones,
    step_keeps_of_micro (P := State.PolicyLaw) policyLaw_of_micro (fun _ _ hs => hs) h policy,
    step_keeps_of_micro (P := State.BindingLaw) bindingLaw_of_micro (fun _ _ hs => hs) h bindings⟩

end Sys2Proof.Settled
end


section
/-! SUPPORT. The law of the counts: what a frame makes of axes in range, and the samples and ramp records that one write leaves (R1, R74,
R103 to R105). -/

namespace Sys2Proof.Machine

variable {b : Bool} {s t : State}

/-! ### The axes of a frame -/

theorem neutral_inCounts : Axes.neutral.InCounts := by decide

theorem rampAxis_isCounts {S T : Int} (hS : IsCounts S) (hT : IsCounts T) {k K : Nat} (hk : 1 ≤ k) (hK : k ≤ K) :
    IsCounts (rampAxis S T k K) := by
  have between := rampAxis_between S T hk hK
  unfold IsCounts at *
  omega

theorem Ramp.output_inCounts {r : Ramp} (hr : r.Fits) {target : Axes} (ht : target.InCounts) : (r.output target).InCounts := by
  obtain ⟨⟨steer, travel, boom, bucket⟩, hk, hK, -⟩ := hr
  obtain ⟨steer', travel', boom', bucket'⟩ := ht
  exact ⟨rampAxis_isCounts steer steer' hk hK, rampAxis_isCounts travel travel' hk hK, rampAxis_isCounts boom boom' hk hK,
    rampAxis_isCounts bucket bucket' hk hK⟩

theorem Ramp.advance_fits {r q : Ramp} (hr : r.Fits) (h : r.advance = some q) : q.Fits := by
  obtain ⟨start, low, high, length⟩ := hr
  unfold Ramp.advance at h
  split at h
  · cases h
    refine ⟨start, ?_, ?_, length⟩ <;> dsimp only <;> omega
  · cases h

theorem startRamp_fits (purpose : RampPurpose) {start : Axes} (hs : start.InCounts) {n : Nat} (hn : 1 ≤ n ∧ n ≤ 32) :
    (startRamp purpose start n).Fits := ⟨hs, le_refl 1, hn.1, hn.2⟩

/-- The axes of a frame, but for the TRAVEL that the cap stage bounds. -/
abbrev Axes.InCountsButTravel (a : Axes) : Prop := IsCounts a.steer ∧ IsCounts a.boom ∧ IsCounts a.bucket

theorem Axes.InCounts.butTravel {a : Axes} (h : a.InCounts) : a.InCountsButTravel := ⟨h.1, h.2.2⟩

/-- A frame in HELD, FREE or a state of HOLD takes its axes from samples and ramps in range; only TRAVEL may be a zone's cap. -/
theorem frameSource_inCounts {i : Slot} {src : FrameSource} (hs : s.CountsLaw) (h : frameSource i s = some src) :
    src.axes.InCountsButTravel := by
  have ramps := (hs.2 i).2
  have held : ∀ {src}, some (holdSource (s.entry i)) = some src → src.axes.InCountsButTravel := by
    rintro _ ⟨⟩
    exact neutral_inCounts.butTravel
  have driven : ∀ {c src}, some (driveSource (s.chair c).sample (s.entry i).ramp) = some src → src.axes.InCountsButTravel := by
    rintro c _ ⟨⟩
    cases hr : (s.entry i).ramp with
    | none => exact (hs.1 c).butTravel
    | some r => exact (Ramp.output_inCounts (ramps r hr) (hs.1 c)).butTravel
  unfold frameSource at h
  dsimp only at h
  split at h
  case h_1 | h_2 | h_3 => cases h
  case h_4 =>
    split at h
    next r hr =>
      cases h
      exact (Ramp.output_inCounts (ramps r hr) neutral_inCounts).butTravel
    next => exact held h
  case h_5 =>
    cases h
    exact neutral_inCounts.butTravel
  case h_6 =>
    split at h
    · split at h
      · exact driven h
      · exact held h
    · exact held h
  case h_7 | h_8 | h_9 => exact held h

theorem loaderZone_cap (hs : s.ZonePlanLaw) (i : Slot) : (s.loaderZone i).cap ≤ 2047 := by
  unfold State.loaderZone
  split
  · exact (hs _).2
  · exact Nat.zero_le _

theorem cappedAxes_inCounts {z : Zone} (hz : z.cap ≤ 2047) {a : Axes} (ha : a.InCountsButTravel) : (cappedAxes z a).InCounts := by
  have within := capTravel_le z a.travel
  refine ⟨ha.1, ?_, ha.2⟩
  unfold IsCounts cappedAxes
  dsimp only
  omega

/-! ### The samples and ramps that one write leaves -/

theorem Micro.sample_cases (h : Micro ChairWrite b s t) (c : ChairId) :
    (t.chair c).sample = (s.chair c).sample ∨ (t.chair c).sample.axes.InCounts := by
  have written (d : ChairId) {x : Chair} (hx : x.sample = (s.chair d).sample ∨ x.sample.axes.InCounts) :
      ((s.setChair d x).chair c).sample = (s.chair c).sample ∨ ((s.setChair d x).chair c).sample.axes.InCounts := by
    rcases eq_or_ne d c with rfl | hd
    · rwa [State.chair_setChair_self]
    · exact .inl (by rw [State.chair_setChair_of_ne _ _ hd])
  cases h with
  | @port _ _ p r =>
    cases p with
    | chair d => exact written d (.inl rfl)
    | service => exact .inl rfl
  | settled d => exact written d (.inl rfl)
  | placed d => exact written d (.inl rfl)
  | @online _ _ d => exact written d (.inl rfl)
  | gone d => exact written d (.inr neutral_inCounts)
  | @chair _ _ d x h =>
    refine written d ?_
    cases h with
    | sampled h => exact .inr h
    | timed _ _ sample => exact .inl sample
    | switched => exact .inl rfl
  | blanked h =>
    obtain ⟨bytes, hc⟩ := h.chairs c
    exact .inr (by rw [hc]; exact neutral_inCounts)
  | _ => exact .inl rfl

/-- The applied values and the ramp record of an entry in their ranges (R1, R107). -/
abbrev Entry.CountsFit (e : Entry) : Prop := e.applied.InCounts ∧ ∀ r ∈ e.ramp, r.Fits

theorem Vacating.countsFit {pol : Policy} {e f : Entry} {st : EntryState} (h : Vacating pol e st f) (hp : pol.Fits) (he : e.CountsFit) :
    f.CountsFit := by
  cases h with
  | kept | emptied => exact ⟨he.1, by simp [Entry.vacate]⟩
  | rundown =>
    refine ⟨he.1, ?_⟩
    rintro r ⟨⟩
    exact startRamp_fits _ he.1 (hp.1 .rundownRamp (by decide))
  | blank => exact ⟨neutral_inCounts, by simp [Entry.blank]⟩

theorem rampAfter_fits (h : Handover) {applied : Axes} (ha : applied.InCounts) {pol : Policy} (hp : pol.Fits) :
    ∀ r ∈ rampAfter h applied pol, r.Fits := by
  intro r hr
  unfold rampAfter at hr
  split at hr <;> cases hr
  case h_2 | h_3 => exact startRamp_fits _ neutral_inCounts (hp.1 .engageRamp (by decide))
  all_goals exact startRamp_fits _ ha (hp.1 .passRamp (by decide))

theorem Rewrite.countsFit {i : Slot} {e : Entry} (h : Rewrite s i b e) (hz : s.ZonePlanLaw) (hp : s.PolicyLaw) (hs : s.CountsLaw) :
    e.CountsFit := by
  obtain ⟨applied, ramps⟩ := hs.2 i
  cases h with
  | status | flag | record => exact ⟨applied, ramps⟩
  | ramp h =>
    refine ⟨applied, fun r hr => ?_⟩
    rcases h with rfl | rfl <;> cases hr
    exact startRamp_fits _ neutral_inCounts (hp.1 .engageRamp (by decide))
  | built h =>
    refine ⟨cappedAxes_inCounts (loaderZone_cap hz i) (frameSource_inCounts hs h), fun r hr => ?_⟩
    dsimp only at hr
    split at hr
    · obtain ⟨q, hq, advanced⟩ := Option.bind_eq_some_iff.1 hr
      exact Ramp.advance_fits (ramps q hq) advanced
    · exact ramps r hr
  | vacated _ _ h => exact h.countsFit hp ⟨applied, ramps⟩
  | transferred h => exact ⟨applied, rampAfter_fits h applied hp⟩

theorem countsLaw_of_micro (h : Micro ChairWrite b s t) (hz : s.ZonePlanLaw) (hp : s.PolicyLaw) (hs : s.CountsLaw) : t.CountsLaw := by
  refine ⟨fun c => ?_, fun i => ?_⟩
  · rcases h.sample_cases c with same | counts
    · rw [same]
      exact hs.1 c
    · exact counts
  · rcases h.entry_cases i with same | written | blank
    · rw [same]
      exact hs.2 i
    · exact written.countsFit hz hp hs
    · rw [blank]
      exact ⟨neutral_inCounts, by simp [Entry.blank]⟩

end Sys2Proof.Machine

namespace Sys2Proof.Settled

open Sys2Proof.Machine

/-- Settles O59: with the plans in range, each write of a sample, a frame or a ramp record stays in range. -/
theorem stepsKeepTheCounts : Obligations.StepsKeepTheCounts := fun _ _ h zones policy counts =>
  (step_keeps_of_micro (P := fun s => s.ZonePlanLaw ∧ s.PolicyLaw ∧ s.CountsLaw)
    (fun hm hs => ⟨zonePlanLaw_of_micro hm hs.1, policyLaw_of_micro hm hs.2.1, countsLaw_of_micro hm hs.1 hs.2.1 hs.2.2⟩)
    (fun _ _ hs => hs) h ⟨zones, policy, counts⟩).2.2

end Sys2Proof.Settled
end


section
/-! SUPPORT. The transmit queues: where a frame is placed, and what each write of a queue keeps of the bounds of R88, R152, R188 and R189. -/

namespace Sys2Proof.Machine

/-! ### The fleet transmit queue (R152) -/

/-- What a placement makes of the fleet queue, `of` telling the frames whose place the new one takes. -/
inductive Placed (of : FleetFrame → Bool) (f : FleetFrame) (q : List FleetFrame) : List FleetFrame → Prop where
  | behind (none : ∀ g ∈ q, of g = false) : Placed of f q (q ++ [f])
  | replaces {ahead : List FleetFrame} {g : FleetFrame} {rest : List FleetFrame} (split : q = ahead ++ g :: rest) (hg : of g = true) :
      Placed of f q (ahead ++ f :: rest)
  | kept : Placed of f q q

theorem placed_of_append {of : FleetFrame → Bool} {f : FleetFrame} {place : List FleetFrame → List FleetFrame} (empty : place [] = [f])
    (append : ∀ ahead rest, (∀ k ∈ ahead, of k = false) → place (ahead ++ rest) = ahead ++ place rest)
    (cons : ∀ g rest, of g = true → place (g :: rest) = f :: rest ∨ place (g :: rest) = g :: rest) (q : List FleetFrame) :
    Placed of f q (place q) := by
  cases hq : q.find? of with
  | none =>
    have none : ∀ g ∈ q, of g = false := by simpa using hq
    have placed := append q [] none
    rw [List.append_nil, empty] at placed
    exact placed ▸ .behind none
  | some g =>
    obtain ⟨hg, ahead, rest, rfl, before⟩ := List.find?_eq_some_iff_append.1 hq
    rw [append ahead _ (by simpa using before)]
    rcases cons g rest hg with placed | kept
    · exact placed ▸ .replaces rfl hg
    · rw [kept]
      exact .kept

theorem placeCommand_placed (f : FleetFrame) (q : List FleetFrame) : Placed (·.isCommandOf f.slot) f q (placeCommand f q) := by
  refine placed_of_append (place := placeCommand f) rfl (fun ahead rest h => placeCommand_append f ahead rest h) (fun g rest hg => ?_) q
  cases hr : g.isRestart <;> simp [placeCommand, hg, hr]

theorem placeRestart_placed (f : FleetFrame) (q : List FleetFrame) : Placed (·.isCommandOf f.slot) f q (placeRestart f q) :=
  placed_of_append (place := placeRestart f) rfl (fun ahead rest h => placeRestart_append f ahead rest h)
    (fun g rest hg => .inl (by simp [placeRestart, hg])) q

theorem placeRead_placed (f : FleetFrame) (q : List FleetFrame) : Placed (·.isReadOf f.slot) f q (placeRead f q) :=
  placed_of_append (place := placeRead f) rfl (fun ahead rest h => placeRead_append f ahead rest h)
    (fun g rest hg => .inl (by simp [placeRead, hg])) q

/-- A placement keeps at most one frame of a class, if the frame placed takes the place of those of its own. -/
theorem Placed.countP_le {of p : FleetFrame → Bool} {f : FleetFrame} {q r : List FleetFrame} (h : Placed of f q r)
    (own : p f = true → ∀ g, p g = of g) (hq : q.countP p ≤ 1) : r.countP p ≤ 1 := by
  cases hf : p f with
  | true =>
    cases h with
    | behind none =>
      have zero : q.countP p = 0 := List.countP_eq_zero.2 fun g hg => by simp [own hf g, none g hg]
      simp [zero, hf]
    | replaces split hg =>
      subst split
      simpa [own hf _, hg, own hf f ▸ hf] using hq
    | kept => exact hq
  | false =>
    cases h with
    | behind none => simpa [hf] using hq
    | replaces split hg =>
      subst split
      simp only [List.countP_append, List.countP_cons, hf, Bool.false_eq_true, if_false] at hq ⊢
      omega
    | kept => exact hq

/-- The bound of one slot in the fleet queue (R152). -/
abbrev OneOfEach (i : Slot) (q : List FleetFrame) : Prop := q.countP (·.isCommandOf i) ≤ 1 ∧ q.countP (·.isReadOf i) ≤ 1

theorem Placed.oneOfEach_command {i j : Slot} {u : UnitNumber} {m : Mode} {payload : List Byte} {q r : List FleetFrame}
    (h : Placed (·.isCommandOf j) (.command j u m payload) q r) (hq : OneOfEach i q) : OneOfEach i r := by
  refine ⟨h.countP_le (fun hf g => ?_) hq.1, h.countP_le (fun hf => by cases hf) hq.2⟩
  have same : j = i := by simpa [FleetFrame.isCommandOf] using hf
  rw [same]

theorem Placed.oneOfEach_read {i j : Slot} {u : UnitNumber} {d : Read} {q r : List FleetFrame}
    (h : Placed (·.isReadOf j) (.read j u d) q r) (hq : OneOfEach i q) : OneOfEach i r := by
  refine ⟨h.countP_le (fun hf => by cases hf) hq.1, h.countP_le (fun hf g => ?_) hq.2⟩
  have same : j = i := by simpa [FleetFrame.isReadOf] using hf
  rw [same]

theorem QueueWrite.oneOfEach {q r : List FleetFrame} (h : QueueWrite q r) {i : Slot} (hq : OneOfEach i q) : OneOfEach i r := by
  cases h with
  | command j u m payload => exact (placeCommand_placed (.command j u m payload) q).oneOfEach_command hq
  | restart j u => exact (placeRestart_placed (.command j u .restart []) q).oneOfEach_command hq
  | read j u d => exact (placeRead_placed (.read j u d) q).oneOfEach_read hq
  | fewer h => exact ⟨(h.countP_le).trans hq.1, (h.countP_le).trans hq.2⟩

variable {C : State → ChairId → Chair → Prop} {b : Bool} {s t : State}

theorem Micro.fleetQueue_cases (h : Micro C b s t) :
    t.fleetQueue = s.fleetQueue ∨ QueueWrite s.fleetQueue t.fleetQueue ∨ t.fleetQueue = [] := by
  cases h with
  | fleetQueue h => exact .inr (.inl h)
  | @port _ _ p r => exact .inl (by cases p <;> rfl)
  | blanked h => exact .inr (.inr h.fleetQueue)
  | _ => exact .inl rfl

theorem fleetQueueLaw_of_micro (h : Micro C b s t) (hs : s.FleetQueueLaw) : t.FleetQueueLaw := fun i => by
  rcases h.fleetQueue_cases with same | written | empty
  · rw [same]
    exact hs i
  · exact written.oneOfEach (hs i)
  · simp [empty]

/-- The slot and the class of a fleet frame. -/
def FleetFrame.place (f : FleetFrame) : Slot × Bool := (f.slot, f.isCommandOf f.slot)

theorem place_eq_iff (f : FleetFrame) (i : Slot) (c : Bool) :
    f.place = (i, c) ↔ (if c then f.isCommandOf i else f.isReadOf i) = true := by
  cases f <;> cases c <;> simp [FleetFrame.place, FleetFrame.slot, FleetFrame.isCommandOf, FleetFrame.isReadOf]

theorem fleetQueue_length_le (hs : s.FleetQueueLaw) : s.fleetQueue.length ≤ 32 := by
  have once : (s.fleetQueue.map FleetFrame.place).Nodup := by
    refine List.nodup_iff_count_le_one.2 fun ⟨i, c⟩ => ?_
    rw [List.count_eq_countP, List.countP_map]
    have same : ((· == (i, c)) ∘ FleetFrame.place) = fun f => if c then f.isCommandOf i else f.isReadOf i := by
      funext f
      rw [Bool.eq_iff_iff, ← place_eq_iff]
      exact beq_iff_eq
    rw [same]
    cases c
    · exact (hs i).2
    · exact (hs i).1
  simpa using once.length_le_card

/-! ### The transmit queues of the consoles (R189) -/

theorem reports_eq_not_isStatus (f : PortFrame) : f.reports = !f.isStatus := by
  cases f <;> rfl

theorem waitingAnswers_eq_reports (q : List PortFrame) : q.countP (fun g => g.reports) = waitingAnswers q := by
  simp only [reports_eq_not_isStatus]
  rfl

/-- A STATUS frame passes over the answers and notices ahead. -/
theorem placeStatus_append (f : StatusFrame) (ahead rest : List PortFrame) (h : ∀ g ∈ ahead, g.reports = true) :
    placeStatus f (ahead ++ rest) = ahead ++ placeStatus f rest := by
  induction ahead with
  | nil => rfl
  | cons g ahead ih =>
    have passed := ih fun k hk => h k (by simp [hk])
    cases g with
    | status w => exact absurd (h (.status w) (by simp)) (by simp [PortFrame.reports])
    | answer a | notice n => simp [placeStatus, passed]

/-- The bounds of a port's registers (R88, R188, R189). -/
abbrev PortRegs.Fits (on service : Bool) (r : PortRegs) : Prop :=
  r.badRun ≤ 3 ∧ r.errors ≤ 255 ∧ waitingAnswers r.queue ≤ 15 ∧ r.queue.countP (·.isStatus) ≤ (if service then 0 else 1) ∧
    (on = false → r.queue = [])

theorem portFits_iff (s : State) (p : Port) : s.PortFits p ↔ (s.port p).Fits (s.online p) (p == .service) := by
  simp [PortRegs.Fits]

theorem errors_raise_le {r : PortRegs} (h : r.errors ≤ 255) (f : Sticky) : (r.raise f).errors ≤ 255 := by
  unfold PortRegs.raise
  dsimp only
  split <;> omega

theorem errors_enqueue_le {r : PortRegs} (h : r.errors ≤ 255) (f : PortFrame) : (r.enqueue f).errors ≤ 255 := by
  cases hf : f.isStatus with
  | true =>
    cases f with
    | status st => exact h
    | answer a | notice n => cases hf
  | false =>
    rw [enqueue_answerOrNotice f r hf]
    split
    · exact h
    · exact errors_raise_le h _

theorem countP_isStatus_enqueue {r : PortRegs} (f : PortFrame) (h : r.queue.countP (·.isStatus) ≤ 1) :
    (r.enqueue f).queue.countP (·.isStatus) ≤ if f.isStatus then 1 else r.queue.countP (·.isStatus) := by
  cases hf : f.isStatus with
  | true =>
    cases f with
    | status st => simp [PortRegs.enqueue, countP_placeStatus, h]
    | answer a | notice n => cases hf
  | false =>
    rw [enqueue_answerOrNotice f r hf]
    split
    · simp [List.countP_append, hf]
    · simp [PortRegs.raise]

theorem PortRegs.Fits.enqueue {service : Bool} {r : PortRegs} (h : r.Fits true service) {f : PortFrame}
    (kind : service = true → f.isStatus = false) : (r.enqueue f).Fits true service := by
  obtain ⟨run, errors, waiting, status, -⟩ := h
  have placed := countP_isStatus_enqueue f (r := r) (status.trans (by split <;> omega))
  refine ⟨(enqueue_frame f r).2.1.trans_le run, errors_enqueue_le errors f, waitingAnswers_enqueue_le f r waiting, ?_, by simp⟩
  cases service with
  | true =>
    simp only [kind rfl, Bool.false_eq_true, if_false] at placed
    exact placed.trans status
  | false =>
    refine placed.trans ?_
    split
    · exact le_rfl
    · exact status

theorem PortWrite.fits {on service : Bool} {r q : PortRegs} (h : PortWrite on service r q) (hr : r.Fits on service) : q.Fits on service := by
  obtain ⟨run, errors, waiting, status, off⟩ := hr
  cases h with
  | raised f => exact ⟨run, errors_raise_le errors f, waiting, status, off⟩
  | queued online kind =>
    subst online
    exact PortRegs.Fits.enqueue ⟨run, errors, waiting, status, off⟩ kind
  | answered | occupied => exact ⟨run, errors, waiting, status, off⟩
  | heard => exact ⟨Nat.zero_le _, errors, waiting, status, off⟩
  | ran online few => exact ⟨Nat.le_of_lt_succ few, errors, waiting, status, off⟩
  | acknowledged flags clearCount =>
    refine ⟨run, ?_, waiting, status, off⟩
    unfold PortRegs.acknowledge
    dsimp only
    split
    · exact Nat.zero_le _
    · exact errors
  | @departed f rest h bytes =>
    refine ⟨run, errors, ?_, ?_, fun offline => ?_⟩
    · rw [h] at waiting
      exact ((List.sublist_cons_self f rest).countP_le).trans waiting
    · rw [h] at status
      exact ((List.sublist_cons_self f rest).countP_le).trans status
    · simp [h] at off
      exact absurd offline (by simp [off])
  | wiped => exact ⟨run, errors, Nat.zero_le _, Nat.zero_le _, fun _ => rfl⟩

/-- A port that comes online keeps its bounds. -/
theorem PortRegs.Fits.online {on service : Bool} {r : PortRegs} (h : r.Fits on service) : r.Fits true service :=
  ⟨h.1, h.2.1, h.2.2.1, h.2.2.2.1, by simp⟩

/-- A port whose link goes down keeps its error count alone. -/
theorem cutOff_fits {on service : Bool} {r : PortRegs} (h : r.Fits on service) (silence : Option Nat) (outstanding : Option Outstanding) :
    ({ r with silence := silence, badRun := 0, outstanding := outstanding, queue := [] } : PortRegs).Fits false service :=
  ⟨Nat.zero_le _, h.2.1, Nat.zero_le _, Nat.zero_le _, fun _ => rfl⟩

theorem reset_fits (on service : Bool) (silence : Option Nat) (bytes : List Byte) :
    ({ PortRegs.reset with silence := silence, sending := bytes } : PortRegs).Fits on service :=
  ⟨Nat.zero_le _, Nat.zero_le _, Nat.zero_le _, Nat.zero_le _, fun _ => rfl⟩

/-- The bounds of a chair's port. -/
abbrev Chair.PortFits (x : Chair) : Prop := x.port.Fits (x.state != .offline) false

theorem portFits_chair_iff (s : State) (c : ChairId) : s.PortFits (.chair c) ↔ (s.chair c).PortFits := by
  rw [portFits_iff]
  rfl

theorem Chair.portFits_of_online {x y : Chair} (h : x.PortFits) (port : y.port = x.port) (up : y.state ≠ .offline) : y.PortFits := by
  have on : (y.state != .offline) = true := by simpa using up
  rw [Chair.PortFits, port, on]
  exact PortRegs.Fits.online h

theorem Micro.portFits_chair (h : Micro ChairWrite b s t) (c : ChairId) (hs : ∀ d, (s.chair d).PortFits) : (t.chair c).PortFits := by
  have written (d : ChairId) {x : Chair} (hx : x.PortFits) : ((s.setChair d x).chair c).PortFits := by
    rcases eq_or_ne d c with rfl | hd
    · rwa [State.chair_setChair_self]
    · rw [State.chair_setChair_of_ne _ _ hd]
      exact hs c
  cases h with
  | @port _ _ p r h =>
    cases p with
    | chair d => exact written d (h.fits (hs d))
    | service => exact hs c
  | settled d =>
    refine written d (Chair.portFits_of_online (hs d) rfl ?_)
    unfold Chair.settled
    dsimp only
    split <;> simp
  | placed d h =>
    refine written d (Chair.portFits_of_online (hs d) rfl ?_)
    rcases h with rfl | rfl | rfl <;> simp
  | @online _ _ d => exact written d (Chair.portFits_of_online (hs d) rfl (by simp))
  | gone d => exact written d (cutOff_fits (hs d) none none)
  | @chair _ _ d x h =>
    refine written d ?_
    cases h with
    | sampled => exact hs d
    | timed state port =>
      rw [Chair.PortFits, state, port]
      exact hs d
    | switched before after =>
      refine Chair.portFits_of_online (hs d) rfl ?_
      rcases after with rfl | rfl <;> simp
  | blanked h =>
    obtain ⟨bytes, hc⟩ := h.chairs c
    rw [hc]
    exact reset_fits _ _ none bytes
  | _ => exact hs c

theorem Micro.portFits_service (h : Micro C b s t) (hs : s.service.port.Fits s.service.online true) :
    t.service.port.Fits t.service.online true := by
  cases h with
  | @port _ _ p r h =>
    cases p with
    | chair d => exact hs
    | service => exact h.fits hs
  | serviceOn => exact PortRegs.Fits.online hs
  | serviceOff => exact cutOff_fits hs none none
  | blanked h =>
    obtain ⟨silence, bytes, hp⟩ := h.service
    rw [hp]
    exact reset_fits _ _ silence bytes
  | _ => exact hs

theorem portLaw_iff (s : State) :
    s.PortLaw ↔ (∀ c, (s.chair c).PortFits) ∧ s.service.port.Fits s.service.online true := by
  have service : s.PortFits .service ↔ s.service.port.Fits s.service.online true := by
    rw [portFits_iff]
    rfl
  simp only [State.PortLaw, portFits_chair_iff, service]

theorem portLaw_of_micro (h : Micro ChairWrite b s t) (hs : s.PortLaw) : t.PortLaw := by
  obtain ⟨chairs, service⟩ := (portLaw_iff s).1 hs
  exact (portLaw_iff t).2 ⟨fun c => h.portFits_chair c chairs, h.portFits_service service⟩

end Sys2Proof.Machine

namespace Sys2Proof.Settled

open Sys2Proof.Machine

/-- Settles O57: the queue is read at the place a frame takes, and each write of a port keeps its bounds. -/
theorem stepsKeepThePorts : Obligations.StepsKeepThePorts := by
  refine ⟨fun s p f => ⟨fun off => ?_, fun on => ?_⟩, fun r f reports => ⟨fun room => ?_, fun full => ?_⟩,
    fun r f => ⟨fun none => ?_, fun ahead behind w split before => ?_⟩,
    fun _ _ => step_keeps_of_micro (P := State.PortLaw) portLaw_of_micro fun _ _ hs => hs⟩
  · simp [State.send, off]
  · simp [State.send, on, State.modPort]
  · rw [waitingAnswers_eq_reports] at room
    rw [enqueue_answerOrNotice f r (by simpa [reports_eq_not_isStatus] using reports), if_pos room]
  · rw [waitingAnswers_eq_reports] at full
    rw [enqueue_answerOrNotice f r (by simpa [reports_eq_not_isStatus] using reports), if_neg (not_lt.2 full)]
    rfl
  · have placed := placeStatus_append f r.queue [] none
    rw [List.append_nil] at placed
    simp [PortRegs.enqueue, placed, placeStatus]
  · simp [PortRegs.enqueue, split, placeStatus_append f ahead _ before, placeStatus]

/-- Settles O58: a placement is read at the frame whose place it takes. -/
theorem stepsKeepTheFleetQueue : Obligations.StepsKeepTheFleetQueue := by
  refine ⟨fun f q => ⟨fun none => ?_, fun none => ?_, fun ahead behind g split => ⟨fun before hg => ?_, fun before hg => ?_⟩⟩,
    fun _ _ => step_keeps_of_micro (P := State.FleetQueueLaw) fleetQueueLaw_of_micro fun _ _ hs => hs, fun _ => fleetQueue_length_le⟩
  · have command := placeCommand_append f q [] none
    have restart := placeRestart_append f q [] none
    rw [List.append_nil] at command restart
    exact ⟨command, restart⟩
  · have read := placeRead_append f q [] none
    rwa [List.append_nil] at read
  · rw [split, placeRestart_append f ahead _ before, placeCommand_append f ahead _ before]
    refine ⟨by simp [placeRestart, hg], fun plain => ?_, fun restart => ?_⟩
    · simp [placeCommand, hg, plain]
    · simp [placeCommand, hg, restart]
  · rw [split, placeRead_append f ahead _ before]
    simp [placeRead, hg]

end Sys2Proof.Settled
end


section
/-! SUPPORT. What the moves leave of the laws of the authority table, slot by slot. -/

namespace Sys2Proof.Machine

/-! ### Writes that leave authority as it is -/

/-- A chair state that tells of no entry held and no record that targets the chair. -/
def ChairState.loose : ChairState → Bool
  | .offline | .idle | .ready => true
  | _ => false

/-- Between `s` and `t` every loader keeps its authority: its entry's state, holder and record, its call and the stage of its discovery, and
every chair its state, but that a chair that holds nothing and is no target may go among OFFLINE, IDLE and READY. -/
structure Still (s t : State) : Prop where
  state : ∀ i, (t.entry i).state = (s.entry i).state
  holder : ∀ i, (t.entry i).holder = (s.entry i).holder
  handover : ∀ i, (t.entry i).handover = (s.entry i).handover
  calls : t.calls.map Call.mark = s.calls.map Call.mark
  chair : ∀ c, (t.chair c).state = (s.chair c).state ∨ ((s.chair c).state.loose = true ∧ (t.chair c).state.loose = true)
  context : ∀ i, (s.context i).Idle → (t.context i).Idle
  forget : ∀ i, (s.fleetSlot i).forget = none → (t.fleetSlot i).forget = none

theorem Still.refl (s : State) : Still s s :=
  ⟨fun _ => rfl, fun _ => rfl, fun _ => rfl, rfl, fun _ => .inl rfl, fun _ => id, fun _ => id⟩

theorem Still.trans {s t u : State} (h : Still s t) (k : Still t u) : Still s u where
  state i := (k.state i).trans (h.state i)
  holder i := (k.holder i).trans (h.holder i)
  handover i := (k.handover i).trans (h.handover i)
  calls := k.calls.trans h.calls
  chair c := by
    rcases h.chair c with same | ⟨before, after⟩
    · rw [← same]
      exact k.chair c
    · rcases k.chair c with same | ⟨-, last⟩
      · exact .inr ⟨before, same ▸ after⟩
      · exact .inr ⟨before, last⟩
  context i := k.context i ∘ h.context i
  forget i := k.forget i ∘ h.forget i

/-- A write of a chair that keeps its state, or goes among the states of a chair that holds nothing. -/
theorem Still.setChair (s : State) (c : ChairId) {x : Chair}
    (h : x.state = (s.chair c).state ∨ ((s.chair c).state.loose = true ∧ x.state.loose = true)) : Still s (s.setChair c x) :=
  { Still.refl s with
    chair := fun d => by
      rcases eq_or_ne c d with rfl | hd
      · rwa [State.chair_setChair_self]
      · exact .inl (by rw [State.chair_setChair_of_ne _ _ hd]) }

theorem Still.setEntry (s : State) (i : Slot) {e : Entry} (state : e.state = (s.entry i).state) (holder : e.holder = (s.entry i).holder)
    (handover : e.handover = (s.entry i).handover) : Still s (s.setEntry i e) :=
  { Still.refl s with
    state := fun j => by rw [State.entry_setEntry]; split <;> simp_all
    holder := fun j => by rw [State.entry_setEntry]; split <;> simp_all
    handover := fun j => by rw [State.entry_setEntry]; split <;> simp_all }

theorem Micro.still {s t : State} (h : Micro ChairWrite true s t) : Still s t := by
  cases h with
  | entry h =>
    refine Still.setEntry s _ ?_ ?_ ?_ <;> cases h <;> rfl
  | @port _ _ p r =>
    cases p with
    | chair c => exact Still.setChair s c (.inl rfl)
    | service => exact { Still.refl s with }
  | online h => exact Still.setChair s _ (.inr ⟨by rw [h]; rfl, rfl⟩)
  | chair h =>
    cases h with
    | sampled => exact Still.setChair s _ (.inl rfl)
    | timed state => exact Still.setChair s _ (.inl state)
    | switched before after =>
      exact Still.setChair s _ (.inr ⟨by rcases before with h | h <;> rw [h] <;> rfl, by rcases after with rfl | rfl <;> rfl⟩)
  | marked h => exact { Still.refl s with calls := h }
  | @context _ _ i x h =>
    refine { Still.refl s with context := fun j idle => ?_ }
    rcases eq_or_ne i j with rfl | hj
    · rw [State.context_setContext_self]
      exact h rfl idle.1 idle.2.1 idle.2.2
    · rwa [State.context_setContext_of_ne _ _ hj]
  | @fleet _ _ i x h =>
    refine { Still.refl s with forget := fun j none => ?_ }
    rcases eq_or_ne i j with rfl | hj
    · rw [State.fleetSlot_setFleetSlot_self]
      exact h rfl none
    · rwa [State.fleetSlot_setFleetSlot_of_ne _ _ hj]
  | _ => exact { Still.refl s with }

theorem Micros.still {s t : State} (h : Micros ChairWrite true s t) : Still s t := by
  induction h with
  | refl => exact .refl s
  | tail _ h ih => exact ih.trans h.still

theorem Still.callers {s t : State} (h : Still s t) : t.callers = s.callers := by
  have slots (q : List Call) : q.map (·.slot) = (q.map Call.mark).map Prod.fst := by
    rw [List.map_map]
    rfl
  rw [State.callers, State.callers, slots, slots, h.calls]

theorem Still.slotFits {s t : State} (h : Still s t) {i : Slot} (hs : s.SlotFits i) : t.SlotFits i where
  holder := by
    unfold Entry.holderFits
    rw [h.state, h.holder]
    exact hs.holder
  record hr := by
    rw [h.handover] at hr
    rw [h.state]
    exact hs.record hr
  caller hc := (h.state i).trans (hs.caller (h.callers ▸ hc))
  idle hd := h.context i (hs.idle (h.state i ▸ hd))
  forget hl := h.forget i (hs.forget (h.state i ▸ hl))

/-! ### The laws of the authority table under the moves -/

section
variable {s : State} {i j : Slot}

theorem Vacating.vacated {pol : Policy} {e f : Entry} {st : EntryState} (h : Vacating pol e st f) (none : e.handover = none)
    (held : st ≠ .held) (auto : st ≠ .auto) : f.Vacated :=
  ⟨h.holder, h.handover.elim (fun same => same.trans none) id, by rwa [h.state], by rwa [h.state]⟩

/-- An entry that leaves authority by any event. -/
theorem leave_slotFits_self (hs : s.SlotFits i) {cause : Code} {lost : Option Code} {f : Entry → Entry}
    (vacated : (f { s.entry i with handover := none }).Vacated)
    (idle : (f { s.entry i with handover := none }).state ≠ .discovering → (s.context i).Idle)
    (forget : (f { s.entry i with handover := none }).state ≠ .linkLost → (s.fleetSlot i).forget = none) :
    (leave i cause lost f s).SlotFits i := by
  have entry := leave_entry i i cause lost f s
  obtain ⟨-, -, -, contexts, -, fleet, -⟩ := leave_elsewhere i cause lost f s
  rw [if_pos rfl] at entry
  refine slotFits_of_vacated ?_ (not_mem_callers_leave hs cause lost f) ?_ ?_
  · rwa [entry]
  · rwa [entry, State.context, contexts]
  · rwa [entry, State.fleetSlot, fleet]

theorem leave_slotFits_of_ne {cause : Code} {lost : Option Code} {f : Entry → Entry} (hj : j ≠ i) (hs : s.SlotFits j) :
    (leave i cause lost f s).SlotFits j := (leave_easesAt_of_ne i cause lost f s hj).slotFits hs

/-- The entry that a move of leaving writes. -/
theorem leave_vacated {cause : Code} {lost : Option Code} {st : EntryState} {f : Entry → Entry}
    (after : st = .free ∨ st = .locked ∨ st = .tripped ∨ st = .linkLost)
    (vacates : ∀ e : Entry, e.applied = (s.entry i).applied → Vacating s.policy e st (f e)) :
    ((leave i cause lost f s).entry i).Vacated ∧ ((leave i cause lost f s).entry i).state = st := by
  rw [leave_entry, if_pos rfl]
  have written := vacates { s.entry i with handover := none } rfl
  exact ⟨written.vacated rfl (by rcases after with rfl | rfl | rfl | rfl <;> decide)
    (by rcases after with rfl | rfl | rfl | rfl <;> decide), written.state⟩

theorem leave_slotFits (hs : ∀ i, s.SlotFits i) {cause : Code} {lost : Option Code} {st : EntryState} {f : Entry → Entry}
    (after : st = .free ∨ st = .locked ∨ st = .tripped ∨ st = .linkLost)
    (vacates : ∀ e : Entry, e.applied = (s.entry i).applied → Vacating s.policy e st (f e))
    (admitted : (s.entry i).state ≠ .discovering) (stopped : (s.entry i).state = .linkLost → (s.fleetSlot i).forget = none) (j : Slot) :
    (leave i cause lost f s).SlotFits j := by
  rcases eq_or_ne j i with rfl | hj
  · have vacated := (leave_vacated (cause := cause) (lost := lost) after vacates).1
    rw [leave_entry, if_pos rfl] at vacated
    refine leave_slotFits_self (hs j) vacated (fun _ => (hs j).idle admitted) fun _ => ?_
    by_cases lost : (s.entry j).state = .linkLost
    · exact stopped lost
    · exact (hs j).forget lost
  · exact leave_slotFits_of_ne hj (hs j)

/-- Discovery start leaves its slot DISCOVERING, with its context and timers at their values there. -/
theorem beginReads_easesAt_of_ne (s : State) {i j : Slot} (hj : j ≠ i) : EasesAt s (beginReads i s) j :=
  (setContext_easesAt_of_ne s _ hj).trans ((setFleetSlot_easesAt_of_ne _ _ hj).trans
    ((withdrawCommand_easesAt _ i j).trans (queueRead_easesAt _ i .readId j)))

theorem beginReads_slotFits_self (he : s.entry i = Entry.blank .discovering) (hc : i ∉ s.callers) : (beginReads i s).SlotFits i := by
  refine slotFits_of_vacated (s := beginReads i s) ?_ hc (fun discovering => absurd ?_ discovering) fun _ => ?_
  · show (s.entry i).Vacated
    rw [he]
    exact blank_vacated (by decide) (by decide)
  · show (s.entry i).state = .discovering
    rw [he]
    rfl
  · show ((s.setFleetSlot i fleetAtStart).fleetSlot i).forget = none
    rw [State.fleetSlot_setFleetSlot_self]
    rfl

theorem startDiscovery_slotFits (hs : ∀ i, s.SlotFits i) (j : Slot) : (startDiscovery i s).SlotFits j := by
  rcases eq_or_ne j i with rfl | hj
  · exact beginReads_slotFits_self (by rw [leave_entry, if_pos rfl]) (not_mem_callers_leave (hs j) _ _ _)
  · exact (beginReads_easesAt_of_ne _ hj).slotFits (leave_slotFits_of_ne hj (hs j))

theorem transfer_slotFits (hs : ∀ i, s.SlotFits i) {h : Handover} (hh : (s.entry i).handover = some h) (j : Slot) :
    (transfer i h s).SlotFits j := by
  have carries : (s.entry i).state.carries = true := (hs i).record (by simp [hh])
  have entry : ((s.modEntry i (entryAfter h s.policy)).removeCall i).entry i = entryAfter h s.policy (s.entry i) :=
    State.entry_setEntry_self ..
  refine (easesAt_of_same (transfer_table i h s) (transfer_elsewhere i h s) j).slotFits ?_
  rcases eq_or_ne j i with rfl | hj
  · exact
      { holder := by rw [entry]; exact entryAfter_holderFits ..
        record := fun _ => by rw [entry]; exact entryAfter_carries ..
        caller := fun hi => absurd rfl (mem_callers_removeCall.1 hi).2
        idle := fun _ => (hs j).idle_of_carries carries
        forget := fun _ => (hs j).forget_of_carries carries }
  · exact ((setEntry_easesAt_of_ne s _ hj).trans (removeCall_easesAt _ i j)).slotFits (hs j)

theorem setChair_easesAt (s : State) (c : ChairId) (x : Chair) (j : Slot) : EasesAt s (s.setChair c x) j :=
  easesAt_of_same (s := s) (t := s.setChair c x) ⟨rfl, rfl, rfl⟩ (setChair_elsewhere c x s) j

/-- A handover starts with its record on its own entry, and writes chairs and marks of calls besides. -/
theorem startHandover_slotFits (hs : ∀ i, s.SlotFits i) (carries : (s.entry i).state.carries = true) (h : Handover) (j : Slot) :
    (startHandover i h s).SlotFits j := by
  have placed : (s.withRecord i h).SlotFits j := by
    have reserved (u : State) (e : Entry) : (u.setEntry i e).callers = u.callers := rfl
    have callers : (s.withRecord i h).callers = s.callers := by
      unfold State.withRecord
      dsimp only [State.callers, State.setEntry_calls]
      split
      · rw [List.map_map]
        refine List.map_congr_left fun k _ => ?_
        simp only [Function.comp_apply]
        split <;> rfl
      · rfl
    obtain ⟨holder, record, caller, idle, forget⟩ := hs j
    rcases eq_or_ne j i with rfl | hj
    · have entry : (s.withRecord j h).entry j = { s.entry j with handover := some h } := State.entry_setEntry_self ..
      constructor <;> rw [entry]
      exacts [holder, fun _ => carries, callers ▸ caller, idle, forget]
    · have entry : (s.withRecord i h).entry j = s.entry j := State.entry_setEntry_of_ne _ _ hj.symm
      constructor <;> rw [entry]
      exacts [holder, record, callers ▸ caller, idle, forget]
  rw [startHandover_eq]
  split
  · exact placed
  · exact (setChair_easesAt _ _ _ j).slotFits placed

theorem place_slotFits (hs : ∀ i, s.SlotFits i) {st : EntryState} (after : st = .free ∨ st = .locked)
    (before : (s.entry i).state = .locked ∨ ((s.entry i).state = .discovering ∧ (s.context i).Idle) ∨
      ((s.entry i).state = .linkLost ∧ (s.fleetSlot i).forget = none)) (j : Slot) : (s.modEntry i (Entry.vacate st)).SlotFits j := by
  rcases eq_or_ne j i with rfl | hj
  · have entry : (s.modEntry j (Entry.vacate st)).entry j = (s.entry j).vacate st := State.entry_setEntry_self ..
    have apart : (s.entry j).state.carries = false ∧ (s.entry j).state ≠ .auto ∧ (s.context j).Idle ∧ (s.fleetSlot j).forget = none := by
      rcases before with h | ⟨h, idle⟩ | ⟨h, stopped⟩
      · exact ⟨by rw [h]; rfl, by simp [h], (hs j).idle (by simp [h]), (hs j).forget (by simp [h])⟩
      · exact ⟨by rw [h]; rfl, by simp [h], idle, (hs j).forget (by simp [h])⟩
      · exact ⟨by rw [h]; rfl, by simp [h], (hs j).idle (by simp [h]), stopped⟩
    obtain ⟨carries, auto, idle, stopped⟩ := apart
    refine slotFits_of_vacated ?_ ((hs j).not_called auto) (fun _ => idle) fun _ => stopped
    rw [entry]
    rcases after with rfl | rfl <;> exact vacate_vacated ((hs j).no_record carries) (by decide) (by decide)
  · exact (setEntry_easesAt_of_ne s _ hj).slotFits (hs j)

theorem modFleetSlot_slotFits_all (hs : ∀ i, s.SlotFits i) {f : FleetSlot → FleetSlot}
    (hf : (s.entry i).state ≠ .linkLost → (f (s.fleetSlot i)).forget = none) (j : Slot) : (s.modFleetSlot i f).SlotFits j := by
  rcases eq_or_ne j i with rfl | hj
  · exact modFleetSlot_slotFits (hs j) hf
  · exact (setFleetSlot_easesAt_of_ne s _ hj).slotFits (hs j)

/-- Only a loader in DISCOVERING has a stage, a read or an answer timer. -/
theorem discovering_of_not_idle (hs : s.SlotFits i) (h : ¬ (s.context i).Idle) : (s.entry i).state = .discovering :=
  not_not.1 (mt hs.idle h)

theorem linkLost_of_forget_ne (hs : s.SlotFits i) (h : (s.fleetSlot i).forget ≠ none) : (s.entry i).state = .linkLost :=
  not_not.1 (mt hs.forget h)

theorem refuse_slotFits (hs : ∀ i, s.SlotFits i) (cause : Code) (h : ¬ (s.context i).Idle) (j : Slot) : (refuse i cause s).SlotFits j := by
  have discovering := discovering_of_not_idle (hs i) h
  refine (notify_easesAt _ _ _ j).slotFits ((withdrawRead_easesAt _ i j).slotFits ?_)
  rcases eq_or_ne j i with rfl | hj
  · refine slotFits_of_vacated ?_ ((hs j).not_called (by simp [discovering])) (fun _ => ?_) fun _ => (hs j).forget (by simp [discovering])
    · rw [State.setContext_entry, State.modEntry, State.entry_setEntry_self]
      exact vacate_vacated ((hs j).no_record (by rw [discovering]; rfl)) (by decide) (by decide)
    · rw [State.context_setContext_self]
      exact ⟨rfl, rfl, rfl⟩
  · exact ((setEntry_easesAt_of_ne s _ hj).trans (setContext_easesAt_of_ne _ _ hj)).slotFits (hs j)

theorem forgotten_slotFits (hs : ∀ i, s.SlotFits i) (h : (s.fleetSlot i).forget ≠ none) (j : Slot) : (forgotten i s).SlotFits j := by
  have lost := linkLost_of_forget_ne (hs i) h
  refine (withdrawAnyCommand_easesAt _ i j).slotFits ?_
  rcases eq_or_ne j i with rfl | hj
  · refine slotFits_of_vacated ?_ ((hs j).not_called (by simp [lost])) (fun _ => ?_) fun _ => ?_
    · rw [State.setFleetSlot_entry, State.setContext_entry, State.entry_setEntry_self]
      exact blank_vacated (by decide) (by decide)
    · rw [State.setFleetSlot_context, State.context_setContext_self]
      exact ⟨rfl, rfl, rfl⟩
    · rw [State.fleetSlot_setFleetSlot_self]
      rfl
  · exact ((setEntry_easesAt_of_ne s _ hj).trans
      ((setContext_easesAt_of_ne _ _ hj).trans (setFleetSlot_easesAt_of_ne _ _ hj))).slotFits (hs j)

/-- A call that joins the queue for a loader in AUTO. -/
theorem insertCall_slotFits (hs : ∀ i, s.SlotFits i) {k : Call} (auto : (s.entry k.slot).state = .auto) (j : Slot) :
    ({ s with calls := insertCall k s.calls } : State).SlotFits j := by
  refine { hs j with caller := fun hj => ?_ }
  have split : j = k.slot ∨ j ∈ s.callers := by
    simpa [State.callers, (insertCall_perm k s.calls).mem_iff, eq_comm] using hj
  rcases split with rfl | called
  · exact auto
  · exact (hs j).caller called

theorem createCall_slotFits (hs : ∀ i, s.SlotFits i) (auto : (s.entry i).state = .auto) (r : CallReason) (j : Slot) :
    (createCall i r s).SlotFits j := by
  have called (attach : Bool) := insertCall_slotFits hs (k := ⟨i, r, attach, 0#6, 0⟩) auto j
  unfold createCall
  dsimp only
  split
  · exact (modEntry_easesAt rfl rfl rfl (mt fun hn => by simp [hn]) j).slotFits (called _)
  · exact (due_easesAt _ j).slotFits (called _)

theorem raiseCall_slotFits (hs : ∀ i, s.SlotFits i) {k : Call} (hk : s.findCall k.slot = some k) (r : CallReason) (j : Slot) :
    (raiseCall k r s).SlotFits j := by
  have auto : (s.entry k.slot).state = .auto := (hs k.slot).caller (mem_callers_of_findCall hk)
  have moved : ({ s.removeCall k.slot with calls := insertCall { k with reason := r } (s.removeCall k.slot).calls } : State).SlotFits j :=
    insertCall_slotFits (s := s.removeCall k.slot) (k := { k with reason := r })
      (fun i => (removeCall_easesAt s k.slot i).slotFits (hs i)) auto j
  unfold raiseCall
  split
  · dsimp only
    split
    · exact moved
    · exact (due_easesAt _ j).slotFits moved
  · exact hs j

/-! ### A chair whose link goes down (R89) -/

/-- The chair's queue and request slot emptied, its loader freed, the handover that targets it ended, and the chair cut off. -/
def portWiped (c : ChairId) (s : State) : State := s.modPort (.chair c) fun r => { r with outstanding := none, queue := [] }

def holdingDropped (c : ChairId) (s : State) : State :=
  match s.heldSlot c with
  | some i => dropHolder i .link s
  | none => s

def targetingAbandoned (c : ChairId) (s : State) : State :=
  match s.targetSlot c with
  | some i => abandon i .targetOffline s
  | none => s

theorem chairOffline_eq (c : ChairId) (s : State) :
    chairOffline c s =
      ((targetingAbandoned c (holdingDropped c (portWiped c s))).setChair c
        ((targetingAbandoned c (holdingDropped c (portWiped c s))).chair c).cutOff).due := rfl

theorem portWiped_still (c : ChairId) (s : State) : Still s (portWiped c s) :=
  Micros.still (modPort_micros s (.chair c) _ .wiped)

theorem dropHolder_slotFits (hs : ∀ i, s.SlotFits i) (held : (s.entry i).state = .held) (lost : Code) (j : Slot) :
    (dropHolder i lost s).SlotFits j :=
  leave_slotFits hs (.inl rfl) (fun _ _ => .kept) (by simp [held]) (by simp [held]) j

theorem holdingDropped_slotFits (hs : ∀ i, s.SlotFits i) (c : ChairId) (j : Slot) : (holdingDropped c s).SlotFits j := by
  unfold holdingDropped
  split
  next h => exact dropHolder_slotFits hs (held_of_heldSlot h) _ j
  next => exact hs j

theorem targetingAbandoned_slotFits (hs : ∀ i, s.SlotFits i) (c : ChairId) (j : Slot) : (targetingAbandoned c s).SlotFits j := by
  unfold targetingAbandoned
  split
  · exact (abandon_easesAt _ _ s j).slotFits (hs j)
  · exact hs j

theorem chairOffline_slotFits (hs : ∀ i, s.SlotFits i) (c : ChairId) (j : Slot) : (chairOffline c s).SlotFits j := by
  have wiped : ∀ i, (portWiped c s).SlotFits i := fun i => (portWiped_still c s).slotFits (hs i)
  have ended := targetingAbandoned_slotFits (holdingDropped_slotFits wiped c) c
  rw [chairOffline_eq]
  exact (due_easesAt _ j).slotFits ((setChair_easesAt _ _ _ j).slotFits (ended j))

end

theorem Move.slotFits {s t : State} (h : Move ChairWrite s t) (hs : ∀ i, s.SlotFits i) (j : Slot) : t.SlotFits j := by
  cases h with
  | still h => exact (h true).still.slotFits (hs j)
  | abandon i cause => exact (abandon_easesAt i cause s j).slotFits (hs j)
  | leave i cause lost after vacates admitted stopped => exact leave_slotFits hs after vacates admitted stopped j
  | discover i => exact startDiscovery_slotFits hs j
  | transfer i hh => exact transfer_slotFits hs hh j
  | start i free target source =>
    refine startHandover_slotFits hs ?_ _ j
    rcases source with ⟨state, -⟩ | ⟨auto | called, -⟩ | ⟨c, held, -⟩
    · rw [state]
      rfl
    · rw [auto]
      rfl
    · rw [(hs i).caller called]
      rfl
    · exact carries_of_heldBy held
  | accept i c =>
    have gating : (moveToGating i s).SlotFits j :=
      (modEntry_easesAt rfl rfl rfl (mt fun hn => by simp [hn]) j).slotFits (hs j)
    exact (setChair_easesAt _ _ _ j).slotFits gating
  | place i after before => exact place_slotFits hs after before j
  | lost i n h => exact modFleetSlot_slotFits_all hs (fun other => absurd h other) j
  | refuse i cause h => exact refuse_slotFits hs cause h j
  | forget i h => exact forgotten_slotFits hs h j
  | create i r auto => exact createCall_slotFits hs auto r j
  | raise r hk => exact raiseCall_slotFits hs hk r j
  | remove i => exact (removeCall_easesAt s i j).slotFits (hs j)
  | reset h =>
    exact ((lawful_of_reset h.entries h.calls h.contexts h.fleet).slot j).1
  | resetKeep => exact ((resetKeepAll_lawful s).slot j).1
  | offline c => exact chairOffline_slotFits hs c j

end Sys2Proof.Machine
end


section
/-! SUPPORT. One holder and one target: how an entry ties a chair, and what a change at one slot leaves of the ties. -/

namespace Sys2Proof.Machine

/-! ### Ties (R3, R37, R75) -/

/-- Whether an entry ties chair `c` in a chair state: as its holder in DRIVING, as the target of its record in OFFERED or ENGAGING. -/
def Entry.ties (e : Entry) (c : ChairId) : ChairState → Bool
  | .driving => e.heldBy c
  | .offered => e.targetsIn .offering c
  | .engaging => e.targetsIn .gating c
  | .offline | .idle | .ready => false

/-- Chair `c`'s state tells which entry ties it. -/
structure State.Tied (s : State) (c : ChairId) : Prop where
  told : ∀ {i st}, (s.entry i).ties c st = true → (s.chair c).state = st
  once : ∀ {i j st}, (s.entry i).ties c st = true → (s.entry j).ties c st = true → i = j
  tied : (s.chair c).state.loose = false → ∃ i, (s.entry i).ties c (s.chair c).state = true

theorem countP_allSlots_eq_ite_iff (p : Slot → Bool) (q : Prop) [Decidable q] :
    allSlots.countP p = (if q then 1 else 0) ↔
      (∀ i, p i = true → q) ∧ (∀ i j, p i = true → p j = true → i = j) ∧ (q → ∃ i, p i = true) := by
  have nodup : allSlots.Nodup := List.nodup_finRange 16
  have card : allSlots.countP p = (Finset.univ.filter fun i => p i = true).card := by
    rw [List.countP_eq_length_filter, ← List.toFinset_card_of_nodup (nodup.filter p)]
    congr 1
    ext i
    simp [allSlots]
  rw [card]
  split
  next hq =>
    rw [Finset.card_eq_one]
    constructor
    · rintro ⟨a, ha⟩
      have mem (i : Slot) : p i = true ↔ i = a := by simpa using Finset.ext_iff.1 ha i
      exact ⟨fun _ _ => hq, fun i j hi hj => ((mem i).1 hi).trans ((mem j).1 hj).symm, fun _ => ⟨a, (mem a).2 rfl⟩⟩
    · rintro ⟨-, once, some⟩
      obtain ⟨a, ha⟩ := some hq
      exact ⟨a, Finset.ext fun i => by simpa using ⟨fun hi => once i a hi ha, fun hi => hi ▸ ha⟩⟩
  next hq =>
    rw [Finset.card_eq_zero, Finset.filter_eq_empty_iff]
    constructor
    · intro none
      exact ⟨fun i hi => absurd hi (none (Finset.mem_univ i)), fun i j hi => absurd hi (none (Finset.mem_univ i)), fun h => absurd h hq⟩
    · rintro ⟨only, -, -⟩ i -
      exact fun hi => hq (only i hi)

theorem chairFits_iff_tied (s : State) (c : ChairId) : s.ChairFits c ↔ s.Tied c := by
  unfold State.ChairFits
  simp only [countP_allSlots_eq_ite_iff]
  constructor
  · rintro ⟨⟨driving, oneHeld, held⟩, ⟨offered, oneOffered, offer⟩, ⟨engaging, oneGating, gating⟩⟩
    refine ⟨fun {i st} h => ?_, fun {i j st} hi hj => ?_, fun h => ?_⟩
    · cases st with
      | driving => exact driving i h
      | offered => exact offered i h
      | engaging => exact engaging i h
      | offline | idle | ready => cases h
    · cases st with
      | driving => exact oneHeld i j hi hj
      | offered => exact oneOffered i j hi hj
      | engaging => exact oneGating i j hi hj
      | offline | idle | ready => cases hi
    · cases hst : (s.chair c).state with
      | driving => exact held hst
      | offered => exact offer hst
      | engaging => exact gating hst
      | offline | idle | ready => simp [hst, ChairState.loose] at h
  · rintro ⟨told, once, tied⟩
    have some (st : ChairState) (loose : st.loose = false) (h : (s.chair c).state = st) : ∃ i, (s.entry i).ties c st = true :=
      h ▸ tied (h ▸ loose)
    exact ⟨⟨fun i h => told (st := .driving) h, fun i j => once (st := .driving), some .driving rfl⟩,
      ⟨fun i h => told (st := .offered) h, fun i j => once (st := .offered), some .offered rfl⟩,
      ⟨fun i h => told (st := .engaging) h, fun i j => once (st := .engaging), some .engaging rfl⟩⟩

theorem ties_not_loose {e : Entry} {c : ChairId} {st : ChairState} (h : e.ties c st = true) : st.loose = false := by
  cases st <;> simp_all [Entry.ties, ChairState.loose]

/-- The ties of an entry turn on its state, its holder and its record. -/
theorem ties_congr {e f : Entry} (state : f.state = e.state) (holder : f.holder = e.holder) (handover : f.handover = e.handover)
    (c : ChairId) (st : ChairState) : f.ties c st = e.ties c st := by
  cases st <;> simp only [Entry.ties, Entry.heldBy, Entry.targetsIn, state, holder, handover]

/-- A vacated entry ties no chair. -/
theorem Entry.Vacated.ties {e : Entry} (h : e.Vacated) (c : ChairId) (st : ChairState) : e.ties c st = false := by
  obtain ⟨holder, handover, -, -⟩ := h
  cases st <;> simp [Entry.ties, Entry.heldBy, Entry.targetsIn, holder, handover]

/-- An entry ties the chair that holds it and the target of its record, and no other. -/
theorem ties_iff (e : Entry) (c : ChairId) (st : ChairState) :
    e.ties c st = true ↔ (st = .driving ∧ e.state = .held ∧ e.holder = some (.chair c)) ∨
      ∃ h, e.handover = some h ∧ h.target = .chair c ∧ st = if h.phase = .offering then .offered else .engaging := by
  cases st <;> cases hh : e.handover with
  | none => simp [Entry.ties, Entry.heldBy, Entry.targetsIn, hh]
  | some h => cases hp : h.phase <;> simp [Entry.ties, Entry.heldBy, Entry.targetsIn, hh, hp]

/-! ### Changes at one slot -/

/-- What an event at slot `i` may make of chair `c`: either its ties with the slot and its state are as they were, or it was tied to the
slot at most, and its state tells how the slot ties it afterwards. -/
def Retied (s t : State) (i : Slot) (c : ChairId) : Prop :=
  ((∀ st, (t.entry i).ties c st = (s.entry i).ties c st) ∧
      ((t.chair c).state = (s.chair c).state ∨ ((s.chair c).state.loose = true ∧ (t.chair c).state.loose = true))) ∨
    (((s.chair c).state.loose = true ∨ ∃ st, (s.entry i).ties c st = true) ∧
      ∀ st, (t.entry i).ties c st = true ↔ (t.chair c).state = st ∧ st.loose = false)

theorem State.Tied.of_retied {s t : State} {i : Slot} {c : ChairId} (hs : s.Tied c)
    (others : ∀ j ≠ i, ∀ st, (t.entry j).ties c st = (s.entry j).ties c st) (h : Retied s t i c) : t.Tied c := by
  rcases h with ⟨same, state⟩ | ⟨before, after⟩
  · have ties (j : Slot) (st : ChairState) : (t.entry j).ties c st = (s.entry j).ties c st := by
      rcases eq_or_ne j i with rfl | hj
      · exact same st
      · exact others j hj st
    have kept {st : ChairState} (h : (s.chair c).state = st) (loose : st.loose = false) : (t.chair c).state = st := by
      rcases state with same | ⟨was, -⟩
      · exact same.trans h
      · rw [h, loose] at was
        cases was
    refine ⟨fun {j st} h => ?_, fun {j k st} hj hk => ?_, fun h => ?_⟩
    · rw [ties] at h
      exact kept (hs.told h) (ties_not_loose h)
    · rw [ties] at hj hk
      exact hs.once hj hk
    · rcases state with same | ⟨-, loose⟩
      · rw [same] at h ⊢
        simpa only [ties] using hs.tied h
      · rw [loose] at h
        cases h
  · have own {j : Slot} {st : ChairState} (h : (t.entry j).ties c st = true) : j = i := by
      by_contra hj
      rw [others j hj] at h
      rcases before with loose | ⟨st', tied⟩
      · rw [hs.told h, ties_not_loose h] at loose
        cases loose
      · have same : st' = st := (hs.told tied).symm.trans (hs.told h)
        exact hj (hs.once h (same ▸ tied))
    refine ⟨fun {j st} h => ?_, fun {j k st} hj hk => (own hj).trans (own hk).symm, fun h => ⟨i, (after _).2 ⟨rfl, h⟩⟩⟩
    obtain rfl := own h
    exact ((after st).1 h).1

/-- A change at one slot keeps the law of one holder and one target. -/
theorem oneHolderLaw_of_retied {s t : State} {i : Slot} (hs : s.OneHolderLaw)
    (others : ∀ j ≠ i, t.entry j = s.entry j) (h : ∀ c, s.Tied c → Retied s t i c) : t.OneHolderLaw := fun c => by
  have tied := (chairFits_iff_tied s c).1 (hs c)
  exact (chairFits_iff_tied t c).2 (tied.of_retied (fun j hj st => by rw [others j hj]) (h c tied))

/-- A chair that a slot ties is left to itself, or tied in the state it takes. -/
theorem Retied.freed {s t : State} {i : Slot} {c : ChairId} (before : (s.chair c).state.loose = true ∨ ∃ st, (s.entry i).ties c st = true)
    (none : ∀ st, (t.entry i).ties c st = false) (loose : (t.chair c).state.loose = true) : Retied s t i c := by
  refine .inr ⟨before, fun st => ⟨fun h => ?_, fun ⟨h, tight⟩ => ?_⟩⟩
  · rw [none] at h
    cases h
  · rw [← h, loose] at tight
    cases tight

theorem Retied.kept {s t : State} {i : Slot} {c : ChairId} (same : ∀ st, (t.entry i).ties c st = (s.entry i).ties c st)
    (state : (t.chair c).state = (s.chair c).state) : Retied s t i c := .inl ⟨same, .inl state⟩

theorem loose_settled (x : Chair) : x.settled.state.loose = true := by
  unfold Chair.settled
  cases x.latch <;> rfl

theorem loose_of_available {s : State} {c : ChairId} (h : s.available c = true) : (s.chair c).state.loose = true := by
  unfold State.available at h
  cases hst : (s.chair c).state <;> simp_all [ChairState.loose]

/-! ### The state of one chair after an operation -/

section
variable (i : Slot) (h : Handover) (d : ChairId) (x : Chair)

theorem Chair.abandoned_state (cause : Code) :
    (x.abandoned i h cause d).state = if h.target = .chair d then x.settled.state else x.state := by
  unfold Chair.abandoned
  dsimp only
  split_ifs <;> simp [Chair.queued]

theorem Chair.transferred_state :
    (x.transferred i h d).state =
      if h.source = some (.chair d) then x.settled.state else if h.target = .chair d then .driving else x.state := by
  unfold Chair.transferred
  dsimp only
  split_ifs <;> simp [Chair.queued, Chair.settled]

end

theorem leave_chair_none (i : Slot) (cause : Code) (f : Entry → Entry) (s : State) (d : ChairId) :
    (leave i cause none f s).chair d =
      if (s.entry i).state = .held ∧ (s.entry i).holder = some (.chair d) then ((abandon i cause s).chair d).settled
      else (abandon i cause s).chair d := by
  have removed (u : State) : (autoCallRemoved i (s.entry i).state u).chair d = u.chair d := by
    unfold autoCallRemoved
    split <;> rfl
  have released (u : State) : (releaseHolder i (s.entry i) none u).chair d =
      if (s.entry i).state = .held ∧ (s.entry i).holder = some (.chair d) then (u.chair d).settled else u.chair d := by
    unfold releaseHolder
    split
    next c hs hh => simp [hs, hh, chair_settleChair]
    next hn => rw [if_neg fun h => hn d h.1 h.2]
  rw [leave_eq, removed, released]
  rfl

theorem leave_chair_state (i : Slot) (cause : Code) (lost : Option Code) (f : Entry → Entry) (s : State) (d : ChairId) :
    ((leave i cause lost f s).chair d).state =
      if (s.entry i).state = .held ∧ (s.entry i).holder = some (.chair d) then ((abandon i cause s).chair d).settled.state
      else ((abandon i cause s).chair d).state := by
  cases lost with
  | none =>
    rw [leave_chair_none]
    split <;> rfl
  | some l =>
    rw [leave_chair]
    split <;> rfl

theorem abandon_chair_state (i : Slot) (cause : Code) (s : State) (d : ChairId) :
    ((abandon i cause s).chair d).state =
      if (s.entry i).targets d = true then (s.chair d).settled.state else (s.chair d).state := by
  unfold Entry.targets
  cases hh : (s.entry i).handover with
  | none => simp [abandon_of_none cause hh]
  | some h => simp [abandon_chair cause hh, Chair.abandoned_state]

end Sys2Proof.Machine
end


section
/-! SUPPORT. One holder and one target under every move. -/

namespace Sys2Proof.Machine

section
variable {s : State} {i : Slot} {c : ChairId}

theorem targets_iff (e : Entry) (c : ChairId) : e.targets c = true ↔ ∃ h, e.handover = some h ∧ h.target = .chair c := by
  unfold Entry.targets
  cases e.handover <;> simp

theorem ties_of_heldBy {e : Entry} (h : e.heldBy c = true) : e.ties c .driving = true := h

theorem ties_of_targets {e : Entry} (h : e.targets c = true) : ∃ st, st ≠ .driving ∧ e.ties c st = true := by
  obtain ⟨r, hr, target⟩ := (targets_iff e c).1 h
  refine ⟨_, ?_, (ties_iff e c _).2 (.inr ⟨r, hr, target, rfl⟩)⟩
  split <;> simp

/-- The target of a record is not the holder. -/
theorem State.Tied.not_heldBy (tied : s.Tied c) (h : (s.entry i).targets c = true) : (s.entry i).heldBy c = false := by
  obtain ⟨st, driving, ties⟩ := ties_of_targets h
  rw [Bool.eq_false_iff]
  exact fun held => driving ((tied.told ties).symm.trans (tied.told (ties_of_heldBy held)))

/-- An entry that neither is held by a chair nor has a record for it does not tie it. -/
theorem ties_eq_false {e : Entry} (held : e.heldBy c = false) (target : e.targets c = false) (st : ChairState) : e.ties c st = false := by
  rw [Bool.eq_false_iff]
  intro h
  rcases (ties_iff e c st).1 h with ⟨-, hs, hh⟩ | ⟨r, hr, ht, -⟩
  · rw [(heldBy_iff e c).2 ⟨hs, hh⟩] at held
    cases held
  · rw [(targets_iff e c).2 ⟨r, hr, ht⟩] at target
    cases target

theorem abandon_entry_self (i : Slot) (cause : Code) (s : State) : (abandon i cause s).entry i = { s.entry i with handover := none } := by
  rw [abandon_entry, if_pos rfl]

theorem abandon_entry_of_ne {i j : Slot} (hj : j ≠ i) (cause : Code) (s : State) : (abandon i cause s).entry j = s.entry j := by
  rw [abandon_entry, if_neg hj.symm]

theorem leave_entry_of_ne {i j : Slot} (hj : j ≠ i) (cause : Code) (lost : Option Code) (f : Entry → Entry) (s : State) :
    (leave i cause lost f s).entry j = s.entry j := by
  rw [leave_entry, if_neg hj.symm]

theorem abandon_oneHolder (hs : s.OneHolderLaw) (i : Slot) (cause : Code) : (abandon i cause s).OneHolderLaw := by
  refine oneHolderLaw_of_retied hs (fun j hj => abandon_entry_of_ne hj cause s) fun c tied => ?_
  have after (st : ChairState) (h : (s.entry i).heldBy c = false) : ((abandon i cause s).entry i).ties c st = false := by
    rw [abandon_entry_self]
    exact ties_eq_false (by exact h) (by simp [Entry.targets]) st
  cases target : (s.entry i).targets c with
  | true =>
    have loose : ((abandon i cause s).chair c).state.loose = true := by
      rw [abandon_chair_state, if_pos target]
      exact loose_settled _
    have ⟨st, _, ties⟩ := ties_of_targets target
    exact .freed (.inr ⟨st, ties⟩) (fun st => after st (tied.not_heldBy target)) loose
  | false =>
    refine .kept (fun st => ?_) (by rw [abandon_chair_state, target]; rfl)
    cases held : (s.entry i).heldBy c with
    | false => rw [after st held, ties_eq_false held target]
    | true =>
      rw [Bool.eq_iff_iff, ties_iff, ties_iff]
      simp only [abandon_entry_self]
      constructor
      · rintro (h | ⟨r, hr, -⟩)
        · exact .inl h
        · cases hr
      · rintro (h | ⟨r, hr, ht, -⟩)
        · exact .inl h
        · rw [(targets_iff _ c).2 ⟨r, hr, ht⟩] at target
          cases target

/-- An event that leaves authority frees the chairs that the slot ties. -/
theorem leave_oneHolder (hs : s.OneHolderLaw) {cause : Code} {lost : Option Code} {f : Entry → Entry}
    (vacated : ((leave i cause lost f s).entry i).Vacated) : (leave i cause lost f s).OneHolderLaw := by
  refine oneHolderLaw_of_retied hs (fun j hj => leave_entry_of_ne hj ..) fun c _ => ?_
  have state := leave_chair_state i cause lost f s c
  simp only [← heldBy_iff, abandon_chair_state] at state
  cases held : (s.entry i).heldBy c with
  | true =>
    rw [if_pos held] at state
    exact .freed (.inr ⟨_, ties_of_heldBy held⟩) (vacated.ties c) (state ▸ loose_settled _)
  | false =>
    rw [if_neg (by simp [held])] at state
    cases target : (s.entry i).targets c with
    | true =>
      rw [if_pos target] at state
      have ⟨st, _, ties⟩ := ties_of_targets target
      exact .freed (.inr ⟨st, ties⟩) (vacated.ties c) (state ▸ loose_settled _)
    | false =>
      rw [if_neg (by simp [target])] at state
      exact .kept (fun st => by rw [vacated.ties, ties_eq_false held target]) state

/-- What keeps every entry's authority and every chair's state keeps the law. -/
theorem oneHolderLaw_of_same {s t : State} (hs : s.OneHolderLaw) (state : ∀ i, (t.entry i).state = (s.entry i).state)
    (holder : ∀ i, (t.entry i).holder = (s.entry i).holder) (handover : ∀ i, (t.entry i).handover = (s.entry i).handover)
    (chair : ∀ c, (t.chair c).state = (s.chair c).state ∨ ((s.chair c).state.loose = true ∧ (t.chair c).state.loose = true)) :
    t.OneHolderLaw := fun c => by
  have ties (i : Slot) (st : ChairState) := ties_congr (state i) (holder i) (handover i) c st
  exact (chairFits_iff_tied t c).2 (((chairFits_iff_tied s c).1 (hs c)).of_retied (i := 0) (fun j _ => ties j) (.inl ⟨ties 0, chair c⟩))

theorem Still.oneHolder {s t : State} (h : Still s t) (hs : s.OneHolderLaw) : t.OneHolderLaw :=
  oneHolderLaw_of_same hs h.state h.holder h.handover h.chair

theorem beginReads_entry (i : Slot) (s : State) (j : Slot) : (beginReads i s).entry j = s.entry j := rfl
theorem beginReads_chair (i : Slot) (s : State) (c : ChairId) : (beginReads i s).chair c = s.chair c := rfl

/-- What leaves every entry and every chair as it was keeps the law. -/
theorem oneHolderLaw_of_records {s t : State} (hs : s.OneHolderLaw) (entry : ∀ i, t.entry i = s.entry i)
    (chair : ∀ c, t.chair c = s.chair c) : t.OneHolderLaw :=
  oneHolderLaw_of_same hs (fun i => by rw [entry]) (fun i => by rw [entry]) (fun i => by rw [entry]) fun c => .inl (by rw [chair])

theorem startDiscovery_oneHolder (hs : s.OneHolderLaw) (i : Slot) : (startDiscovery i s).OneHolderLaw := by
  have left : (leave i .loaderRestart (some .loaderRestart) (fun _ => Entry.blank .discovering) s).OneHolderLaw := by
    refine leave_oneHolder hs ?_
    rw [leave_entry, if_pos rfl]
    exact blank_vacated (by decide) (by decide)
  exact oneHolderLaw_of_records left (beginReads_entry i _) (beginReads_chair i _)

/-- A write of an entry that ties no chair before and after. -/
theorem setEntry_oneHolder (hs : s.OneHolderLaw) {e : Entry} (h : ∀ c st, e.ties c st = (s.entry i).ties c st) :
    (s.setEntry i e).OneHolderLaw := by
  refine oneHolderLaw_of_retied hs (fun j hj => State.entry_setEntry_of_ne _ _ hj.symm) fun c _ => .kept (fun st => ?_) rfl
  rw [State.entry_setEntry_self]
  exact h c st

/-- An entry that neither is held nor carries a record ties no chair. -/
theorem ties_of_apart {e : Entry} (held : e.state ≠ .held) (none : e.handover = none) (c : ChairId) (st : ChairState) :
    e.ties c st = false := by
  refine ties_eq_false ?_ (by simp [Entry.targets, none]) st
  rw [Bool.eq_false_iff]
  exact fun h => held ((heldBy_iff e c).1 h).1

/-- The holder of an entry that has a chair for holder holds it. -/
theorem heldBy_of_holder (hs : s.SlotFits i) (h : (s.entry i).holder = some (.chair c)) : (s.entry i).heldBy c = true := by
  refine (heldBy_iff _ _).2 ⟨?_, h⟩
  have fits := hs.holder
  unfold Entry.holderFits at fits
  rw [h] at fits
  cases hst : (s.entry i).state <;> simp_all

theorem transfer_entry_self (i : Slot) (h : Handover) (s : State) : (transfer i h s).entry i = entryAfter h s.policy (s.entry i) := by
  rw [transfer_entry, if_pos rfl]

/-- The target alone is tied after a transfer. -/
theorem ties_entryAfter (h : Handover) (pol : Policy) (e : Entry) (c : ChairId) (st : ChairState) :
    (entryAfter h pol e).ties c st = true ↔ h.target = .chair c ∧ st = .driving := by
  rw [ties_iff]
  cases ht : h.target <;> simp [entryAfter, ht, and_comm, eq_comm]

theorem transfer_oneHolder (hs : s.OneHolderLaw) (fits : s.SlotFits i) {h : Handover} (hh : (s.entry i).handover = some h)
    (source : h.source = (s.entry i).holder) : (transfer i h s).OneHolderLaw := by
  refine oneHolderLaw_of_retied hs (fun j hj => by rw [transfer_entry, if_neg hj.symm]) fun c tied => ?_
  have state := (congrArg Chair.state (transfer_chair i h s c)).trans (Chair.transferred_state i h c _)
  have after (st : ChairState) : ((transfer i h s).entry i).ties c st = true ↔ h.target = .chair c ∧ st = .driving := by
    rw [transfer_entry_self]
    exact ties_entryAfter ..
  by_cases target : h.target = .chair c
  · have targets : (s.entry i).targets c = true := (targets_iff _ c).2 ⟨h, hh, target⟩
    have ⟨st, _, ties⟩ := ties_of_targets targets
    have other : h.source ≠ some (.chair c) := fun hc => by
      rw [source] at hc
      have free := tied.not_heldBy targets
      rw [heldBy_of_holder fits hc] at free
      cases free
    rw [if_neg other, if_pos target] at state
    refine .inr ⟨.inr ⟨st, ties⟩, fun st => ?_⟩
    rw [after, state]
    constructor
    · rintro ⟨-, rfl⟩
      exact ⟨rfl, rfl⟩
    · rintro ⟨rfl, -⟩
      exact ⟨target, rfl⟩
  · have none (st : ChairState) : ((transfer i h s).entry i).ties c st = false :=
      Bool.eq_false_iff.2 fun ht => target ((after st).1 ht).1
    by_cases from_ : h.source = some (.chair c)
    · rw [if_pos from_] at state
      exact .freed (.inr ⟨_, ties_of_heldBy (heldBy_of_holder fits (source.symm.trans from_))⟩) none (state ▸ loose_settled _)
    · rw [if_neg from_, if_neg target] at state
      refine .kept (fun st => ?_) state
      rw [none, ties_eq_false]
      · rw [Bool.eq_false_iff]
        exact fun held => from_ (source.trans ((heldBy_iff _ _).1 held).2)
      · rw [Bool.eq_false_iff]
        intro ht
        obtain ⟨r, hr, hc⟩ := (targets_iff _ c).1 ht
        obtain rfl := Option.some.inj (hh.symm.trans hr)
        exact target hc

/-- A handover's start leaves its record on its entry, and its chair target OFFERED or ENGAGING. -/
theorem startHandover_entry (i j : Slot) (h : Handover) (s : State) :
    (startHandover i h s).entry j = if i = j then { s.entry i with handover := some h } else s.entry j := by
  have placed : (s.withRecord i h).entry j = if i = j then { s.entry i with handover := some h } else s.entry j :=
    State.entry_setEntry _ i _ j
  rw [startHandover_eq]
  split <;> exact placed

theorem startHandover_chair (i : Slot) (h : Handover) (s : State) (d : ChairId) :
    (startHandover i h s).chair d =
      if h.target = .chair d then { s.chair d with state := if h.phase = .offering then .offered else .engaging } else s.chair d := by
  rw [startHandover_eq]
  cases ht : h.target with
  | auto => rfl
  | chair t =>
    rcases eq_or_ne t d with rfl | hd
    · simp
    · simp only [Party.chair.injEq, hd, if_false]
      exact State.chair_setChair_of_ne _ _ hd

theorem startHandover_oneHolder (hs : s.OneHolderLaw) {h : Handover} (free : (s.entry i).handover = none)
    (target : ∀ t, h.target = .chair t → s.available t = true) : (startHandover i h s).OneHolderLaw := by
  have others {j : Slot} (hj : j ≠ i) : (startHandover i h s).entry j = s.entry j := by rw [startHandover_entry, if_neg hj.symm]
  have entry : (startHandover i h s).entry i = { s.entry i with handover := some h } := by rw [startHandover_entry, if_pos rfl]
  refine oneHolderLaw_of_retied hs (fun j => others) fun c tied => ?_
  by_cases ht : h.target = .chair c
  · have loose := loose_of_available (target c ht)
    have notHeld : ¬ ((s.entry i).state = .held ∧ (s.entry i).holder = some (.chair c)) := fun held => by
      rw [tied.told (ties_of_heldBy ((heldBy_iff _ c).2 held))] at loose
      cases loose
    refine .inr ⟨.inl loose, fun st => ?_⟩
    rw [entry, ties_iff, startHandover_chair, if_pos ht]
    constructor
    · rintro (⟨-, held⟩ | ⟨r, hr, -, rfl⟩)
      · exact absurd held notHeld
      · obtain rfl := Option.some.inj hr
        split <;> exact ⟨rfl, rfl⟩
    · rintro ⟨rfl, -⟩
      exact .inr ⟨h, rfl, ht, rfl⟩
  · refine .kept (fun st => ?_) (by rw [startHandover_chair, if_neg ht])
    rw [entry, Bool.eq_iff_iff, ties_iff, ties_iff]
    simp only [free, Option.some.injEq, reduceCtorEq, false_and, exists_false, or_false]
    refine or_iff_left ?_
    rintro ⟨r, rfl, hc, -⟩
    exact ht hc

/-- An ACCEPT moves the record and its target from the offer to the gate. -/
theorem accept_oneHolder (hs : s.OneHolderLaw) (h : offeredTo i c s = true) :
    ((moveToGating i s).setChairState c .engaging).OneHolderLaw := by
  obtain ⟨r, hr, phase, target⟩ : ∃ r, (s.entry i).handover = some r ∧ r.phase = .offering ∧ r.target = .chair c := by
    unfold offeredTo at h
    cases hr : (s.entry i).handover <;> simp_all
  have entry : ((moveToGating i s).setChairState c .engaging).entry i =
      { s.entry i with handover := some { r with phase := .gating, deadline := s.policy.gateTimeout } } := by
    simp [State.setChairState, State.modChair, moveToGating, State.modEntry, hr]
  refine oneHolderLaw_of_retied hs (fun j hj => State.entry_setEntry_of_ne _ _ hj.symm) fun d tied => ?_
  rcases eq_or_ne c d with rfl | hd
  · have targets : (s.entry i).targets c = true := (targets_iff _ c).2 ⟨r, hr, target⟩
    have ⟨st, _, ties⟩ := ties_of_targets targets
    have notHeld := mt (heldBy_iff _ c).2 (Bool.eq_false_iff.1 (tied.not_heldBy targets))
    refine .inr ⟨.inr ⟨st, ties⟩, fun st => ?_⟩
    rw [entry, ties_iff, chair_setChairState, if_pos rfl]
    constructor
    · rintro (⟨-, held⟩ | ⟨k, hk, -, rfl⟩)
      · exact absurd held notHeld
      · obtain rfl := Option.some.inj hk
        exact ⟨rfl, rfl⟩
    · rintro ⟨rfl, -⟩
      exact .inr ⟨_, rfl, target, rfl⟩
  · refine .kept (fun st => ?_) (by rw [chair_setChairState, if_neg hd]; rfl)
    have other (k : Handover) (hk : k.target = r.target) : k.target ≠ .chair d := by simpa [hk, target] using hd
    rw [entry, Bool.eq_iff_iff, ties_iff, ties_iff]
    refine or_congr_right ⟨?_, ?_⟩
    · rintro ⟨k, hk, hc, -⟩
      obtain rfl := Option.some.inj hk
      exact absurd hc (other _ rfl)
    · rintro ⟨k, hk, hc, -⟩
      obtain rfl := Option.some.inj (hr.symm.trans hk)
      exact absurd hc (other _ rfl)

/-! ### A chair whose link goes down -/

/-- A chair that nothing ties may take any state of a chair that holds nothing. -/
theorem setChair_oneHolder (hs : s.OneHolderLaw) {x : Chair} (before : (s.chair c).state.loose = true) (after : x.state.loose = true) :
    (s.setChair c x).OneHolderLaw :=
  (Still.setChair s c (.inr ⟨before, after⟩)).oneHolder hs

theorem heldSlot_none_iff (s : State) (c : ChairId) : s.heldSlot c = none ↔ ∀ i, (s.entry i).heldBy c = false := by
  simp [State.heldSlot, allSlots]

theorem targetSlot_none_iff (s : State) (c : ChairId) : s.targetSlot c = none ↔ ∀ i, (s.entry i).targets c = false := by
  simp [State.targetSlot, allSlots]

theorem heldBy_of_heldSlot (h : s.heldSlot c = some i) : (s.entry i).heldBy c = true :=
  List.find?_some (p := fun i => (s.entry i).heldBy c) h

theorem targets_of_targetSlot (h : s.targetSlot c = some i) : (s.entry i).targets c = true :=
  List.find?_some (p := fun i => (s.entry i).targets c) h

/-- A chair that holds no entry and is the target of none is OFFLINE, IDLE or READY. -/
theorem State.Tied.loose (tied : s.Tied c) (held : s.heldSlot c = none) (target : s.targetSlot c = none) :
    (s.chair c).state.loose = true := by
  by_contra tight
  obtain ⟨i, ties⟩ := tied.tied (by simpa using tight)
  rw [ties_eq_false ((heldSlot_none_iff s c).1 held i) ((targetSlot_none_iff s c).1 target i)] at ties
  cases ties

theorem dropHolder_oneHolder (hs : s.OneHolderLaw) {lost : Code} : (dropHolder i lost s).OneHolderLaw := by
  refine leave_oneHolder hs ?_
  rw [leave_entry, if_pos rfl]
  exact vacate_vacated rfl (by decide) (by decide)

/-- A holder that is dropped is returned to READY or IDLE. -/
theorem loose_dropHolder (held : (s.entry i).heldBy c = true) (lost : Code) : ((dropHolder i lost s).chair c).state.loose = true := by
  unfold dropHolder
  rw [leave_chair_state, if_pos ((heldBy_iff _ _).1 held)]
  exact loose_settled _

theorem loose_abandon (target : (s.entry i).targets c = true) (cause : Code) : ((abandon i cause s).chair c).state.loose = true := by
  rw [abandon_chair_state, if_pos target]
  exact loose_settled _

/-- Once its loader and its handover are ended, nothing ties the chair. -/
theorem targetingAbandoned_loose (hs : s.OneHolderLaw) (loose : s.heldSlot c = none ∨ (s.chair c).state.loose = true) :
    ((targetingAbandoned c s).chair c).state.loose = true := by
  unfold targetingAbandoned
  split
  next i h => exact loose_abandon (targets_of_targetSlot h) _
  next h => exact loose.elim (fun held => ((chairFits_iff_tied s c).1 (hs c)).loose held h) id

theorem targetingAbandoned_oneHolder (hs : s.OneHolderLaw) (c : ChairId) : (targetingAbandoned c s).OneHolderLaw := by
  unfold targetingAbandoned
  split
  · exact abandon_oneHolder hs _ _
  · exact hs

theorem holdingDropped_oneHolder (hs : s.OneHolderLaw) (c : ChairId) : (holdingDropped c s).OneHolderLaw := by
  unfold holdingDropped
  split
  · exact dropHolder_oneHolder hs
  · exact hs

theorem holdingDropped_loose (c : ChairId) (s : State) :
    (holdingDropped c s).heldSlot c = none ∨ ((holdingDropped c s).chair c).state.loose = true := by
  unfold holdingDropped
  split
  next i h => exact .inr (loose_dropHolder (heldBy_of_heldSlot h) _)
  next h => exact .inl h

theorem chairOffline_oneHolder (hs : s.OneHolderLaw) (c : ChairId) : (chairOffline c s).OneHolderLaw := by
  have dropped := holdingDropped_oneHolder ((portWiped_still c s).oneHolder hs) c
  rw [chairOffline_eq]
  exact setChair_oneHolder (targetingAbandoned_oneHolder dropped c)
    (targetingAbandoned_loose dropped (holdingDropped_loose c (portWiped c s))) rfl

/-! ### Resets -/

theorem oneHolder_of_vacated {t : State} (entries : ∀ i, (t.entry i).Vacated) (chairs : ∀ c, (t.chair c).state.loose = true) :
    t.OneHolderLaw := fun c => by
  refine (chairFits_iff_tied t c).2 ⟨fun {i st} h => ?_, fun {i j st} h => ?_, fun h => ?_⟩
  · rw [(entries i).ties] at h
    cases h
  · rw [(entries i).ties] at h
    cases h
  · rw [chairs c] at h
    cases h

theorem Blanked.vacated {s t : State} (h : Blanked s t) (i : Slot) : (t.entry i).Vacated := by
  rw [entry_reset h.entries]
  exact blank_vacated (by decide) (by decide)

theorem Blanked.loose {s t : State} (h : Blanked s t) (c : ChairId) : (t.chair c).state.loose = true := by
  obtain ⟨bytes, hc⟩ := h.chairs c
  rw [hc]
  rfl

/-- Discovery starts of a reset leave every entry vacated and every chair as it was. -/
theorem foldl_beginReads_vacated (idle : Slot → Prop) [DecidablePred idle] (l : List Slot) {s : State} (hs : ∀ i, (s.entry i).Vacated) :
    let t := l.foldl (fun t i => if idle i then t else beginReads i (t.setEntry i (Entry.blank .discovering))) s
    (∀ i, (t.entry i).Vacated) ∧ t.chairs = s.chairs := by
  induction l generalizing s with
  | nil => exact ⟨hs, rfl⟩
  | cons i l ih =>
    rw [List.foldl_cons]
    split
    · exact ih hs
    · refine ih fun j => ?_
      show ((s.setEntry i (Entry.blank .discovering)).entry j).Vacated
      rw [State.entry_setEntry]
      split
      · exact blank_vacated (by decide) (by decide)
      · exact hs j

theorem resetKeepAll_vacated (s : State) : (∀ i, ((resetKeepAll s).entry i).Vacated) ∧ (resetKeepAll s).chairs = (resetKeepBlocks s).chairs :=
  foldl_beginReads_vacated (fun i => (s.entry i).state = .empty) allSlots (resetKeepBlocks_blanked s).vacated

/-! ### Every move -/

theorem createCall_entry (r : CallReason) (s : State) (i j : Slot) :
    (createCall i r s).entry j =
      if i = j then { s.entry i with handover := (s.entry i).handover.map fun h => { h with callAttached := true } } else s.entry j := by
  unfold createCall
  dsimp only
  split
  · exact State.entry_setEntry _ i _ j
  next none =>
    have absent : (s.entry i).handover = Option.none := by simpa using none
    split
    next hj =>
      rw [← hj]
      show s.entry i = _
      rw [absent, Option.map_none, ← absent]
    next => rfl

theorem createCall_chair (i : Slot) (r : CallReason) (s : State) (c : ChairId) : (createCall i r s).chair c = s.chair c := by
  unfold createCall
  dsimp only
  split <;> rfl

/-- An attached call leaves the phase, the target and the source of a record. -/
theorem ties_attached (e : Entry) (c : ChairId) (st : ChairState) :
    ({ e with handover := e.handover.map fun h => { h with callAttached := true } } : Entry).ties c st = e.ties c st := by
  cases hh : e.handover <;> cases st <;> simp [Entry.ties, Entry.heldBy, Entry.targetsIn, hh]

theorem createCall_oneHolder (hs : s.OneHolderLaw) (i : Slot) (r : CallReason) : (createCall i r s).OneHolderLaw := by
  refine oneHolderLaw_of_retied hs (fun j hj => by rw [createCall_entry, if_neg hj.symm]) fun c _ => .kept (fun st => ?_) ?_
  · rw [createCall_entry, if_pos rfl, ties_attached]
  · rw [createCall_chair]

theorem raiseCall_frame (k : Call) (r : CallReason) (s : State) : (raiseCall k r s).entries = s.entries ∧ (raiseCall k r s).chairs = s.chairs := by
  unfold raiseCall
  split
  · dsimp only
    split <;> exact ⟨rfl, rfl⟩
  · exact ⟨rfl, rfl⟩

theorem raiseCall_entry (k : Call) (r : CallReason) (s : State) (i : Slot) : (raiseCall k r s).entry i = s.entry i := by
  rw [State.entry, (raiseCall_frame k r s).1]
  rfl

/-- What leaves the tables of entries and chairs as they were keeps the law. -/
theorem oneHolderLaw_of_tables {s t : State} (hs : s.OneHolderLaw) (entries : t.entries = s.entries) (chairs : t.chairs = s.chairs) :
    t.OneHolderLaw :=
  oneHolderLaw_of_records hs (fun i => by rw [State.entry, entries]; rfl) fun c => by rw [State.chair, chairs]; rfl

theorem notify_service_frame (n : Notice) (s : State) :
    (∀ i, (s.notify .service n).entry i = s.entry i) ∧ ∀ c, (s.notify .service n).chair c = s.chair c :=
  ⟨(send_table .service _ s).entry, fun c => chair_send_service s c _⟩

/-- A refusal writes one entry, and no chair. -/
theorem refuse_entry (i : Slot) (cause : Code) (s : State) (j : Slot) :
    (refuse i cause s).entry j = (s.modEntry i (Entry.vacate .refused)).entry j := by
  unfold refuse
  rw [(notify_service_frame _ _).1]
  rfl

theorem refuse_chair (i : Slot) (cause : Code) (s : State) (c : ChairId) : (refuse i cause s).chair c = s.chair c := by
  unfold refuse
  rw [(notify_service_frame _ _).2]
  rfl

theorem refuse_oneHolder (hs : s.OneHolderLaw) (fits : s.SlotFits i) (cause : Code) (h : ¬ (s.context i).Idle) :
    (refuse i cause s).OneHolderLaw := by
  have discovering := discovering_of_not_idle fits h
  have none := fits.no_record (by rw [discovering]; rfl)
  have vacated : (s.modEntry i (Entry.vacate .refused)).OneHolderLaw := by
    refine setEntry_oneHolder hs fun c st => ?_
    rw [(vacate_vacated none (by decide) (by decide)).ties, ties_of_apart (by simp [discovering]) none]
  exact oneHolderLaw_of_records vacated (refuse_entry i cause s) (refuse_chair i cause s)

end

theorem Move.oneHolder {s t : State} (h : Move ChairWrite s t) (fits : ∀ i, s.SlotFits i) (source : s.SourceLaw) (hs : s.OneHolderLaw) :
    t.OneHolderLaw := by
  cases h with
  | still h => exact (h true).still.oneHolder hs
  | abandon i cause => exact abandon_oneHolder hs i cause
  | leave i cause lost after vacates => exact leave_oneHolder hs (leave_vacated after vacates).1
  | discover i => exact startDiscovery_oneHolder hs i
  | transfer i hh => exact transfer_oneHolder hs (fits i) hh (source i _ hh)
  | start i free target => exact startHandover_oneHolder hs free target
  | accept i c h => exact accept_oneHolder hs h
  | place i after before =>
    refine setEntry_oneHolder hs fun c st => ?_
    have apart : (s.entry i).state ≠ .held ∧ (s.entry i).state.carries = false := by
      rcases before with h | ⟨h, -⟩ | ⟨h, -⟩ <;> rw [h] <;> exact ⟨by decide, rfl⟩
    have none := (fits i).no_record apart.2
    rw [ties_of_apart apart.1 none]
    rcases after with rfl | rfl <;> exact (vacate_vacated none (by decide) (by decide)).ties c st
  | lost i n => exact oneHolderLaw_of_tables hs rfl rfl
  | refuse i cause h => exact refuse_oneHolder hs (fits i) cause h
  | forget i h =>
    have lost := linkLost_of_forget_ne (fits i) h
    have emptied : (s.setEntry i (Entry.blank .empty)).OneHolderLaw := by
      refine setEntry_oneHolder hs fun c st => ?_
      rw [(blank_vacated (by decide) (by decide)).ties, ties_of_apart (by simp [lost]) ((fits i).no_record (by rw [lost]; rfl))]
    exact oneHolderLaw_of_tables emptied rfl rfl
  | create i r => exact createCall_oneHolder hs i r
  | raise r => exact oneHolderLaw_of_tables hs (raiseCall_frame _ r s).1 (raiseCall_frame _ r s).2
  | remove i => exact oneHolderLaw_of_tables hs rfl rfl
  | reset h => exact oneHolder_of_vacated h.vacated h.loose
  | resetKeep =>
    obtain ⟨vacated, chairs⟩ := resetKeepAll_vacated s
    refine oneHolder_of_vacated vacated fun c => ?_
    rw [State.chair, chairs]
    exact (resetKeepBlocks_blanked s).loose c
  | offline c => exact chairOffline_oneHolder hs c

/-! ### The source of a record (R28) -/

/-- The source of an entry's record is the entry's holder. -/
abbrev Entry.SourceFits (e : Entry) : Prop := ∀ h ∈ e.handover, h.source = e.holder

theorem sourceFits_of_none {e : Entry} (h : e.handover = none) : e.SourceFits := by simp [Entry.SourceFits, h]

section
variable {s : State}

/-- The records of the other slots stand as they were. -/
theorem sourceLaw_of_change {s t : State} {i : Slot} (hs : s.SourceLaw) (others : ∀ j ≠ i, t.entry j = s.entry j)
    (own : (t.entry i).SourceFits) : t.SourceLaw := fun j => by
  rcases eq_or_ne j i with rfl | hj
  · exact own
  · rw [others j hj]
    exact hs j

theorem sourceLaw_of_same {s t : State} (hs : s.SourceLaw) (holder : ∀ i, (t.entry i).holder = (s.entry i).holder)
    (handover : ∀ i, (t.entry i).handover = (s.entry i).handover) : t.SourceLaw := fun i => by
  rw [holder, handover]
  exact hs i

theorem sourceLaw_of_entries {s t : State} (hs : s.SourceLaw) (entry : ∀ i, t.entry i = s.entry i) : t.SourceLaw :=
  sourceLaw_of_same hs (fun i => by rw [entry]) fun i => by rw [entry]

theorem abandon_source (hs : s.SourceLaw) (i : Slot) (cause : Code) : (abandon i cause s).SourceLaw :=
  sourceLaw_of_change hs (fun _ hj => abandon_entry_of_ne hj cause s) (sourceFits_of_none (by rw [abandon_entry_self]))

theorem leave_source (hs : s.SourceLaw) {i : Slot} {cause : Code} {lost : Option Code} {f : Entry → Entry}
    (vacated : ((leave i cause lost f s).entry i).Vacated) : (leave i cause lost f s).SourceLaw :=
  sourceLaw_of_change hs (fun _ hj => leave_entry_of_ne hj ..) (sourceFits_of_none vacated.handover)

theorem startDiscovery_source (hs : s.SourceLaw) (i : Slot) : (startDiscovery i s).SourceLaw := by
  have left : (leave i .loaderRestart (some .loaderRestart) (fun _ => Entry.blank .discovering) s).SourceLaw := by
    refine leave_source hs ?_
    rw [leave_entry, if_pos rfl]
    exact blank_vacated (by decide) (by decide)
  exact sourceLaw_of_entries left (beginReads_entry i _)

theorem chairOffline_source (hs : s.SourceLaw) (c : ChairId) : (chairOffline c s).SourceLaw := by
  have wiped : (portWiped c s).SourceLaw := sourceLaw_of_same hs (portWiped_still c s).holder (portWiped_still c s).handover
  have dropped : (holdingDropped c (portWiped c s)).SourceLaw := by
    unfold holdingDropped
    split
    · refine leave_source wiped ?_
      rw [leave_entry, if_pos rfl]
      exact vacate_vacated rfl (by decide) (by decide)
    · exact wiped
  have abandoned : (targetingAbandoned c (holdingDropped c (portWiped c s))).SourceLaw := by
    unfold targetingAbandoned
    split
    · exact abandon_source dropped _ _
    · exact dropped
  have cut (u : State) (x : Chair) (hu : u.SourceLaw) : (u.setChair c x).due.SourceLaw := hu
  rw [chairOffline_eq]
  exact cut _ _ abandoned

end

theorem Move.source {s t : State} (h : Move ChairWrite s t) (fits : ∀ i, s.SlotFits i) (hs : s.SourceLaw) : t.SourceLaw := by
  cases h with
  | still h => exact sourceLaw_of_same hs (h true).still.holder (h true).still.handover
  | abandon i cause => exact abandon_source hs i cause
  | leave i cause lost after vacates => exact leave_source hs (leave_vacated after vacates).1
  | discover i => exact startDiscovery_source hs i
  | transfer i hh =>
    refine sourceLaw_of_change hs (fun j hj => by rw [transfer_entry, if_neg hj.symm]) (sourceFits_of_none ?_)
    rw [transfer_entry_self]
    rfl
  | start i free target source =>
    refine sourceLaw_of_change hs (fun j hj => by rw [startHandover_entry, if_neg hj.symm]) ?_
    rw [startHandover_entry, if_pos rfl]
    have holder := (fits i).holder
    rintro _ ⟨⟩
    rcases source with ⟨state, none⟩ | ⟨auto, source⟩ | ⟨c, held, source⟩
    · rw [none]
      unfold Entry.holderFits at holder
      rw [state] at holder
      exact (Option.isNone_iff_eq_none.1 holder).symm
    · have auto : (s.entry i).state = .auto := auto.elim id (fits i).caller
      unfold Entry.holderFits at holder
      rw [auto] at holder
      rw [source]
      revert holder
      show _ → _ = (s.entry i).holder
      rcases (s.entry i).holder with _ | _ | _ <;> simp
    · rw [source]
      exact ((heldBy_iff _ _).1 held).2.symm
  | accept i c h =>
    refine sourceLaw_of_change hs (fun j hj => State.entry_setEntry_of_ne _ _ hj.symm) ?_
    have entry : ((moveToGating i s).setChairState c .engaging).entry i =
        { s.entry i with handover := (s.entry i).handover.map fun h => { h with phase := .gating, deadline := s.policy.gateTimeout } } :=
      State.entry_setEntry_self ..
    rw [entry]
    intro k hk
    obtain ⟨r, hr, rfl⟩ := Option.map_eq_some_iff.1 hk
    exact hs i r hr
  | place i after before =>
    have none := (fits i).no_record (i := i) (by rcases before with h | ⟨h, -⟩ | ⟨h, -⟩ <;> rw [h] <;> rfl)
    refine sourceLaw_of_change hs (fun j hj => State.entry_setEntry_of_ne _ _ hj.symm) (sourceFits_of_none ?_)
    rw [State.modEntry, State.entry_setEntry_self]
    exact none
  | lost i n => exact hs
  | refuse i cause h =>
    have none := (fits i).no_record (i := i) (by rw [discovering_of_not_idle (fits i) h]; rfl)
    have vacated : (s.modEntry i (Entry.vacate .refused)).SourceLaw := by
      refine sourceLaw_of_change hs (fun j hj => State.entry_setEntry_of_ne _ _ hj.symm) (sourceFits_of_none ?_)
      rw [State.modEntry, State.entry_setEntry_self]
      exact none
    exact sourceLaw_of_entries vacated (refuse_entry i cause s)
  | forget i h =>
    refine sourceLaw_of_change hs (fun j hj => State.entry_setEntry_of_ne _ _ hj.symm) (sourceFits_of_none ?_)
    exact congrArg Entry.handover (State.entry_setEntry_self s i (Entry.blank .empty))
  | create i r =>
    refine sourceLaw_of_change hs (fun j hj => by rw [createCall_entry, if_neg hj.symm]) ?_
    rw [createCall_entry, if_pos rfl]
    intro k hk
    obtain ⟨r, hr, rfl⟩ := Option.map_eq_some_iff.1 hk
    exact hs i r hr
  | raise r => exact sourceLaw_of_entries hs (raiseCall_entry _ r s)
  | remove i => exact hs
  | reset h => exact fun i => sourceFits_of_none (h.vacated i).handover
  | resetKeep => exact fun i => sourceFits_of_none ((resetKeepAll_vacated s).1 i).handover
  | offline c => exact chairOffline_source hs c

end Sys2Proof.Machine

namespace Sys2Proof.Settled

open Sys2Proof.Machine

/-- Settles O52: each move ties and frees chairs at one slot alone, and the chair's state follows. -/
theorem stepsKeepOneHolder : Obligations.StepsKeepOneHolder := fun _ _ h authority source one =>
  (step_keeps (P := fun s => (∀ i, s.SlotFits i) ∧ s.SourceLaw ∧ s.OneHolderLaw)
    (fun hm ⟨fits, source, one⟩ => ⟨hm.slotFits fits, hm.source fits source, hm.oneHolder fits source one⟩)
    (fun _ _ ⟨fits, source, one⟩ => ⟨fun i => { fits i with }, source, one⟩) h ⟨(authorityLaw_iff _).1 authority, source, one⟩).2

end Sys2Proof.Settled
end


section
/-! SUPPORT. The call queue under every move: sorted by class, one call a loader, each reserved exactly with its loader's record. -/

namespace Sys2Proof.Machine

/-! ### The call queue after each operation -/

section
variable {s : State} {i : Slot}

/-- What an abandonment makes of a call of its slot (R63). -/
def Call.released (h : Handover) (cause : Code) (k : Call) : Call :=
  { k with
    reserved := false
    declined :=
      match h.kind, h.target with
      | .claim, .chair t => if cause.joinsDeclined then addChair k.declined t else k.declined
      | _, _ => k.declined }

theorem abandon_calls_eq {h : Handover} (hh : (s.entry i).handover = some h) (cause : Code) :
    (abandon i cause s).calls =
      if h.callAttached = true ∧ cause.releasesCall = true then s.calls.map fun k => if k.slot = i then k.released h cause else k
      else s.calls := by
  rw [abandon_calls cause hh]
  unfold callReleased
  simp only [Bool.and_eq_true]
  split
  · exact List.map_congr_left fun k _ => by
      unfold Call.released
      cases h.kind <;> cases h.target <;> simp
  · rfl

/-- An abandonment leaves the calls of the other slots. -/
theorem abandon_calls_filter (i : Slot) (cause : Code) (s : State) :
    (abandon i cause s).calls.filter (fun k => k.slot ≠ i) = s.calls.filter fun k => k.slot ≠ i := by
  cases hh : (s.entry i).handover with
  | none => rw [abandon_of_none cause hh]
  | some h =>
    rw [abandon_calls_eq hh]
    split
    · rw [List.filter_map]
      have slot (k : Call) : ((fun k : Call => decide (k.slot ≠ i)) ∘ fun k : Call => if k.slot = i then k.released h cause else k) k =
          decide (k.slot ≠ i) := by
        simp only [Function.comp_apply]
        split <;> rfl
      rw [funext slot]
      refine (List.map_congr_left fun k hk => ?_).trans (List.map_id _)
      have other : k.slot ≠ i := by simpa using (List.mem_filter.1 hk).2
      exact if_neg other
    · rfl

theorem calls_filter_of_not_mem (h : i ∉ s.callers) : s.calls.filter (fun k => k.slot ≠ i) = s.calls := by
  refine List.filter_eq_self.2 fun k hk => ?_
  simpa using fun same : k.slot = i => h (same ▸ List.mem_map_of_mem hk)

/-- A loader that leaves authority takes its call along, and no other. -/
theorem leave_calls (fits : s.SlotFits i) (cause : Code) (lost : Option Code) (f : Entry → Entry) :
    (leave i cause lost f s).calls = s.calls.filter fun k => k.slot ≠ i := by
  have kept := abandon_calls_filter i cause s
  rw [(leave_desk i cause lost f s).1]
  split
  · exact kept
  next other =>
    have absent : i ∉ (abandon i cause s).callers := mt (abandon_easesAt i cause s i).caller (fits.not_called other)
    rwa [calls_filter_of_not_mem absent] at kept

theorem transfer_calls (i : Slot) (h : Handover) (s : State) : (transfer i h s).calls = s.calls.filter fun k => k.slot ≠ i := by
  rw [(transfer_desk i h s).1.2.1, ← slot_bne]
  rfl

theorem startHandover_calls (i : Slot) (h : Handover) (s : State) :
    (startHandover i h s).calls =
      if h.callAttached then s.calls.map (fun k => if k.slot = i then { k with reserved := true } else k) else s.calls := by
  rw [startHandover_eq]
  split <;> rfl

end

/-! ### The laws of the queue (R58, R63) -/

/-- The call queue is in order and its reservations are those of the records. -/
abbrev State.CallsFit (s : State) : Prop := s.CallQueueLaw ∧ s.ReservedLaw

section
variable {s t : State} {i : Slot}

theorem callQueueLaw_of_marks (hs : s.CallQueueLaw) (slot : t.calls.map (·.slot) = s.calls.map (·.slot))
    (reason : t.calls.map (·.reason) = s.calls.map (·.reason)) : t.CallQueueLaw := by
  obtain ⟨sorted, once⟩ := hs
  have classes (q : List Call) : q.Pairwise (fun a b => callClass a.reason ≤ callClass b.reason) ↔
      (q.map (·.reason)).Pairwise fun a b => callClass a ≤ callClass b := by
    rw [List.pairwise_map]
  exact ⟨(classes _).2 (reason ▸ (classes _).1 sorted), slot ▸ once⟩

theorem callsFit_of_map {g : Call → Call} (hs : s.CallQueueLaw) (calls : t.calls = s.calls.map g)
    (slot : ∀ k, (g k).slot = k.slot) (reason : ∀ k, (g k).reason = k.reason)
    (reserved : ∀ k ∈ s.calls, (g k).reserved = (t.entry k.slot).handover.isSome ∧
      ∀ h ∈ (t.entry k.slot).handover, h.callAttached = true) : t.CallsFit := by
  refine ⟨callQueueLaw_of_marks hs ?_ ?_, fun k hk => ?_⟩
  · rw [calls, List.map_map]
    exact List.map_congr_left fun k _ => slot k
  · rw [calls, List.map_map]
    exact List.map_congr_left fun k _ => reason k
  · rw [calls] at hk
    obtain ⟨d, hd, rfl⟩ := List.mem_map.1 hk
    rw [slot]
    exact reserved d hd

theorem callsFit_of_sublist (hs : s.CallsFit) (calls : t.calls.Sublist s.calls)
    (handover : ∀ k ∈ t.calls, (t.entry k.slot).handover = (s.entry k.slot).handover) : t.CallsFit := by
  obtain ⟨⟨sorted, once⟩, reserved⟩ := hs
  refine ⟨⟨sorted.sublist calls, once.sublist (calls.map _)⟩, fun k hk => ?_⟩
  rw [handover k hk]
  exact reserved k (calls.subset hk)

/-- An operation at one slot that takes its call along. -/
theorem callsFit_of_filter (hs : s.CallsFit) (calls : t.calls = s.calls.filter fun k => k.slot ≠ i)
    (others : ∀ j ≠ i, t.entry j = s.entry j) : t.CallsFit := by
  refine callsFit_of_sublist hs (calls ▸ List.filter_sublist) fun k hk => ?_
  rw [calls] at hk
  rw [others k.slot (by simpa using (List.mem_filter.1 hk).2)]

/-- What leaves the queue as it was, and the records of the loaders in it. -/
theorem callsFit_of_same (hs : s.CallsFit) (calls : t.calls = s.calls)
    (handover : ∀ i ∈ s.callers, (t.entry i).handover = (s.entry i).handover) : t.CallsFit :=
  callsFit_of_sublist hs (calls ▸ List.Sublist.refl _) fun k hk => handover k.slot (List.mem_map_of_mem (calls ▸ hk))

theorem Still.callsFit (h : Still s t) (hs : s.CallsFit) : t.CallsFit := by
  have marks {α : Type} (g : Slot × CallReason × Bool → α) : t.calls.map (g ∘ Call.mark) = s.calls.map (g ∘ Call.mark) := by
    rw [← List.map_map, ← List.map_map, h.calls]
  refine ⟨callQueueLaw_of_marks hs.1 (marks Prod.fst) (marks fun m => m.2.1), fun k hk => ?_⟩
  have mark : k.mark ∈ s.calls.map Call.mark := h.calls ▸ List.mem_map_of_mem hk
  obtain ⟨d, hd, same⟩ := List.mem_map.1 mark
  obtain ⟨slot, -, reserved⟩ : d.slot = k.slot ∧ d.reason = k.reason ∧ d.reserved = k.reserved := by simpa [Call.mark] using same
  have fits := hs.2 d hd
  rwa [← slot, ← reserved, h.handover]

theorem abandon_callsFit (hs : s.CallsFit) (i : Slot) {cause : Code} (h : cause.releasesCall = true ∨ i ∉ s.callers) :
    (abandon i cause s).CallsFit := by
  cases hh : (s.entry i).handover with
  | none => rwa [abandon_of_none cause hh]
  | some r =>
    have own {k : Call} (hk : k ∈ s.calls) (slot : k.slot = i) : r.callAttached = true ∧ cause.releasesCall = true := by
      refine ⟨(hs.2 k hk).2 r (slot ▸ hh), h.resolve_right fun absent => absent (slot ▸ List.mem_map_of_mem hk)⟩
    by_cases released : r.callAttached = true ∧ cause.releasesCall = true
    · have calls := abandon_calls_eq hh cause
      rw [if_pos released] at calls
      refine callsFit_of_map hs.1 calls (fun k => ?_) (fun k => ?_) fun k hk => ?_
      · split <;> rfl
      · split <;> rfl
      · split
        next slot =>
          rw [slot, abandon_entry_self]
          exact ⟨rfl, by simp⟩
        next slot =>
          rw [abandon_entry_of_ne slot]
          exact hs.2 k hk
    · have calls := abandon_calls_eq hh cause
      rw [if_neg released] at calls
      refine callsFit_of_same hs calls fun j hj => ?_
      obtain ⟨k, hk, rfl⟩ := List.mem_map.1 hj
      rw [abandon_entry_of_ne fun slot => released (own hk slot)]

theorem leave_callsFit (hs : s.CallsFit) (fits : s.SlotFits i) (cause : Code) (lost : Option Code) (f : Entry → Entry) :
    (leave i cause lost f s).CallsFit :=
  callsFit_of_filter hs (leave_calls fits cause lost f) fun _ hj => leave_entry_of_ne hj ..

theorem beginReads_calls (i : Slot) (s : State) : (beginReads i s).calls = s.calls := rfl

theorem startDiscovery_callsFit (hs : s.CallsFit) (fits : s.SlotFits i) : (startDiscovery i s).CallsFit :=
  callsFit_of_same (leave_callsFit hs fits .loaderRestart (some .loaderRestart) fun _ => Entry.blank .discovering)
    (beginReads_calls i _)
    fun j _ => congrArg Entry.handover (beginReads_entry i _ j)

/-- A record that has the call attached reserves it. -/
theorem startHandover_attached_callsFit (hs : s.CallsFit) (i : Slot) {h : Handover} (attached : h.callAttached = true) :
    (startHandover i h s).CallsFit := by
  have calls := startHandover_calls i h s
  rw [if_pos attached] at calls
  refine callsFit_of_map hs.1 calls (fun k => ?_) (fun k => ?_) fun k hk => ?_
  · split <;> rfl
  · split <;> rfl
  · split
    next slot =>
      rw [slot, startHandover_entry, if_pos rfl]
      exact ⟨rfl, by simpa using attached⟩
    next slot =>
      rw [startHandover_entry, if_neg (Ne.symm slot)]
      exact hs.2 k hk

theorem startHandover_callsFit (hs : s.CallsFit) (fits : s.SlotFits i) {h : Handover} (free : (s.entry i).handover = none)
    (attached : h.callAttached = true ∨ ∀ k, s.findCall i = some k → (s.entry i).state = .auto → k.reserved = true) :
    (startHandover i h s).CallsFit := by
  cases ha : h.callAttached with
  | true => exact startHandover_attached_callsFit hs i ha
  | false =>
    have calls := startHandover_calls i h s
    rw [ha, if_neg (by simp)] at calls
    refine callsFit_of_same hs calls fun j hj => ?_
    rw [startHandover_entry, if_neg]
    rintro rfl
    obtain ⟨k, hk⟩ : ∃ k, s.findCall i = some k := by
      obtain ⟨k, hk, slot⟩ := List.mem_map.1 hj
      exact Option.isSome_iff_exists.1 (List.find?_isSome.2 ⟨k, hk, by simpa using slot⟩)
    have reserved := attached.resolve_left (by simp [ha]) k hk (fits.caller hj)
    have fit := (hs.2 k (List.mem_of_find?_eq_some hk)).1
    rw [slot_of_findCall hk, free, reserved] at fit
    cases fit

/-- A call that joins the queue, of a loader that has none, with the reservation that its loader's record calls for. -/
theorem insertCall_callsFit (hs : s.CallsFit) {k : Call} (new : k.slot ∉ s.callers) (calls : t.calls = insertCall k s.calls)
    (own : k.reserved = (t.entry k.slot).handover.isSome ∧ ∀ h ∈ (t.entry k.slot).handover, h.callAttached = true)
    (others : ∀ j ≠ k.slot, t.entry j = s.entry j) : t.CallsFit := by
  have perm := insertCall_perm k s.calls
  refine ⟨⟨?_, ?_⟩, fun d hd => ?_⟩
  · rw [calls]
    exact insertCall_sorted k s.calls hs.1.1
  · rw [calls, (perm.map _).nodup_iff, List.map_cons, List.nodup_cons]
    exact ⟨new, hs.1.2⟩
  · rw [calls, perm.mem_iff, List.mem_cons] at hd
    rcases hd with rfl | hd
    · exact own
    · rw [others d.slot fun same => new (same ▸ List.mem_map_of_mem hd)]
      exact hs.2 d hd

theorem createCall_calls (i : Slot) (r : CallReason) (s : State) :
    (createCall i r s).calls =
      insertCall { slot := i, reason := r, reserved := (s.entry i).handover.isSome, declined := 0#6, unserved := 0 } s.calls := by
  unfold createCall
  dsimp only
  split <;> rfl

theorem not_mem_callers_of_findCall (h : s.findCall i = none) : i ∉ s.callers := by
  intro hi
  obtain ⟨k, hk, slot⟩ := List.mem_map.1 hi
  exact absurd slot (by simpa using List.find?_eq_none.1 h k hk)

theorem createCall_callsFit (hs : s.CallsFit) (new : s.findCall i = none) (r : CallReason) : (createCall i r s).CallsFit := by
  refine insertCall_callsFit hs (not_mem_callers_of_findCall new) (createCall_calls i r s) ?_ fun j hj => ?_
  · rw [createCall_entry, if_pos rfl]
    exact ⟨by simp, by simp⟩
  · rw [createCall_entry, if_neg (Ne.symm hj)]

theorem removeCall_callsFit (hs : s.CallsFit) (i : Slot) : (s.removeCall i).CallsFit :=
  callsFit_of_filter hs (congrArg (List.filter · s.calls) (slot_bne i)) fun _ _ => rfl

theorem raiseCall_callsFit (hs : s.CallsFit) {k : Call} (hk : s.findCall k.slot = some k) (r : CallReason) : (raiseCall k r s).CallsFit := by
  have moved : ({ s with calls := insertCall { k with reason := r } (s.removeCall k.slot).calls } : State).CallsFit :=
    insertCall_callsFit (k := { k with reason := r }) (removeCall_callsFit hs k.slot) (not_mem_callers_removeCall s k.slot) rfl
      (hs.2 k (List.mem_of_find?_eq_some hk)) fun _ _ => rfl
  unfold raiseCall
  split
  · dsimp only
    split
    · exact moved
    · exact callsFit_of_same moved rfl fun _ _ => rfl
  · exact hs

theorem chairOffline_callsFit (hs : s.CallsFit) (fits : ∀ i, s.SlotFits i) (c : ChairId) : (chairOffline c s).CallsFit := by
  have wiped := (portWiped_still c s).callsFit hs
  have dropped : (holdingDropped c (portWiped c s)).CallsFit := by
    unfold holdingDropped
    split
    next i _ => exact leave_callsFit wiped ((portWiped_still c s).slotFits (fits i)) ..
    next => exact wiped
  have abandoned : (targetingAbandoned c (holdingDropped c (portWiped c s))).CallsFit := by
    unfold targetingAbandoned
    split
    · exact abandon_callsFit dropped _ (.inl rfl)
    · exact dropped
  rw [chairOffline_eq]
  exact callsFit_of_same abandoned rfl fun _ _ => rfl

theorem callsFit_of_empty (h : t.calls = []) : t.CallsFit := by
  simp [State.CallsFit, State.CallQueueLaw, State.ReservedLaw, h]

theorem foldl_beginReads_calls (idle : Slot → Prop) [DecidablePred idle] (l : List Slot) (s : State) :
    (l.foldl (fun t i => if idle i then t else beginReads i (t.setEntry i (Entry.blank .discovering))) s).calls = s.calls := by
  induction l generalizing s with
  | nil => rfl
  | cons i l ih =>
    rw [List.foldl_cons, ih]
    split <;> rfl

theorem resetKeepAll_calls (s : State) : (resetKeepAll s).calls = [] :=
  foldl_beginReads_calls (fun i => (s.entry i).state = .empty) allSlots (resetKeepBlocks s)

theorem refuse_calls (i : Slot) (cause : Code) (s : State) : (refuse i cause s).calls = s.calls :=
  (send_table .service _ _).2.1

theorem calls_length_le (hs : s.CallQueueLaw) : s.calls.length ≤ 16 := by
  simpa using hs.2.length_le_card

end

theorem Move.callsFit {s t : State} (h : Move ChairWrite s t) (fits : ∀ i, s.SlotFits i) (hs : s.CallsFit) : t.CallsFit := by
  cases h with
  | still h => exact (h true).still.callsFit hs
  | abandon i cause h => exact abandon_callsFit hs i h
  | leave i cause lost => exact leave_callsFit hs (fits i) cause lost _
  | discover i => exact startDiscovery_callsFit hs (fits i)
  | transfer i => exact callsFit_of_filter hs (transfer_calls i _ s) fun j hj => by rw [transfer_entry, if_neg (Ne.symm hj)]
  | start i free target source attached => exact startHandover_callsFit hs (fits i) free attached
  | accept i c =>
    refine ⟨hs.1, fun k hk => ?_⟩
    have entry : ((moveToGating i s).setChairState c .engaging).entry k.slot = (moveToGating i s).entry k.slot := rfl
    rw [entry, moveToGating, State.modEntry, State.entry_setEntry]
    split
    next same => simpa [same] using hs.2 k hk
    next => exact hs.2 k hk
  | place i after before =>
    refine callsFit_of_same hs rfl fun j hj => ?_
    rw [State.modEntry, State.entry_setEntry]
    split
    next same => rw [← same]; rfl
    next => rfl
  | lost i n => exact callsFit_of_same hs rfl fun _ _ => rfl
  | refuse i cause h =>
    refine callsFit_of_same hs (refuse_calls i cause s) fun j hj => ?_
    rw [refuse_entry, State.modEntry, State.entry_setEntry]
    split
    next same => rw [← same]; rfl
    next => rfl
  | forget i h =>
    refine callsFit_of_same hs rfl fun j hj => ?_
    have other : i ≠ j := fun same => by
      have lost := linkLost_of_forget_ne (fits i) h
      have auto := (fits j).caller hj
      rw [← same, lost] at auto
      cases auto
    exact congrArg Entry.handover (State.entry_setEntry_of_ne s (Entry.blank .empty) other)
  | create i r auto new => exact createCall_callsFit hs new r
  | raise r hk => exact raiseCall_callsFit hs hk r
  | remove i => exact removeCall_callsFit hs i
  | reset h => exact callsFit_of_empty h.calls
  | resetKeep => exact callsFit_of_empty (resetKeepAll_calls s)
  | offline c => exact chairOffline_callsFit hs fits c

end Sys2Proof.Machine

namespace Sys2Proof.Settled

open Sys2Proof.Machine

/-- Settles O53: each move changes the queue at one slot alone, with that slot's record. -/
theorem stepsKeepTheCallQueue : Obligations.StepsKeepTheCallQueue := fun _ t h authority queue reserved => by
  obtain ⟨fits, calls⟩ := step_keeps (P := fun s => (∀ i, s.SlotFits i) ∧ s.CallsFit)
    (fun hm ⟨fits, calls⟩ => ⟨hm.slotFits fits, hm.callsFit fits calls⟩)
    (fun _ _ ⟨fits, calls⟩ => ⟨fun i => { fits i with }, calls⟩) h ⟨(authorityLaw_iff _).1 authority, queue, reserved⟩
  exact ⟨calls.1, calls.2, ((authorityLaw_iff t).2 fits).2.2.1, calls_length_le calls.1⟩

end Sys2Proof.Settled
end


section
/-! SUPPORT. A run of the dispatcher: what a visit does, what a run leaves alone, and the calls that a run leaves without an eligible chair. -/

namespace Sys2Proof.Machine

/-! ### The visit (R66) -/

section
variable {s : State} {i : Slot}

/-- An eligible chair is READY, PRESENT and allowed in the loader's zone, and the loader has reported. -/
theorem eligible_iff (k : Call) (c : ChairId) (s : State) :
    eligible k c s = true ↔ (s.chair c).state = .ready ∧ (s.chair c).presence = .present ∧ s.allowedAt k.slot c = true ∧
      hasChair k.declined c = false := by
  simp [eligible, State.isPresent, and_assoc]

theorem status_of_allowedAt {c : ChairId} (h : s.allowedAt i c = true) : ∃ ls, (s.entry i).status = some ls := by
  unfold State.allowedAt Entry.zone? at h
  cases hs : (s.entry i).status with
  | none => simp [hs] at h
  | some ls => exact ⟨ls, rfl⟩

/-- A visit passes the slot over, tests its call alone, or offers it to the chair chosen. -/
inductive Visit (s : State) (i : Slot) : State → Prop where
  | passed (h : ∀ k, s.findCall i = some k → k.reserved = true ∨ (s.entry i).handover ≠ none) : Visit s i s
  | tested {k : Call} (call : s.findCall i = some k) (unreserved : k.reserved = false) (free : (s.entry i).handover = none)
      (none : ∀ c, eligible (k.tested s) c s = false) : Visit s i (testSaturation k s)
  | offered {k : Call} {c : ChairId} {ls : LoaderStatus} (call : s.findCall i = some k) (unreserved : k.reserved = false)
      (free : (s.entry i).handover = none) (chosen : eligible (k.tested s) c s = true) (status : (s.entry i).status = some ls) :
      Visit s i (offerCall (k.tested s) c (testSaturation k s))

theorem eligible_eq_false_of_chooseChair {k : Call} (h : chooseChair k s = none) (c : ChairId) : eligible k c s = false := by
  have none := List.find?_eq_none.1 h (s.pointer + (c - s.pointer)) (List.mem_map_of_mem (List.mem_finRange _))
  simpa using none

theorem visitCall_visit (s : State) (i : Slot) : Visit s i (visitCall s i) := by
  cases hk : s.findCall i with
  | none =>
    have same : visitCall s i = s := by simp [visitCall, hk]
    rw [same]
    exact .passed fun k h => by simp [hk] at h
  | some k =>
    cases hr : k.reserved with
    | true =>
      rw [visitCall_of_reserved hk hr]
      exact .passed fun d h => .inl (by rwa [← Option.some.inj (hk.symm.trans h)])
    | false =>
      cases hn : (s.entry i).handover with
      | some h =>
        have same : visitCall s i = s := by simp [visitCall, hk, hn]
        rw [same]
        exact .passed fun _ _ => .inr (by simp [hn])
      | none =>
        cases hc : chooseChair (k.tested s) s with
        | none =>
          rw [visitCall_of_noChair hk hr hn hc]
          exact .tested hk hr hn (eligible_eq_false_of_chooseChair hc)
        | some c =>
          have chosen := eligible_of_chooseChair hc
          have allowed := ((eligible_iff _ _ _).1 chosen).2.2.1
          rw [Call.tested_slot, slot_of_findCall hk] at allowed
          obtain ⟨ls, status⟩ := status_of_allowedAt allowed
          rw [visitCall_of_chair hk hr hn hc]
          exact .offered hk hr hn chosen status

/-! ### What a run leaves alone -/

/-- A call as the dispatcher may leave it: in its place, with its declined set kept or emptied. -/
structure Call.Revisited (k d : Call) : Prop where
  slot : d.slot = k.slot
  reason : d.reason = k.reason
  declined : d.declined = k.declined ∨ d.declined = 0#6

/-- What visits of the dispatcher between `s` and `t` may have changed: unreserved calls, records placed on free entries of calls, chairs
that were READY and PRESENT, and the service port's queue. -/
structure Dispatched (s t : State) : Prop where
  elsewhere : SameElsewhere s t
  due : t.dispatchDue = s.dispatchDue
  calls : ∃ g : Call → Call, t.calls = s.calls.map g ∧
    ∀ k, k.Revisited (g k) ∧ ((g k).reserved = k.reserved ∨ (t.entry k.slot).handover ≠ none)
  entry : ∀ i, t.entry i = s.entry i ∨
    (i ∈ s.callers ∧ (s.entry i).handover = none ∧
      ∃ h c, t.entry i = { s.entry i with handover := some h } ∧ h.kind = .claim ∧ h.phase = .offering ∧ h.target = .chair c ∧
        s.allowedAt i c = true ∧ (s.chair c).state = .ready)
  chair : ∀ c, t.chair c = s.chair c ∨
    ((s.chair c).state = .ready ∧ (s.chair c).presence = .present ∧
      ∃ n, t.chair c = ({ s.chair c with state := .offered } : Chair).queued (.notice n))
  service : t.service.online = s.service.online ∧ s.service.port.queue <+: t.service.port.queue

theorem Call.Revisited.refl (k : Call) : k.Revisited k := ⟨rfl, rfl, .inl rfl⟩

theorem Call.Revisited.trans {k d e : Call} (h : k.Revisited d) (m : d.Revisited e) : k.Revisited e where
  slot := m.slot.trans h.slot
  reason := m.reason.trans h.reason
  declined := m.declined.elim (fun same => h.declined.imp same.trans same.trans) .inr

theorem Dispatched.refl (s : State) : Dispatched s s where
  elsewhere := .refl s
  due := rfl
  calls := ⟨id, (List.map_id _).symm, fun k => ⟨.refl k, .inl rfl⟩⟩
  entry _ := .inl rfl
  chair _ := .inl rfl
  service := ⟨rfl, List.prefix_rfl⟩

theorem Dispatched.callers {s t : State} (h : Dispatched s t) : t.callers = s.callers := by
  obtain ⟨g, calls, revisited⟩ := h.calls
  rw [State.callers, State.callers, calls, List.map_map]
  exact List.map_congr_left fun k _ => (revisited k).1.slot

/-- A record that stands is passed over. -/
theorem Dispatched.entry_of_record {s t : State} (h : Dispatched s t) {i : Slot} (hn : (s.entry i).handover ≠ none) :
    t.entry i = s.entry i := (h.entry i).elim id fun placed => absurd placed.2.1 hn

theorem Dispatched.status {s t : State} (h : Dispatched s t) (i : Slot) : (t.entry i).status = (s.entry i).status := by
  rcases h.entry i with same | ⟨-, -, _, _, placed, -⟩
  · rw [same]
  · rw [placed]

theorem Dispatched.allowedAt {s t : State} (h : Dispatched s t) (i : Slot) (c : ChairId) : t.allowedAt i c = s.allowedAt i c := by
  simp only [State.allowedAt, Entry.zone?, h.status, State.zone, h.elsewhere.1]

theorem Dispatched.trans {s t u : State} (h : Dispatched s t) (k : Dispatched t u) : Dispatched s u where
  elsewhere := h.elsewhere.trans k.elsewhere
  due := k.due.trans h.due
  calls := by
    obtain ⟨g, hg, first⟩ := h.calls
    obtain ⟨f, hf, second⟩ := k.calls
    refine ⟨f ∘ g, by rw [hf, hg, List.map_map], fun d => ⟨(first d).1.trans (second (g d)).1, ?_⟩⟩
    rcases (second (g d)).2 with same | placed
    · rcases (first d).2 with kept | placed
      · exact .inl (same.trans kept)
      · exact .inr (by rwa [k.entry_of_record placed])
    · exact .inr (by rwa [(first d).1.slot] at placed)
  entry i := by
    rcases h.entry i with same | placed
    · rcases k.entry i with kept | ⟨called, free, r, c, entry, kind, phase, target, allowed, ready⟩
      · exact .inl (kept.trans same)
      · rw [same] at free entry
        refine .inr ⟨h.callers ▸ called, free, r, c, entry, kind, phase, target, by rwa [← h.allowedAt], ?_⟩
        rcases h.chair c with unchanged | ⟨before, -⟩
        · rwa [← unchanged]
        · exact before
    · obtain ⟨called, free, r, c, entry, rest⟩ := placed
      exact .inr ⟨called, free, r, c, (k.entry_of_record (by simp [entry])).trans entry, rest⟩
  chair c := by
    rcases h.chair c with same | ⟨ready, present, n, offered⟩
    · rcases k.chair c with kept | ⟨ready, present, n, offered⟩
      · exact .inl (kept.trans same)
      · rw [same] at ready present offered
        exact .inr ⟨ready, present, n, offered⟩
    · refine .inr ⟨ready, present, n, (k.chair c).elim (fun kept => kept.trans offered) fun again => ?_⟩
      rw [offered] at again
      exact absurd again.1 (by simp [Chair.queued])
  service := ⟨k.service.1.trans h.service.1, h.service.2.trans k.service.2⟩

/-- A notice to the service link leaves the frames that waited where they stood. -/
theorem notify_service_prefix (n : Notice) (s : State) :
    (s.notify .service n).service.online = s.service.online ∧
      s.service.port.queue <+: (s.notify .service n).service.port.queue := by
  unfold State.notify State.send
  split
  · exact ⟨rfl, queue_isPrefix_enqueue _ _ rfl⟩
  · exact ⟨rfl, List.prefix_rfl⟩

theorem testSaturation_dispatched (k : Call) (s : State) : Dispatched s (testSaturation k s) := by
  refine ⟨testSaturation_elsewhere k s, ?_, ?_, fun i => .inl (by simp), fun c => .inl (by simp), ?_⟩
  · unfold testSaturation
    split
    · exact send_dispatchDue ..
    · rfl
  · unfold testSaturation
    split
    · refine ⟨_, (send_table .service _ _).2.1, fun d => ⟨?_, .inl ?_⟩⟩
      · dsimp only
        split
        · exact ⟨rfl, rfl, .inr rfl⟩
        · exact .refl d
      · dsimp only
        split <;> rfl
    · exact ⟨id, (List.map_id _).symm, fun d => ⟨.refl d, .inl rfl⟩⟩
  · unfold testSaturation
    split
    · exact notify_service_prefix _ _
    · exact ⟨rfl, List.prefix_rfl⟩

theorem offerCall_dispatched {k : Call} {c : ChairId} {ls : LoaderStatus} (status : (s.entry k.slot).status = some ls)
    (called : k.slot ∈ s.callers) (free : (s.entry k.slot).handover = none) (chosen : eligible k c s = true) :
    Dispatched s (offerCall k c s) := by
  obtain ⟨ready, present, allowed, -⟩ := (eligible_iff k c s).1 chosen
  rw [offerCall_eq status c]
  refine ⟨.refl s, rfl, ⟨_, rfl, fun d => ?_⟩, fun i => ?_, fun d => ?_, rfl, List.prefix_rfl⟩
  · split
    next slot =>
      refine ⟨⟨rfl, rfl, .inl rfl⟩, .inr ?_⟩
      rw [State.setChair_entry, slot, State.entry_setEntry_self]
      simp
    next => exact ⟨.refl d, .inl rfl⟩
  · rcases eq_or_ne k.slot i with rfl | hi
    · exact .inr ⟨called, free, _, c, by rw [State.setChair_entry, State.entry_setEntry_self], rfl, rfl, rfl, allowed, ready⟩
    · exact .inl (by rw [State.setChair_entry, State.entry_setEntry_of_ne _ _ hi]; rfl)
  · rcases eq_or_ne c d with rfl | hd
    · exact .inr ⟨ready, present, _, by rw [State.chair_setChair_self]⟩
    · exact .inl (by rw [State.chair_setChair_of_ne _ _ hd]; rfl)

/-- The test of a call leaves the chairs eligible for it. -/
theorem eligible_testSaturation (k d : Call) (c : ChairId) (s : State) : eligible d c (testSaturation k s) = eligible d c s := by
  simp [eligible, State.isPresent, State.allowedAt]

/-- The premises of an offer after the test of its call. -/
theorem offered_dispatched {k : Call} {c : ChairId} {ls : LoaderStatus} (call : s.findCall i = some k)
    (free : (s.entry i).handover = none) (chosen : eligible (k.tested s) c s = true) (status : (s.entry i).status = some ls) :
    Dispatched (testSaturation k s) (offerCall (k.tested s) c (testSaturation k s)) := by
  have slot : (k.tested s).slot = i := by rw [Call.tested_slot, slot_of_findCall call]
  refine offerCall_dispatched (ls := ls) ?_ (mem_callers_of_findCall (i := i) ?_) ?_ ?_
  · rwa [slot, entry_testSaturation]
  · exact findCall_testSaturation call
  · rwa [slot, entry_testSaturation]
  · rwa [eligible_testSaturation]

theorem visitCall_dispatched (s : State) (i : Slot) : Dispatched s (visitCall s i) := by
  have visit := visitCall_visit s i
  generalize visitCall s i = t at visit
  cases visit with
  | passed => exact .refl s
  | tested => exact testSaturation_dispatched _ s
  | offered call _ free chosen status =>
    exact (testSaturation_dispatched _ s).trans (offered_dispatched call free chosen status)

theorem foldl_visitCall_dispatched (l : List Slot) (s : State) : Dispatched s (l.foldl visitCall s) := by
  induction l generalizing s with
  | nil => exact .refl s
  | cons i l ih => exact (visitCall_dispatched s i).trans (ih _)

theorem runDispatcher_dispatched (s : State) : Dispatched s (runDispatcher s) := foldl_visitCall_dispatched _ s

/-- The end of an event, with the dispatcher's flag taken down. -/
theorem finish_dispatched (s : State) : Dispatched { s with dispatchDue := false } (finish s) := by
  unfold finish
  split
  · exact runDispatcher_dispatched _
  next clear =>
    have quiet : s.dispatchDue = false := by simpa using clear
    have same : ({ s with dispatchDue := false } : State) = s := by rw [← quiet]
    exact same ▸ .refl _

theorem finish_quiet (s : State) : (finish s).Quiet := (finish_dispatched s).due

theorem Dispatched.sameButRecord {s t : State} (h : Dispatched s t) (i : Slot) : SameButRecord (s.entry i) (t.entry i) := by
  rcases h.entry i with same | ⟨-, -, _, _, placed, -⟩
  · rw [same]
  · rw [placed]

theorem Dispatched.sameButOffer {s t : State} (h : Dispatched s t) (c : ChairId) : SameButOffer (s.chair c) (t.chair c) := by
  rcases h.chair c with same | ⟨-, -, n, offered⟩
  · rw [same]
  · rw [offered]
    rfl

/-! ### One walk leaves no pair (R66) -/

/-- No unreserved call of a slot that `p` tells has an eligible chair. -/
abbrev State.Unpaired (s : State) (p : Slot → Prop) : Prop :=
  ∀ k ∈ s.calls, p k.slot → k.reserved = false → ∀ c, eligible k c s = false

theorem findCall_of_mem (hs : s.CallQueueLaw) {k : Call} (hk : k ∈ s.calls) : s.findCall k.slot = some k := by
  obtain ⟨d, hd⟩ : ∃ d, s.findCall k.slot = some d :=
    Option.isSome_iff_exists.1 (List.find?_isSome.2 ⟨k, hk, by simp⟩)
  have same : d = k := List.inj_on_of_nodup_map hs.2 (List.mem_of_find?_eq_some hd) hk (slot_of_findCall hd)
  rw [hd, same]

/-- A run makes no chair eligible. -/
theorem Dispatched.eligible {s t : State} (h : Dispatched s t) {k : Call} {c : ChairId} (he : eligible k c t = true) :
    Machine.eligible k c s = true := by
  obtain ⟨ready, present, allowed, declined⟩ := (eligible_iff k c t).1 he
  rw [h.allowedAt] at allowed
  rcases h.chair c with same | ⟨-, -, n, offered⟩
  · rw [same] at ready present
    exact (eligible_iff k c s).2 ⟨ready, present, allowed, declined⟩
  · rw [offered] at ready
    cases ready

theorem testSaturation_callsFit (hs : s.CallsFit) (k : Call) : (testSaturation k s).CallsFit :=
  (Micros.still (testSaturation_micros s k)).callsFit hs

theorem visitCall_callsFit (hs : s.CallsFit) (i : Slot) : (visitCall s i).CallsFit := by
  have visit := visitCall_visit s i
  generalize visitCall s i = t at visit
  cases visit with
  | passed => exact hs
  | tested => exact testSaturation_callsFit hs _
  | @offered k c ls =>
    have started := startHandover_attached_callsFit (testSaturation_callsFit hs k) (k.tested s).slot
      (h := newRecord .claim (some .auto) (.chair c) .offering none none true (testSaturation k s).policy) rfl
    have pointed (u : State) (hu : u.CallsFit) : ({ u with pointer := c + 1 } : State).CallsFit := hu
    exact pointed _ ((Micros.still (notify_micros _ _ _)).callsFit started)

/-- The calls of other slots are left by a test or an offer. -/
theorem visitCall_calls_of_ne {k : Call} (hk : k ∈ (visitCall s i).calls) (hi : k.slot ≠ i) : k ∈ s.calls := by
  have tested {d : Call} (slot : d.slot = i) (hk : k ∈ (testSaturation d s).calls) : k ∈ s.calls := by
    unfold testSaturation at hk
    split at hk
    · rw [State.notify, (send_table .service _ _).2.1] at hk
      obtain ⟨e, he, rfl⟩ := List.mem_map.1 hk
      split at hi
      next same => exact absurd (by simpa [slot] using same) hi
      next other => simpa [other] using he
    · exact hk
  have visit := visitCall_visit s i
  generalize visitCall s i = t at visit hk
  cases visit with
  | passed => exact hk
  | tested call => exact tested (slot_of_findCall call) hk
  | @offered d c ls call unreserved free chosen status =>
    refine tested (slot_of_findCall call) ?_
    have slot : (d.tested s).slot = i := by rw [Call.tested_slot, slot_of_findCall call]
    rw [offerCall_eq (ls := ls) (by rwa [slot, entry_testSaturation])] at hk
    obtain ⟨e, he, rfl⟩ := List.mem_map.1 hk
    split at hi
    next same => exact absurd (same.trans slot) hi
    next other => rw [if_neg other]; exact he

/-- The visit of a slot leaves its own call reserved or without an eligible chair. -/
theorem visitCall_unpaired_self (hs : s.CallsFit) : (visitCall s i).Unpaired (· = i) := by
  intro k hk slot unreserved c
  have found := findCall_of_mem (visitCall_callsFit hs i).1 hk
  have fits := (visitCall_callsFit hs i).2 k hk
  rw [slot] at found
  have visit := visitCall_visit s i
  generalize visitCall s i = t at visit hk found fits
  cases visit with
  | passed h =>
    rcases h k found with reserved | record
    · rw [reserved] at unreserved
      cases unreserved
    · rw [slot, unreserved] at fits
      exact absurd (Option.isNone_iff_eq_none.1 (by simpa using fits.1.symm)) record
  | tested call _ _ none =>
    obtain rfl := Option.some.inj ((findCall_testSaturation call).symm.trans found)
    rw [eligible_testSaturation]
    exact none c
  | @offered d e ls call _ free chosen status =>
    have recorded : ((offerCall (d.tested s) e (testSaturation d s)).entry k.slot).handover ≠ none := by
      have at_ : (d.tested s).slot = i := by rw [Call.tested_slot, slot_of_findCall call]
      rw [offerCall_eq (ls := ls) (by rwa [at_, entry_testSaturation]), State.setChair_entry, slot, at_, State.entry_setEntry_self]
      simp
    rw [unreserved] at fits
    exact absurd (Option.isNone_iff_eq_none.1 (by simpa using fits.1.symm)) recorded

theorem visitCall_unpaired (hs : s.CallsFit) {p : Slot → Prop} (h : s.Unpaired p) (i : Slot) :
    (visitCall s i).Unpaired fun j => j = i ∨ p j := by
  intro k hk told unreserved c
  rcases eq_or_ne k.slot i with slot | slot
  · exact visitCall_unpaired_self hs k hk slot unreserved c
  · rw [Bool.eq_false_iff]
    intro he
    have before := h k (visitCall_calls_of_ne hk slot) (told.resolve_left slot) unreserved c
    rw [(visitCall_dispatched s i).eligible he] at before
    cases before

theorem foldl_visitCall_unpaired (l : List Slot) {s : State} (hs : s.CallsFit) {p : Slot → Prop} (h : s.Unpaired p) :
    (l.foldl visitCall s).Unpaired fun j => j ∈ l ∨ p j := by
  induction l generalizing s p with
  | nil => simpa using h
  | cons i l ih =>
    have rest := ih (visitCall_callsFit hs i) (visitCall_unpaired hs h i)
    intro k hk told unreserved
    refine rest k hk ?_ unreserved
    rcases told with told | told
    · rcases List.mem_cons.1 told with rfl | told
      · exact .inr (.inl rfl)
      · exact .inl told
    · exact .inr (.inr told)

end

end Sys2Proof.Machine

namespace Sys2Proof.Settled

open Sys2Proof.Machine

/-- Settles O46: a visit leaves its own call without an eligible chair, and no later visit gives one to it. -/
theorem oneWalkLeavesNoPair : Obligations.OneWalkLeavesNoPair := fun s queue reserved => by
  have run := runDispatcher_dispatched s
  have unpaired := foldl_visitCall_unpaired (s.calls.map (·.slot)) ⟨queue, reserved⟩ (p := fun _ => False) fun _ _ none => none.elim
  obtain ⟨g, calls, revisited⟩ := run.calls
  refine ⟨fun k hk free c => unpaired k hk (.inl ?_) free c, fun c changed => ?_, ?_, run.sameButRecord, run.elsewhere⟩
  · have called := run.callers
    unfold State.callers at called
    rw [← called]
    exact List.mem_map_of_mem hk
  · obtain ⟨ready, present, n, offered⟩ := (run.chair c).resolve_left changed
    exact ⟨ready, present, by rw [offered]; rfl⟩
  · rw [calls, List.map_map]
    exact List.map_congr_left fun k _ => by simp [(revisited k).1.slot, (revisited k).1.reason]

/-- Settles O1: the two cases of the queue. -/
theorem stepRunsFrontCommand : Obligations.StepRunsFrontCommand :=
  ⟨fun c rest s h => by simp only [step, h], fun s h => by simp only [step, h]⟩

end Sys2Proof.Settled
end


section
/-! SUPPORT. Every command is answered, the reset state has every law, and every step keeps the presence timers, the latch and the OFFLINE
record of every chair. -/

namespace Sys2Proof.Machine

variable {s t : State}

/-! ### Answers of commands -/

/-- A write keeps the waiting commands and GATEWAY_READY. -/
theorem Micro.inputs {C : State → ChairId → Chair → Prop} {b : Bool} (h : Micro C b s t) :
    t.pending = s.pending ∧ t.gatewayReady = s.gatewayReady := by
  cases h with
  | @port _ _ p r => cases p <;> exact ⟨rfl, rfl⟩
  | blanked h => exact ⟨h.pending, h.gatewayReady⟩
  | _ => exact ⟨rfl, rfl⟩

theorem Moves.inputs {C : State → ChairId → Chair → Prop} (h : Moves C s t) :
    t.pending = s.pending ∧ t.gatewayReady = s.gatewayReady := by
  induction h with
  | refl => exact ⟨rfl, rfl⟩
  | tail _ hm ih =>
    refine hm.micros.keeps (P := fun u => u.pending = s.pending ∧ u.gatewayReady = s.gatewayReady) (fun h hu => ?_) ih
    exact ⟨h.inputs.1.trans hu.1, h.inputs.2.trans hu.2⟩

/-- Every command ends its event with the dispatcher's flag taken down. -/
theorem exec_quiet (cmd : Instr) (s : State) : ∃ t, exec cmd s = .next t ∧ t.Quiet := by
  cases cmd with
  | powerOn => exact ⟨_, rfl, rfl⟩
  | _ => exact ⟨_, rfl, finish_quiet _⟩

/-! ### A chair's record (R75, R79 to R81, R89) -/

/-- A chair as the law says; with slack, a READY or IDLE chair may have either latch, as between the writes of one event. -/
structure Chair.Suits (slack : Bool) (x : Chair) : Prop where
  presence : x.presenceFits = true
  latch : x.latchFits = true ∨ (slack = true ∧ (x.state = .ready ∨ x.state = .idle))
  offline : x.offlineFits = true

/-- Every chair as the law says, with slack for chair `c` if there is one. -/
abbrev State.ChairsSuit (c : Option ChairId) (s : State) : Prop := ∀ d, (s.chair d).Suits (some d == c)

/-- A write of a chair's record that keeps what the law says. -/
abbrev ChairKept (c : Option ChairId) (s : State) (d : ChairId) (x : Chair) : Prop := (s.chair d).Suits (some d == c) → x.Suits (some d == c)

theorem chairsSuit_none_iff (s : State) : s.ChairsSuit none ↔ s.ChairLaw := by
  constructor
  · intro h c
    exact ⟨(h c).presence, (h c).latch.resolve_right (by simp), (h c).offline⟩
  · intro h c
    exact ⟨(h c).1, .inl (h c).2.1, (h c).2.2⟩

theorem State.ChairsSuit.slack (h : s.ChairsSuit none) (c : ChairId) : s.ChairsSuit (some c) := fun d =>
  ⟨(h d).presence, .inl ((h d).latch.resolve_right (by simp)), (h d).offline⟩

theorem State.ChairsSuit.tight {c : ChairId} (h : s.ChairsSuit (some c)) (latch : (s.chair c).latchFits = true) : s.ChairsSuit none := fun d => by
  refine ⟨(h d).presence, .inl ?_, (h d).offline⟩
  rcases eq_or_ne d c with rfl | hd
  · exact latch
  · exact (h d).latch.resolve_right (by simp [hd])

/-- An OFFLINE chair as R89 leaves it. -/
theorem Chair.offlineFits_iff (x : Chair) :
    x.offlineFits = true ↔ (x.state = .offline → x.presence = .absent ∧ x.staleness = none ∧ x.port.silence = none ∧ x.port.badRun = 0 ∧
      x.port.outstanding = none ∧ x.port.queue = [] ∧ x.sample = Sample.neutral) := by
  unfold Chair.offlineFits
  by_cases off : x.state = .offline <;> simp [off, and_assoc]

theorem Chair.offlineFits_of_online {x : Chair} (h : x.state ≠ .offline) : x.offlineFits = true := x.offlineFits_iff.2 fun off => absurd off h

/-- Off the record of an OFFLINE chair, the law turns on the timers, the presence, the latch and the state alone. -/
theorem Chair.Suits.of_same {slack : Bool} {x y : Chair} (h : x.Suits slack) (state : y.state = x.state) (latch : y.latch = x.latch)
    (presence : y.presence = x.presence) (settle : y.settle = x.settle) (grace : y.grace = x.grace) (staleness : y.staleness = x.staleness)
    (offline : x.state = .offline → y.offlineFits = true) : y.Suits slack where
  presence := by
    have := h.presence
    unfold Chair.presenceFits at this ⊢
    rwa [presence, settle, grace, staleness]
  latch := by
    have := h.latch
    unfold Chair.latchFits at this ⊢
    rwa [state, latch]
  offline := if off : x.state = .offline then offline off else Chair.offlineFits_of_online (by rwa [state])

/-- A write of an online chair's port or sample. -/
theorem Chair.Suits.of_online {slack : Bool} {x : Chair} (h : x.Suits slack) (up : x.state ≠ .offline) (port : PortRegs) (sample : Sample) :
    ({ x with port := port, sample := sample } : Chair).Suits slack :=
  h.of_same rfl rfl rfl rfl rfl rfl fun off => absurd off up

/-- A write of a port keeps an OFFLINE chair as it is but for its flags and its error count. -/
theorem PortWrite.suits {slack : Bool} {x : Chair} {r : PortRegs} (hx : x.Suits slack) (h : PortWrite (x.state != .offline) false x.port r) :
    ({ x with port := r } : Chair).Suits slack := by
  by_cases off : x.state = .offline
  · refine hx.of_same rfl rfl rfl rfl rfl rfl fun _ => ?_
    obtain ⟨absent, stale, silence, run, outstanding, queue, sample⟩ := x.offlineFits_iff.1 hx.offline off
    refine (Chair.offlineFits_iff _).2 fun _ => ⟨absent, stale, ?_, ?_, ?_, ?_, sample⟩ <;>
      cases h <;> simp_all [PortRegs.raise, PortRegs.acknowledge]
  · exact hx.of_online off r x.sample

theorem Chair.latchFits_settled (x : Chair) : x.settled.latchFits = true := by
  cases h : x.latch <;> simp [Chair.settled, Chair.latchFits, h]

theorem Chair.Suits.settled {slack : Bool} {x : Chair} (h : x.Suits slack) : x.settled.Suits slack where
  presence := h.presence
  latch := .inl x.latchFits_settled
  offline := Chair.offlineFits_of_online x.settled_state_ne_offline

theorem reset_suits (slack : Bool) (bytes : List Byte) :
    ({ Chair.reset with port := { PortRegs.reset with sending := bytes } } : Chair).Suits slack :=
  ⟨rfl, .inl rfl, rfl⟩

/-- Each write keeps the law of the chairs. -/
theorem Micro.chairsSuit {b : Bool} {c : Option ChairId} (h : Micro (ChairKept c) b s t) (hs : s.ChairsSuit c) : t.ChairsSuit c := by
  have written (d : ChairId) {x : Chair} (hx : x.Suits (some d == c)) : (s.setChair d x).ChairsSuit c := fun e => by
    rcases eq_or_ne d e with rfl | he
    · rwa [State.chair_setChair_self]
    · rw [State.chair_setChair_of_ne _ _ he]
      exact hs e
  cases h with
  | @port _ _ p r h =>
    cases p with
    | chair d => exact written d (PortWrite.suits (hs d) h)
    | service => exact hs
  | settled d => exact written d (hs d).settled
  | placed d after =>
    refine written d ⟨(hs d).presence, .inl ?_, Chair.offlineFits_of_online ?_⟩ <;> rcases after with rfl | rfl | rfl <;> simp [Chair.latchFits]
  | @online _ _ d off =>
    obtain ⟨absent, -⟩ := (Chair.offlineFits_iff _).1 (hs d).offline off
    refine written d ⟨?_, .inl rfl, rfl⟩
    have := (hs d).presence
    unfold Chair.presenceFits at this ⊢
    rwa [absent] at this
  | gone d => exact written d ⟨rfl, .inl rfl, rfl⟩
  | chair h => exact written _ (h (hs _))
  | blanked h =>
    intro d
    obtain ⟨bytes, hc⟩ := h.chairs d
    rw [hc]
    exact reset_suits _ bytes
  | _ => exact hs

theorem Moves.chairsSuit {c : Option ChairId} (h : Moves (ChairKept c) s t) (hs : s.ChairsSuit c) : t.ChairsSuit c := by
  induction h with
  | refl => exact hs
  | tail _ hm ih => exact hm.micros.keeps Micro.chairsSuit ih

/-! ### The events that write presence and latch -/

/-- An operation that keeps the law of the chairs. -/
abbrev Suiting (f : State → State) : Prop := ∀ {s}, s.ChairsSuit none → (f s).ChairsSuit none

theorem Suiting.of_moving {f : State → State} (h : Moving (ChairKept none) f) : Suiting f := (h _).chairsSuit

theorem event_suits {f : State → State} (h : Suiting f) : Suiting (event f) := fun hs => (finish_moves _).chairsSuit (h hs)

theorem ite_suits {p : State → Prop} [DecidablePred p] {f : State → State} (h : ∀ {s}, p s → s.ChairsSuit none → (f s).ChairsSuit none) :
    Suiting fun s => if p s then f s else s := fun {s} hs => by
  show State.ChairsSuit none (if p s then f s else s)
  split
  next hp => exact h hp hs
  next => exact hs

theorem kept_moves {d : ChairId} {x : Chair} {slack : Option ChairId} (h : ChairKept slack s d x) : Moves (ChairKept slack) s (s.setChair d x) :=
  .of_micro fun _ => .chair h

variable {c : ChairId}

theorem setChair_suits {x : Chair} (hs : s.ChairsSuit none) (h : (s.chair c).Suits false → x.Suits false) : (s.setChair c x).ChairsSuit none :=
  (kept_moves (slack := none) h).chairsSuit hs

theorem setChair_slack {x : Chair} (hs : s.ChairsSuit (some c)) (h : (s.chair c).Suits true → x.Suits true) :
    (s.setChair c x).ChairsSuit (some c) :=
  (kept_moves (slack := some c) fun k => by simpa using h (by simpa using k)).chairsSuit hs

/-- A chair whose staleness timer runs may become PRESENT. -/
theorem becomePresent_suits (stale : (s.chair c).staleness.isSome = true) (up : (s.chair c).state ≠ .offline) (hs : s.ChairsSuit none) :
    (becomePresent c s).ChairsSuit none := by
  have present : State.ChairsSuit none (s.modChair c fun x => { x with presence := .present, settle := none, grace := none }) :=
    setChair_suits hs fun h => ⟨by simpa [Chair.presenceFits] using stale, h.latch, Chair.offlineFits_of_online up⟩
  have after := (evaluateTargeting_moves c _).chairsSuit ((setHeldRamp_moves c (fun _ => .inr rfl) _).chairsSuit present)
  unfold becomePresent
  dsimp only
  split
  · exact (set_due_moves _).chairsSuit after
  · exact after

theorem press_suits (stale : (s.chair c).staleness.isSome = true) (up : (s.chair c).state ≠ .offline) (hs : s.ChairsSuit none) :
    (press c s).ChairsSuit none := by
  have pressed : State.ChairsSuit none (if s.policy.pressSettle = 0 then becomePresent c s
      else s.modChair c fun x => { x with presence := .settling, settle := some s.policy.pressSettle }) := by
    split
    · exact becomePresent_suits stale up hs
    · exact setChair_suits hs fun h => ⟨by simpa [Chair.presenceFits] using stale, h.latch, Chair.offlineFits_of_online up⟩
  unfold press
  split
  exacts [hs, hs, pressed, pressed]

/-- A chair that is let go: RELEASED, with its grace timer running. -/
theorem released_suits {x y : Chair} {slack : Bool} (h : x.Suits slack) (up : x.state ≠ .offline) (state : y.state = x.state)
    (latch : y.latch = x.latch) (presence : y.presence = .released) (settle : y.settle = none) (grace : y.grace.isSome = true) :
    y.Suits slack where
  presence := by simp [Chair.presenceFits, presence, settle, grace]
  latch := by
    have := h.latch
    unfold Chair.latchFits at this ⊢
    rwa [state, latch]
  offline := Chair.offlineFits_of_online (by rwa [state])

theorem letGo_suits (up : (s.chair c).state ≠ .offline) (hs : s.ChairsSuit none) : (letGo c s).ChairsSuit none := by
  have released : State.ChairsSuit none (s.modChair c fun x =>
      { x with presence := .released, settle := none, grace := some (x.grace.getD s.policy.presenceGrace) }) :=
    setChair_suits hs fun h => released_suits h up rfl rfl rfl rfl rfl
  unfold letGo
  split
  · exact hs
  · exact hs
  · exact released
  · exact (evaluateTargeting_moves c _).chairsSuit ((setHeldRamp_moves c (fun _ => .inl rfl) _).chairsSuit released)

theorem goodFrame_state_ne_offline (c : ChairId) (s : State) : ((goodFrame (.chair c) s).chair c).state ≠ .offline := by
  have up := online_comeOnline (.chair c) s
  unfold goodFrame
  simpa [State.online, State.modPort, State.setPort, State.modChair] using up

theorem takeAxis_suits (f : AxisFrame) : Suiting (takeAxis c f) := fun {s} hs => by
  have heard := (goodFrame_moves (.chair c) s).chairsSuit hs
  have up := goodFrame_state_ne_offline c s
  unfold takeAxis
  generalize goodFrame (.chair c) s = u at heard up
  have sampled : (u.modChair c fun x => { x with sample := sampleOf f }).ChairsSuit none :=
    setChair_suits heard fun h => h.of_online up _ _
  have sampledUp : ((u.modChair c fun x => { x with sample := sampleOf f }).chair c).state ≠ .offline := by
    simpa [State.modChair] using up
  dsimp only
  generalize (u.modChair c fun x => { x with sample := sampleOf f }) = v at sampled sampledUp
  have flagged : State.ChairsSuit none (if f.gear = 3#2 then v.raise (.chair c) .gearInvalid else v) ∧
      ((if f.gear = 3#2 then v.raise (.chair c) .gearInvalid else v).chair c).state ≠ .offline := by
    split
    · exact ⟨(raise_moves _ _ v).chairsSuit sampled, by simpa [State.raise, State.modPort, State.setPort, State.modChair] using sampledUp⟩
    · exact ⟨sampled, sampledUp⟩
  obtain ⟨flagged, flaggedUp⟩ := flagged
  generalize (if f.gear = 3#2 then v.raise (.chair c) .gearInvalid else v) = w at flagged flaggedUp
  have staled : (w.modChair c fun x => { x with staleness := some w.policy.axisStale }).ChairsSuit none :=
    setChair_suits flagged fun h => ⟨by
      have := h.presence
      unfold Chair.presenceFits at this ⊢
      dsimp only
      split at this <;> simp_all, h.latch, Chair.offlineFits_of_online flaggedUp⟩
  have staledUp : ((w.modChair c fun x => { x with staleness := some w.policy.axisStale }).chair c).state ≠ .offline := by
    simpa [State.modChair] using flaggedUp
  refine (evaluateTargeting_moves c _).chairsSuit ?_
  split
  · exact press_suits (by simp [State.modChair]) staledUp staled
  · exact letGo_suits staledUp staled

/-- A chair whose settle timer runs is SETTLING, so online with its staleness timer running. -/
theorem settling_of_settle {x : Chair} {slack : Bool} (h : x.Suits slack) (settle : x.settle.isSome = true) :
    x.staleness.isSome = true ∧ x.state ≠ .offline := by
  have presence := h.presence
  have offline := x.offlineFits_iff.1 h.offline
  unfold Chair.presenceFits at presence
  split at presence <;> simp_all

theorem settled_suits : Suiting fun s => if (s.chair c).settle.isSome then becomePresent c s else s :=
  ite_suits (p := fun s => (s.chair c).settle.isSome) fun settle hs =>
    becomePresent_suits (settling_of_settle (hs c) settle).1 (settling_of_settle (hs c) settle).2 hs

/-- The stop of the staleness timer and the flag are written before the chair is let go, in one record. -/
theorem goStale_suits : Suiting (goStale c) := fun {s} hs => by
  have online (h : (s.chair c).presence ≠ .absent) : (s.chair c).state ≠ .offline := fun off =>
    h ((Chair.offlineFits_iff _).1 (hs c).offline off).1
  have released (x : Chair) (up : (s.chair c).presence ≠ .absent) (state : x.state = (s.chair c).state) (latch : x.latch = (s.chair c).latch)
      (presence : x.presence = .released) (settle : x.settle = none) (grace : x.grace.isSome = true) : (s.setChair c x).ChairsSuit none :=
    setChair_suits hs fun h => released_suits h (online up) state latch presence settle grace
  cases hp : (s.chair c).presence with
  | present =>
    simp only [goStale, letGo, State.raise, State.modPort, State.setPort, State.port, State.modChair, State.chair_setChair_self, hp]
    refine (evaluateTargeting_moves c _).chairsSuit ((setHeldRamp_moves c (fun _ => .inl rfl) _).chairsSuit ?_)
    simp only [State.setChair_setChair]
    exact released _ (by simp [hp]) rfl rfl rfl rfl rfl
  | settling =>
    simp only [goStale, letGo, State.raise, State.modPort, State.setPort, State.port, State.modChair, State.chair_setChair_self, hp]
    simp only [State.setChair_setChair]
    exact released _ (by simp [hp]) rfl rfl rfl rfl rfl
  | released | absent =>
    have same : goStale c s = s.modChair c fun x => { x with staleness := none } := by
      simp [goStale, State.modChair, hp]
    rw [same]
    refine setChair_suits hs fun h => ⟨?_, h.latch, ?_⟩
    · have := h.presence
      simpa [Chair.presenceFits, hp] using this
    · have := (Chair.offlineFits_iff _).1 h.offline
      exact (Chair.offlineFits_iff _).2 fun off => ⟨(this off).1, rfl, (this off).2.2⟩

/-! ### The latch -/

theorem Chair.latch_answered (code : Code) (x : Chair) : (x.answered code).latch = x.latch := by
  unfold Chair.answered
  split
  · rfl
  · dsimp only
    split <;> rfl

/-- An abandonment leaves every latch as it is. -/
theorem abandon_latch (i : Slot) (cause : Code) (s : State) (d : ChairId) : ((abandon i cause s).chair d).latch = (s.chair d).latch := by
  cases hh : (s.entry i).handover with
  | none => rw [abandon_of_none cause hh]
  | some h =>
    rw [abandon_chair cause hh]
    unfold Chair.abandoned
    simp only [apply_ite Chair.latch, Chair.queued, Chair.latch_answered, Chair.settled, ite_self]

theorem dropHolder_latch (i : Slot) (lost : Code) (s : State) (d : ChairId) : ((dropHolder i lost s).chair d).latch = (s.chair d).latch := by
  rw [dropHolder, leave_chair]
  split
  · exact abandon_latch i _ s d
  · exact abandon_latch i _ s d

/-- A chair at its grace expiry, before it loses anything (R82). -/
def Chair.graceEnded (x : Chair) : Chair :=
  { x with
    grace := none
    presence := match x.presence with
      | .released => .absent
      | p => p
    latch := false }

/-- The loader that chair `c` holds dropped with `lost`. -/
def droppedBy (c : ChairId) (lost : Code) (s : State) : State :=
  match s.heldSlot c with
  | some i => dropHolder i lost s
  | none => s

/-- The handover that targets chair `c` abandoned with `cause`. -/
def abandonedFor (c : ChairId) (cause : Code) (s : State) : State :=
  match s.targetSlot c with
  | some i => abandon i cause s
  | none => s

/-- The state after the loader and the handover of a grace expiry. -/
def graceLost (c : ChairId) (s : State) : State :=
  abandonedFor c .targetAbsent (droppedBy c .absent (s.setChair c (s.chair c).graceEnded))

theorem loseGrace_eq (c : ChairId) (s : State) :
    loseGrace c s = if ((graceLost c s).chair c).state = .ready then (graceLost c s).setChairState c .idle else graceLost c s := rfl

section
variable {C : State → ChairId → Chair → Prop}

theorem droppedBy_moves (c : ChairId) (lost : Code) : Moving C (droppedBy c lost) := fun s => by
  unfold droppedBy
  split
  next h => exact dropHolder_moves (held_of_heldSlot h) lost
  next => exact Moves.refl s

theorem abandonedFor_moves (c : ChairId) {cause : Code} (h : cause.releasesCall = true) : Moving C (abandonedFor c cause) := fun s => by
  unfold abandonedFor
  split
  · exact (Move.abandon _ _ (.inl h)).moves
  · exact Moves.refl s

end

theorem droppedBy_latch (c : ChairId) (lost : Code) (s : State) (d : ChairId) : ((droppedBy c lost s).chair d).latch = (s.chair d).latch := by
  unfold droppedBy
  split
  · exact dropHolder_latch ..
  · rfl

theorem abandonedFor_latch (c : ChairId) (cause : Code) (s : State) (d : ChairId) :
    ((abandonedFor c cause s).chair d).latch = (s.chair d).latch := by
  unfold abandonedFor
  split
  · exact abandon_latch ..
  · rfl

theorem Chair.Suits.graceEnded {x : Chair} (h : x.Suits true) : x.graceEnded.Suits true where
  presence := by
    have := h.presence
    unfold Chair.graceEnded Chair.presenceFits at *
    split at this <;> simp_all
  latch := by cases hst : x.state <;> simp [Chair.latchFits, Chair.graceEnded, hst]
  offline := (Chair.offlineFits_iff _).2 fun off => by
    obtain ⟨absent, rest⟩ := (Chair.offlineFits_iff _).1 h.offline off
    exact ⟨by simp [Chair.graceEnded, absent], rest⟩

/-- A chair whose latch has been cleared is not left READY. -/
theorem unlatched_suits {u : State} (hu : u.ChairsSuit (some c)) (low : (u.chair c).latch = false) :
    State.ChairsSuit none (if (u.chair c).state = .ready then u.setChairState c .idle else u) := by
  split
  next ready =>
    have idle : State.ChairsSuit (some c) (u.setChairState c .idle) :=
      setChair_slack hu fun h => ⟨h.presence, .inl (by simp [Chair.latchFits, low]), Chair.offlineFits_of_online (by simp)⟩
    exact idle.tight (by simp [State.setChairState, State.modChair, Chair.latchFits, low])
  next other =>
    refine hu.tight ?_
    rcases (hu c).latch with fits | ⟨-, ready | idle⟩
    · exact fits
    · exact absurd ready other
    · simp [Chair.latchFits, idle, low]

theorem loseGrace_suits : Suiting (loseGrace c) := fun {s} hs => by
  have ended : State.ChairsSuit (some c) (s.setChair c (s.chair c).graceEnded) :=
    setChair_slack (hs.slack c) Chair.Suits.graceEnded
  have lost : State.ChairsSuit (some c) (graceLost c s) :=
    (abandonedFor_moves c rfl _).chairsSuit ((droppedBy_moves c _ _).chairsSuit ended)
  have low : ((graceLost c s).chair c).latch = false := by
    rw [graceLost, abandonedFor_latch, droppedBy_latch, State.chair_setChair_self]
    rfl
  rw [loseGrace_eq]
  exact unlatched_suits lost low

theorem clearLatch_suits (hs : s.ChairsSuit none) (c : ChairId) : (s.clearLatch c).ChairsSuit (some c) := by
  refine setChair_slack (hs.slack c) fun h => ⟨h.presence, ?_, ?_⟩
  · cases hst : (s.chair c).state <;> simp [Chair.latchFits, hst]
  · have := (Chair.offlineFits_iff _).1 h.offline
    exact (Chair.offlineFits_iff _).2 this

/-- A frame to a port leaves every chair's state and latch. -/
theorem send_state (p : Port) (f : PortFrame) (s : State) (d : ChairId) :
    ((s.send p f).chair d).state = (s.chair d).state ∧ ((s.send p f).chair d).latch = (s.chair d).latch := by
  unfold State.send
  split
  · cases p with
    | service => exact ⟨rfl, rfl⟩
    | chair e =>
      show ((s.setChair e { s.chair e with port := (s.chair e).port.enqueue f }).chair d).state = _ ∧
        ((s.setChair e { s.chair e with port := (s.chair e).port.enqueue f }).chair d).latch = _
      rw [State.chair_setChair]
      split
      next same => subst same; exact ⟨rfl, rfl⟩
      next => exact ⟨rfl, rfl⟩
  · exact ⟨rfl, rfl⟩

theorem becomeReady_suits (r : Sender) (up : (s.chair c).state ≠ .offline) (hs : s.ChairsSuit none) :
    (becomeReady r c s).ChairsSuit none := by
  have set : State.ChairsSuit (some c) (s.modChair c fun x => { x with latch := true }) := by
    refine setChair_slack (hs.slack c) fun h => ⟨h.presence, ?_, Chair.offlineFits_of_online up⟩
    cases hst : (s.chair c).state <;> simp_all [Chair.latchFits]
  have replied := (reply_moves r .ready .done .nothing _).chairsSuit set
  have state := (send_state r.port (.answer { kind := .ready, tag := r.tag, code := .done, content := .nothing })
    (s.modChair c fun x => { x with latch := true }) c)
  unfold becomeReady
  dsimp only
  change _ = _ ∧ ((reply r .ready .done .nothing _).chair c).latch = _ at state
  generalize reply r .ready .done .nothing (s.modChair c fun x => { x with latch := true }) = u at replied state
  have high : (u.chair c).latch = true := by rw [state.2]; simp [State.modChair]
  split
  next idle =>
    have ready : State.ChairsSuit (some c) (u.setChairState c .ready) :=
      setChair_slack replied fun h => ⟨h.presence, .inl high, Chair.offlineFits_of_online (by simp)⟩
    exact (set_due_moves _).chairsSuit (ready.tight (by simp [State.setChairState, State.modChair, Chair.latchFits, high]))
  next other =>
    refine replied.tight ?_
    rcases (replied c).latch with fits | ⟨-, ready | idle⟩
    · exact fits
    · simp [Chair.latchFits, ready, high]
    · exact absurd idle other

/-- UNREADY from chair `c`, after its latch is cleared and before its answer. -/
theorem unready_suits (hs : s.ChairsSuit none) :
    State.ChairsSuit none (if ((s.clearLatch c).chair c).state = .ready then (s.clearLatch c).setChairState c .idle else s.clearLatch c) := by
  have cleared := clearLatch_suits hs c
  have low : ((s.clearLatch c).chair c).latch = false := by simp [State.clearLatch, State.modChair]
  generalize s.clearLatch c = u at cleared low
  exact unlatched_suits cleared low

/-! ### Every step (R75, R79 to R81, R89) -/

theorem Suiting.of_execMoves {e : State → Host.Outcome State Fault Refusal} (h : ∀ s, ∃ t, e s = .next t ∧ Moves (ChairKept none) s t)
    (hs : s.ChairsSuit none) : ∃ t, e s = .next t ∧ t.ChairsSuit none := by
  obtain ⟨t, next, moves⟩ := h s
  exact ⟨t, next, moves.chairsSuit hs⟩

theorem fromChair_suits (r : Sender) (kind : RequestKind) (content : Content) {owner : ChairId → State → State}
    (h : ∀ c s, (s.chair c).state ≠ .offline → s.ChairsSuit none → (owner c s).ChairsSuit none) :
    Suiting (event (takeRequest r kind content (fromChair r kind content owner))) := by
  refine event_suits fun {s} hs => ?_
  have heard := (goodFrame_moves r.port s).chairsSuit hs
  unfold takeRequest
  dsimp only
  split
  · exact (reply_moves _ _ _ _ _).chairsSuit heard
  · split
    · unfold fromChair
      split
      next c hc =>
        refine h c _ ?_ heard
        rw [hc]
        exact goodFrame_state_ne_offline c s
      next => exact (fieldError_moves _ _ _ _).chairsSuit heard
    · exact (fieldError_moves _ _ _ _).chairsSuit heard

/-- The chair target of an ended handover has the latch of its state. -/
theorem Chair.latchFits_abandoned {i : Slot} {h : Handover} {cause : Code} {d : ChairId} (ht : h.target = .chair d) (x : Chair) :
    (x.abandoned i h cause d).latchFits = true := by
  have state : (x.abandoned i h cause d).state = x.settled.state := by
    simp only [Chair.abandoned, ht, if_true, true_and, apply_ite Chair.state, Chair.queued, Chair.answered_state, ite_self]
  have latch : (x.abandoned i h cause d).latch = x.settled.latch := by
    simp only [Chair.abandoned, ht, if_true, true_and, apply_ite Chair.latch, Chair.queued, Chair.latch_answered, ite_self]
  have fits := x.latchFits_settled
  unfold Chair.latchFits at fits ⊢
  rwa [state, latch]

theorem offerDeadline_suits (i : Slot) (hs : s.ChairsSuit none) :
    ∃ t, execOfferDeadlineExpiry i s = .next t ∧ t.ChairsSuit none := by
  refine ⟨_, rfl, event_suits (fun {s} hs => ?_) hs⟩
  split
  · exact hs
  next h hh =>
    split
    · exact hs
    · split
      next t ht =>
        have cleared := clearLatch_suits hs t
        have recorded : ((s.clearLatch t).entry i).handover = some h := hh
        have abandoned := (Move.abandon i .offerTimeout (.inl rfl)).moves.chairsSuit cleared
        refine abandoned.tight ?_
        rw [abandon_chair _ recorded]
        exact Chair.latchFits_abandoned ht _
      next => exact (Move.abandon i _ (.inl rfl)).moves.chairsSuit hs

/-- Every command keeps the law of the chairs. -/
theorem exec_suits (cmd : Instr) (hs : s.ChairsSuit none) : ∃ t, exec cmd s = .next t ∧ t.ChairsSuit none := by
  cases cmd with
  | powerOn => exact Suiting.of_execMoves execPowerOn_moves hs
  | axis c f =>
    refine ⟨_, rfl, event_suits (fun {s} hs => ?_) hs⟩
    split
    · exact takeAxis_suits f hs
    · exact (takeBadFrame_moves _ _ s).chairsSuit hs
  | idle p => exact Suiting.of_execMoves (fun s => execIdle_moves s p) hs
  | badFrame p why => exact Suiting.of_execMoves (fun s => execBadFrame_moves s p why) hs
  | take r slot gate => exact Suiting.of_execMoves (execTake_moves r slot gate) hs
  | pass r slot target gate => exact Suiting.of_execMoves (fun s => execPass_moves r slot gate s target) hs
  | returnLoader r slot gate => exact Suiting.of_execMoves (execReturnLoader_moves r slot gate) hs
  | resume r slot gate => exact Suiting.of_execMoves (execResume_moves r slot gate) hs
  | accept r slot => exact Suiting.of_execMoves (execAccept_moves r slot) hs
  | decline r slot => exact Suiting.of_execMoves (execDecline_moves r slot) hs
  | ready r =>
    refine ⟨_, rfl, fromChair_suits r _ _ (fun c s up hs => ?_) hs⟩
    split
    · exact becomeReady_suits r up hs
    · exact (reply_moves _ _ _ _ s).chairsSuit hs
  | unready r =>
    exact ⟨_, rfl, fromChair_suits r _ _ (fun c s _ hs => (reply_moves _ _ _ _ _).chairsSuit (unready_suits hs)) hs⟩
  | park r slot => exact Suiting.of_execMoves (execPark_moves r slot) hs
  | cancel r => exact Suiting.of_execMoves (execCancel_moves r) hs
  | query r target number field index => exact Suiting.of_execMoves (fun s => execQuery_moves r s target number field index) hs
  | ack r flags clearCount => exact Suiting.of_execMoves (fun s => execAck_moves r s flags clearCount) hs
  | zoneSet r zone state cap backoff allowed => exact Suiting.of_execMoves (fun s => execZoneSet_moves r s zone state cap backoff allowed) hs
  | policySet r field value => exact Suiting.of_execMoves (fun s => execPolicySet_moves r s field value) hs
  | forceFree r slot => exact Suiting.of_execMoves (execForceFree_moves r slot) hs
  | loaderRestart r slot => exact Suiting.of_execMoves (execLoaderRestart_moves r slot) hs
  | resetAll r => exact Suiting.of_execMoves (execResetAll_moves r) hs
  | resetKeep r => exact Suiting.of_execMoves (execResetKeep_moves r) hs
  | settleExpiry c => exact ⟨_, rfl, event_suits settled_suits hs⟩
  | graceExpiry c => exact ⟨_, rfl, event_suits (ite_suits (p := fun s => (s.chair c).grace.isSome) fun _ hs => loseGrace_suits hs) hs⟩
  | stalenessExpiry c =>
    exact ⟨_, rfl, event_suits (ite_suits (p := fun s => (s.chair c).staleness.isSome) fun _ hs => goStale_suits hs) hs⟩
  | silenceExpiry p => exact Suiting.of_execMoves (fun s => execSilenceExpiry_moves s p) hs
  | offerDeadlineExpiry i => exact offerDeadline_suits i hs
  | gateDeadlineExpiry i => exact Suiting.of_execMoves (fun s => execGateDeadlineExpiry_moves s i) hs
  | cycleExpiry i => exact Suiting.of_execMoves (fun s => execCycleExpiry_moves s i) hs
  | forgetExpiry i => exact Suiting.of_execMoves (fun s => execForgetExpiry_moves s i) hs
  | answerTimerExpiry i => exact Suiting.of_execMoves (fun s => execAnswerTimerExpiry_moves s i) hs
  | hello u => exact Suiting.of_execMoves (execHello_moves u) hs
  | idAnswer u name period watchdog => exact Suiting.of_execMoves (fun s => execIdAnswer_moves u s name period watchdog) hs
  | entryAnswer u index descriptor => exact Suiting.of_execMoves (fun s => execEntryAnswer_moves u s index descriptor) hs
  | call u r => exact Suiting.of_execMoves (fun s => execCall_moves u s r) hs
  | callClear u => exact Suiting.of_execMoves (execCallClear_moves u) hs
  | telemetry u payload => exact Suiting.of_execMoves (fun s => execTelemetry_moves u s payload) hs
  | badFleetFrame why => exact Suiting.of_execMoves (fun s => execBadFleetFrame_moves s why) hs
  | gatewayReadyChange b => exact ⟨_, rfl, event_suits (fun hs => hs) hs⟩
  | fleetFrameDepart => exact Suiting.of_execMoves execFleetFrameDepart_moves hs
  | portFrameDepart p => exact Suiting.of_execMoves (fun s => execPortFrameDepart_moves s p) hs

end Sys2Proof.Machine

namespace Sys2Proof.Settled

open Sys2Proof.Machine

/-- Settles O56: each command keeps every chair's record as the law says, with slack for one latch between the writes of an event. -/
theorem stepsKeepTheChairs : Obligations.StepsKeepTheChairs := fun s t h hs => by
  rw [← chairsSuit_none_iff] at hs ⊢
  unfold step at h
  split at h
  · cases h
    exact hs
  next cmd rest _ =>
    obtain ⟨u, next, suits⟩ := exec_suits (s := { s with pending := rest }) cmd hs
    rw [next] at h
    cases h
    exact suits

/-- Settles O2: every command ends in a run of the dispatcher, and no write touches the inputs. -/
theorem commandsNeverStop : Obligations.CommandsNeverStop := fun cmd s => by
  obtain ⟨t, next, quiet⟩ := exec_quiet cmd s
  refine ⟨t, next, quiet, ?_⟩
  rcases em (∃ b, cmd = .gatewayReadyChange b) with ⟨b, rfl⟩ | other
  · obtain ⟨u, same, moves⟩ := execGatewayReadyChange_moves (C := ChairWrite) b s
    obtain rfl := Host.Outcome.next.inj (next.symm.trans same)
    exact ⟨moves.inputs.1, fun h => absurd rfl (h b)⟩
  · obtain ⟨u, same, moves⟩ := exec_moves cmd (not_exists.1 other) s
    obtain rfl := Host.Outcome.next.inj (next.symm.trans same)
    exact ⟨moves.inputs.1, fun _ => moves.inputs.2⟩

/-- Settles O60: each law by its reading of an empty table. -/
theorem powerOnHasEveryLaw : Obligations.PowerOnHasEveryLaw := by
  obtain ⟨authority, closed⟩ := (lawful_iff _).1 (lawful_of_reset (s := State.reset) rfl rfl rfl rfl)
  have blanked := powerOn_blanked State.reset
  have entry (i : Slot) : State.reset.entry i = Entry.blank .empty := entry_reset rfl i
  have calls : State.reset.CallsFit := callsFit_of_empty rfl
  have zones : State.reset.ZonePlanLaw := fun z => by
    rw [show State.reset.zone z = Zone.reset from Vector.getElem_replicate z.isLt]
    decide
  have chairs : State.reset.ChairsSuit none := fun c => by
    rw [chair_reset]
    exact reset_suits _ []
  have ports : State.reset.PortLaw := (portLaw_iff _).2 ⟨fun c => by
    rw [chair_reset]
    exact reset_fits _ _ none [], reset_fits _ _ _ []⟩
  have counts : State.reset.CountsLaw := ⟨fun c => by
    rw [chair_reset]
    decide, fun i => by
    rw [entry]
    exact ⟨neutral_inCounts, by simp [Entry.blank]⟩⟩
  exact ⟨authority, closed, fun i => sourceFits_of_none (blanked.vacated i).handover, oneHolder_of_vacated blanked.vacated blanked.loose,
    calls.1, calls.2, fun i => by rw [entry]; decide, zones, by decide, bindingLaw_reset, (chairsSuit_none_iff _).1 chairs, ports,
    fun i => ⟨Nat.zero_le _, Nat.zero_le _⟩, counts, rfl⟩

end Sys2Proof.Settled
end


section
/-! SUPPORT. The events that turn on no handover: resets, the screening of requests, link supervision, the latch and the acknowledgement. -/

namespace Sys2Proof.Machine

variable {s : State}

/-! ### Events -/

theorem event_of_quiet (hq : s.Quiet) (f : State → State) : event f s = finish (f s) := by
  have quiet : ({ s with dispatchDue := false } : State) = s := by rw [← show s.dispatchDue = false from hq]
  rw [event, quiet]

theorem event_eq_of_quiet (hq : s.Quiet) {f : State → State} (h : (f s).dispatchDue = s.dispatchDue) : event f s = f s := by
  rw [event_of_quiet hq, finish_of_quiet (h.trans hq)]

theorem goodFrame_dispatchDue (p : Port) (s : State) : (goodFrame p s).dispatchDue = s.dispatchDue := by
  have online : (comeOnline p s).dispatchDue = s.dispatchDue := by
    unfold comeOnline
    split
    · rfl
    · cases p <;> rfl
  rw [← online]
  cases p <;> rfl

theorem goodFrame_quiet (hq : s.Quiet) (p : Port) : (goodFrame p s).Quiet := (goodFrame_dispatchDue p s).trans hq

theorem reply_dispatchDue (r : Sender) (kind : RequestKind) (code : Code) (content : Content) (s : State) :
    (reply r kind code content s).dispatchDue = s.dispatchDue := send_dispatchDue ..

theorem fieldError_dispatchDue (r : Sender) (kind : RequestKind) (content : Content) (s : State) :
    (fieldError r kind content s).dispatchDue = s.dispatchDue := by
  rw [fieldError, reply_dispatchDue]
  cases r with
  | mk p tag => cases p <;> rfl

theorem reply_service_of_online (h : s.service.online = true) (tag : Tag) (kind : RequestKind) (code : Code) (content : Content) :
    reply ⟨.service, tag⟩ kind code content s =
      { s with service :=
        { s.service with port := s.service.port.enqueue (.answer { kind := kind, tag := tag, code := code, content := content }) } } := by
  unfold reply State.answer State.send
  exact if_pos h

/-! ### Resets (R25, R72, R93, R116, R147, R162, R172, R178) -/

theorem Blanked.vacant {s t : State} (h : Blanked s t) (i : Slot) : t.Vacant i := by
  refine ⟨entry_reset h.entries i, ?_, ?_⟩
  · rw [State.context, h.contexts]
    exact Vector.getElem_replicate i.isLt
  · rw [State.fleetSlot, h.fleet]
    exact Vector.getElem_replicate i.isLt

/-- The plans at their values of power-on. -/
theorem plansAtDefault_of_reset {t : State} (zones : t.zones = State.reset.zones) (policy : t.policy = Policy.defaults)
    (bindings : t.bindings = State.reset.bindings) : t.PlansAtDefault := by
  refine ⟨fun z => ?_, ?_, ?_, ?_, ?_, fun i => ?_⟩
  · rw [State.zone, zones]
    exact Vector.getElem_replicate z.isLt
  · rw [policy]; decide
  · rw [policy]; decide
  · rw [policy]; decide
  · rw [policy]; decide
  · rw [State.binding, bindings]
    exact Vector.getElem_replicate i.isLt

theorem noCalls_of_reset {t : State} (calls : t.calls = []) (pointer : t.pointer = 0) (ignored : t.ignored = State.reset.ignored) :
    t.NoCalls := by
  refine ⟨calls, pointer, fun i => ?_⟩
  rw [State.ignoredCalls, ignored]
  exact Vector.getElem_replicate i.isLt

theorem chair_resetAllBlocks (s : State) (c : ChairId) : (resetAllBlocks s).chair c = Chair.gone 0 0 (s.chair c).port.sending :=
  chair_afterReset s.chairs c

/-- The reads begun after RESET_KEEP write the entries, the contexts, the fleet port items and the fleet queue alone. -/
theorem foldl_beginReads_eq (idle : Slot → Prop) [DecidablePred idle] (l : List Slot) (s : State) :
    let t := l.foldl (fun t i => if idle i then t else beginReads i (t.setEntry i (Entry.blank .discovering))) s
    t = { s with entries := t.entries, contexts := t.contexts, fleet := t.fleet, fleetQueue := t.fleetQueue } := by
  induction l generalizing s with
  | nil => rfl
  | cons i l ih =>
    dsimp only
    rw [List.foldl_cons]
    split
    · exact ih s
    · exact ih (beginReads i (s.setEntry i (Entry.blank .discovering)))

theorem beginReads_slot (i j : Slot) (e : Entry) (s : State) :
    ((beginReads i (s.setEntry i e)).entry j, (beginReads i (s.setEntry i e)).context j, (beginReads i (s.setEntry i e)).fleetSlot j) =
      if i = j then (e, contextAtStart, fleetAtStart) else (s.entry j, s.context j, s.fleetSlot j) := by
  show ((s.setEntry i e).entry j, (s.setContext i contextAtStart).context j, (s.setFleetSlot i fleetAtStart).fleetSlot j) = _
  split
  next same => subst same; simp
  next other => simp [other]

/-- What each slot's entry, context and fleet port items are after the reads begun. -/
theorem foldl_beginReads_slot (idle : Slot → Prop) [DecidablePred idle] (l : List Slot) (s : State) (j : Slot) :
    let t := l.foldl (fun t i => if idle i then t else beginReads i (t.setEntry i (Entry.blank .discovering))) s
    (t.entry j, t.context j, t.fleetSlot j) =
      if j ∈ l ∧ ¬ idle j then (Entry.blank .discovering, contextAtStart, fleetAtStart)
      else (s.entry j, s.context j, s.fleetSlot j) := by
  induction l generalizing s with
  | nil => simp
  | cons i l ih =>
    dsimp only at ih ⊢
    rw [List.foldl_cons]
    split
    next passed =>
      rw [ih]
      rcases eq_or_ne j i with rfl | other
      · simp [passed]
      · simp [other]
    next active =>
      rw [ih, beginReads_slot]
      rcases eq_or_ne j i with rfl | other
      · simp [active]
      · simp [other, other.symm]

/-- The reads begun join the queue in slot order. -/
theorem foldl_beginReads_queue (idle : Slot → Prop) [DecidablePred idle] {l : List Slot} (nodup : l.Nodup) (s : State)
    (reads : ∀ f ∈ s.fleetQueue, ∃ k u, k ∉ l ∧ f = .read k u .readId) :
    (l.foldl (fun t i => if idle i then t else beginReads i (t.setEntry i (Entry.blank .discovering))) s).fleetQueue =
      s.fleetQueue ++ (l.filter fun i => !decide (idle i)).map fun i => .read i (s.unitNumber i) .readId := by
  induction l generalizing s with
  | nil => simp
  | cons i l ih =>
    obtain ⟨new, nodup⟩ := List.nodup_cons.1 nodup
    rw [List.foldl_cons]
    split
    next passed =>
      rw [ih nodup s fun f hf => ?_, List.filter_cons_of_neg (by simpa using passed)]
      obtain ⟨k, u, out, rfl⟩ := reads f hf
      exact ⟨k, u, fun hk => out (List.mem_cons_of_mem _ hk), rfl⟩
    next active =>
      have kept : s.fleetQueue.filter (fun f => !(f.isCommandOf i && !f.isRestart)) = s.fleetQueue :=
        List.filter_eq_self.2 fun f hf => by
          obtain ⟨k, u, -, rfl⟩ := reads f hf
          rfl
      have absent (f : FleetFrame) (hf : f ∈ s.fleetQueue) : f.isReadOf i = false := by
        obtain ⟨k, u, out, rfl⟩ := reads f hf
        simpa [FleetFrame.isReadOf] using fun same : k = i => out (same ▸ List.mem_cons_self)
      have queue : (beginReads i (s.setEntry i (Entry.blank .discovering))).fleetQueue =
          s.fleetQueue ++ [.read i (s.unitNumber i) .readId] := by
        show placeRead (.read i (s.unitOf i) .readId) (s.fleetQueue.filter fun f => !(f.isCommandOf i && !f.isRestart)) = _
        rw [kept]
        have placed := placeRead_append (.read i (s.unitOf i) .readId) s.fleetQueue [] absent
        rw [List.append_nil] at placed
        rw [placed]
        rfl
      rw [ih nodup _ fun f hf => ?_, List.filter_cons_of_pos (by simpa using active), queue, List.append_assoc]
      · rfl
      · rw [queue] at hf
        rcases List.mem_append.1 hf with old | fresh
        · obtain ⟨k, u, out, rfl⟩ := reads f old
          exact ⟨k, u, fun hk => out (List.mem_cons_of_mem _ hk), rfl⟩
        · exact ⟨i, s.unitNumber i, new, by simpa using fresh⟩

end Sys2Proof.Machine

namespace Sys2Proof.Settled

open Sys2Proof.Machine

/-- Settles O3: the blocks after POWER_ON, and after the frame of the request and the reset of RESET_ALL. -/
theorem resetsClearThePart : Obligations.ResetsClearThePart := by
  refine ⟨fun s => ?_, fun s tag hq ht => ?_⟩
  · have blanked := powerOn_blanked s
    exact ⟨_, rfl, blanked.vacant, noCalls_of_reset rfl rfl rfl, plansAtDefault_of_reset rfl rfl rfl, rfl, chair_reset, rfl, rfl, rfl⟩
  · let u := resetAllBlocks s.serviceHeard
    have run : event (Machine.takeRequest (⟨.service, tag⟩ : Sender) .resetAll .nothing fun v => reply (⟨.service, tag⟩ : Sender) .resetAll .done .nothing (resetAllBlocks v)) s =
        reply ⟨.service, tag⟩ .resetAll .done .nothing u := by
      rw [event_takeRequest_service hq ht tag rfl, finish_of_quiet (reply_dispatchDue ..)]
    refine ⟨reply ⟨.service, tag⟩ .resetAll .done .nothing u, congrArg _ run, ?_⟩
    have blanked := resetAllBlocks_blanked s.serviceHeard
    exact ⟨blanked.vacant, noCalls_of_reset rfl rfl rfl, plansAtDefault_of_reset rfl rfl rfl, rfl, chair_resetAllBlocks _, rfl, rfl, rfl⟩

/-- Settles O4: the reset that keeps the plans, then the reads begun slot by slot. -/
theorem resetKeepRediscovers : Obligations.ResetKeepRediscovers := by
  intro s tag hq ht
  let u := resetKeepAll s.serviceHeard
  have run : event (Machine.takeRequest (⟨.service, tag⟩ : Sender) .resetKeep .nothing fun v => reply (⟨.service, tag⟩ : Sender) .resetKeep .done .nothing (resetKeepAll v)) s =
      reply ⟨.service, tag⟩ .resetKeep .done .nothing u := by
    rw [event_takeRequest_service hq ht tag rfl, finish_of_quiet]
    exact (reply_dispatchDue ..).trans
      (congrArg State.dispatchDue (foldl_beginReads_eq (fun i => (s.serviceHeard.entry i).state = .empty) allSlots (resetKeepBlocks s.serviceHeard)))
  have same : u = { resetKeepBlocks s.serviceHeard with
      entries := u.entries, contexts := u.contexts, fleet := u.fleet, fleetQueue := u.fleetQueue } :=
    foldl_beginReads_eq (fun i => (s.serviceHeard.entry i).state = .empty) allSlots (resetKeepBlocks s.serviceHeard)
  have slots (j : Slot) := foldl_beginReads_slot (fun i => (s.serviceHeard.entry i).state = .empty) allSlots (resetKeepBlocks s.serviceHeard) j
  have queue := foldl_beginReads_queue (fun i => (s.serviceHeard.entry i).state = .empty) (List.nodup_finRange 16)
    (resetKeepBlocks s.serviceHeard) (by simp [resetKeepBlocks, resetAllBlocks, State.reset])
  have vacant := (resetKeepBlocks_blanked s.serviceHeard).vacant
  refine ⟨reply ⟨.service, tag⟩ .resetKeep .done .nothing u, congrArg _ run, ?_⟩
  change ∀ j, (u.entry j, u.context j, u.fleetSlot j) = _ at slots
  change u.fleetQueue = _ at queue
  have keeps (i : Slot) : (s.entry i).state = .empty → (reply ⟨.service, tag⟩ .resetKeep .done .nothing u).Vacant i := fun empty => by
    rw [reply_service_of_online (by rw [same]; rfl)]
    obtain ⟨entry, context, slot⟩ := vacant i
    have at_i := slots i
    rw [if_neg fun active => active.2 empty] at at_i
    simp only [Prod.mk.injEq] at at_i
    obtain ⟨he, hx, hf⟩ := at_i
    exact ⟨he.trans entry, hx.trans context, hf.trans slot⟩
  have begins (i : Slot) : (s.entry i).state ≠ .empty → (reply ⟨.service, tag⟩ .resetKeep .done .nothing u).Rediscovering i := fun full => by
    rw [reply_service_of_online (by rw [same]; rfl)]
    have at_i := slots i
    rw [if_pos ⟨List.mem_finRange i, full⟩] at at_i
    simp only [Prod.mk.injEq] at at_i
    exact at_i
  have reads : u.fleetQueue =
      (allSlots.filter fun i => (s.entry i).state != .empty).map fun i => .read i (s.unitNumber i) .readId := queue
  refine ⟨?_, ?_, ?_, ?_, keeps, begins, ?_⟩
  all_goals rw [reply_service_of_online (by rw [same]; rfl), same]
  · rfl
  · rfl
  · rfl
  · exact noCalls_of_reset rfl rfl rfl
  · exact ⟨reads, chair_resetAllBlocks _, rfl, rfl, rfl⟩

end Sys2Proof.Settled
end


section
/-! SUPPORT. The screening of requests, link supervision, the latch, the deadlines and the acknowledgement. -/

namespace Sys2Proof.Machine

variable {s : State}

/-! ### The screening of requests (R164) -/

theorem acceptedKind_eq (k : RequestKind) (p : Port) : acceptedKind k p = k.acceptedOn p := by
  cases p <;> cases k <;> rfl

/-- Every request but CANCEL is screened before it reaches the block that owns it. -/
theorem exec_request {cmd : Instr} {r : Sender} {k : RequestKind} {content : Content} (h : requestOf cmd = some (r, k, content)) :
    ∃ owner, ∀ s, exec cmd s = .next (event (takeRequest r k content owner) s) := by
  cases cmd with
  | take | pass | returnLoader | resume | accept | decline | ready | unready | park | query | ack | zoneSet | policySet | forceFree
  | loaderRestart | resetAll | resetKeep =>
    cases h
    exact ⟨_, fun _ => rfl⟩
  | _ => cases h

section
variable {r : Sender} {k : RequestKind} {content : Content} {owner : State → State}

theorem takeRequest_busy (h : ((goodFrame r.port s).port r.port).outstanding ≠ none) :
    takeRequest r k content owner s = reply r k .busy content (goodFrame r.port s) := by
  unfold takeRequest
  exact if_pos (Option.isSome_iff_ne_none.2 h)

theorem takeRequest_refused (h : ((goodFrame r.port s).port r.port).outstanding = none) (hk : k.acceptedOn r.port = false) :
    takeRequest r k content owner s = fieldError r k content (goodFrame r.port s) := by
  simp [takeRequest, h, hk]

theorem takeRequest_owner (h : ((goodFrame r.port s).port r.port).outstanding = none) (hk : k.acceptedOn r.port = true) :
    takeRequest r k content owner s = owner (goodFrame r.port s) := by
  simp [takeRequest, h, hk]

/-- A request sees the part after its own frame. -/
theorem takeRequest_congr {t : State} (h : goodFrame r.port s = goodFrame r.port t) :
    takeRequest r k content owner s = takeRequest r k content owner t := by
  unfold takeRequest
  rw [h]

end

/-- CANCEL once its own frame is heard (R163). -/
def cancelTaken (r : Sender) (s : State) : State :=
  match r.port, (s.port r.port).outstanding with
  | .chair c, some o => reply r .cancel .done .nothing (cancelOutstanding c o s)
  | _, _ => reply r .cancel .nothingPending .nothing s

theorem exec_cancel (r : Sender) (s : State) : exec (.cancel r) s = .next (event (fun u => cancelTaken r (goodFrame r.port u)) s) := rfl

/-- A frame on an OFFLINE chair's link finds the chair brought online. -/
theorem goodFrame_offline {c : ChairId} (off : (s.chair c).state = .offline) :
    goodFrame (.chair c) s = goodFrame (.chair c) (s.setChair c { s.chair c with state := .idle, presence := .absent, latch := false }) := by
  have up : comeOnline (.chair c) s = s.setChair c { s.chair c with state := .idle, presence := .absent, latch := false } := by
    simp [comeOnline, State.online, off, State.modChair]
  have kept : comeOnline (.chair c) (s.setChair c { s.chair c with state := .idle, presence := .absent, latch := false }) =
      s.setChair c { s.chair c with state := .idle, presence := .absent, latch := false } := by
    simp [comeOnline, State.online]
  unfold goodFrame
  rw [up, kept]

/-! ### Numbers out of range (R164, R168, R170) -/

theorem slotOf_eq_none {n : Byte} (h : 15 < n.toNat) : slotOf n = none := dif_neg (by omega)

theorem chairOf_eq_none {n : Byte} (h : 5 < n.toNat) : chairOf n = none := dif_neg (by omega)

theorem zoneOf_eq_none {n : Byte} (h : 7 < n.toNat) : zoneOf n = none := dif_neg (by omega)

section
variable {r : Sender} {k : RequestKind} {slot : Byte}

theorem withSlot_refused (h : slotOf slot = none) (owner : Slot → State → State) (s : State) :
    withSlot r k slot owner s = fieldError r k (.slot slot) s := by
  simp [withSlot, h]

theorem withGate_of_noSlot (h : slotOf slot = none) (gate : Option GateIn) (owner : Slot → Option Gate → State → State) (s : State) :
    withGate r k slot gate owner s = fieldError r k (.slot slot) s := withSlot_refused h _ s

theorem withGate_of_noGate {gate : Option GateIn} (h : requestGate gate = none) (owner : Slot → Option Gate → State → State) (s : State) :
    withGate r k slot gate owner s = fieldError r k (.slot slot) s := by
  unfold withGate withSlot
  split
  · rw [h]
  · rfl

theorem fromChair_refused {content : Content} {owner : ChairId → State → State} (h : ∀ c, owner c s = fieldError r k content s) :
    fromChair r k content owner s = fieldError r k content s := by
  unfold fromChair
  split
  · exact h _
  · rfl

/-- A refused request is answered FIELD_ERROR and does nothing else. -/
theorem event_refused {content : Content} {owner : State → State} (hq : s.Quiet) (free : ((goodFrame r.port s).port r.port).outstanding = none)
    (refused : k.acceptedOn r.port = true → owner (goodFrame r.port s) = fieldError r k content (goodFrame r.port s)) :
    event (takeRequest r k content owner) s = fieldError r k content (goodFrame r.port s) := by
  have taken : takeRequest r k content owner s = fieldError r k content (goodFrame r.port s) := by
    cases hk : k.acceptedOn r.port with
    | true => rw [takeRequest_owner free hk, refused hk]
    | false => exact takeRequest_refused free hk
  rw [event_eq_of_quiet hq, taken]
  rw [taken, fieldError_dispatchDue, goodFrame_dispatchDue]

end

/-- A request of a slot above 15 that reaches its owner is refused there. -/
theorem exec_of_noSlot {cmd : Instr} {r : Sender} {k : RequestKind} {slot : Byte} (h : requestOf cmd = some (r, k, .slot slot))
    (none : slotOf slot = Option.none) (hq : s.Quiet) (free : ((goodFrame r.port s).port r.port).outstanding = Option.none) :
    exec cmd s = .next (fieldError r k (.slot slot) (goodFrame r.port s)) := by
  cases cmd with
  | take | pass | returnLoader | resume =>
    cases h
    exact congrArg _ (event_refused hq free fun _ => fromChair_refused fun _ => withGate_of_noSlot none _ _ _)
  | accept | decline | park =>
    cases h
    exact congrArg _ (event_refused hq free fun _ => fromChair_refused fun _ => withSlot_refused none _ _)
  | forceFree | loaderRestart =>
    cases h
    exact congrArg _ (event_refused hq free fun _ => withSlot_refused none _ _)
  | _ => cases h

/-- ZONE_SET once it reaches its owner (R117, R164). -/
def zoneSetTaken (r : Sender) (zone : Byte) (state : ZoneState) (cap backoff : Half) (allowed : ChairSet) (s : State) : State :=
  match zoneOf zone with
  | some z => (writeZone r z (zoneStored state cap backoff allowed) s).due
  | none => (fieldError r .zoneSet .nothing s).due

theorem exec_zoneSet (r : Sender) (zone : Byte) (state : ZoneState) (cap backoff : Half) (allowed : ChairSet) (s : State) :
    exec (.zoneSet r zone state cap backoff allowed) s =
      .next (event (takeRequest r .zoneSet .nothing (zoneSetTaken r zone state cap backoff allowed)) s) := rfl

theorem requestGate_eq_none (g : GateIn) {p : Byte} (h : 7 < p.toNat) : requestGate (some { g with phase := some p }) = none := by
  have none : phaseOf p.toNat = Option.none := dif_neg (by omega)
  simp [requestGate, gateOf, none]

theorem policyFieldOf_eq_none {field : Byte} (h : 16 < field.toNat) : policyFieldOf field = none :=
  List.getElem?_eq_none (by rw [policyFields_eq]; simpa [numFields, handoverKinds] using Nat.succ_le_of_lt h)

theorem loaderField_eq_none {i : Slot} {field index : Byte} (h : (field.toNat = 9 ∧ 23 < index.toNat) ∨ 9 < field.toNat) :
    loaderField i field index s = none := by
  rcases h with ⟨nine, beyond⟩ | beyond
  · simp only [loaderField, nine]
    exact if_neg (by omega)
  · unfold loaderField
    dsimp only
    split <;> first | omega | rfl

theorem chairField_eq_none {c : ChairId} {field : Byte} (h : 4 < field.toNat) : chairField c field s = none := by
  unfold chairField
  dsimp only
  split <;> first | omega | rfl

section
variable {target number field index : Byte}

theorem queryContent_loader (h : target.toNat = 0) :
    queryContent target number field index s = (slotOf number).bind fun i => loaderField i field index s := by
  unfold queryContent
  rw [h]
  cases slotOf number <;> rfl

theorem queryContent_chair (h : target.toNat = 1) :
    queryContent target number field index s = (chairOf number).bind fun c => chairField c field s := by
  unfold queryContent
  rw [h]
  cases chairOf number <;> rfl

theorem queryContent_service (h : target.toNat = 2) : queryContent target number field index s = serviceField field s := by
  unfold queryContent
  rw [h]
  rfl

end

theorem queryContent_eq_none {target number field index : Byte}
    (h : (target.toNat = 0 ∧ 15 < number.toNat) ∨ (target.toNat = 1 ∧ 5 < number.toNat) ∨ (target.toNat = 4 ∧ 7 < number.toNat) ∨
        5 < target.toNat ∨ (target.toNat = 0 ∧ field.toNat = 9 ∧ 23 < index.toNat) ∨ (target.toNat = 0 ∧ 9 < field.toNat) ∨
        (target.toNat = 1 ∧ 4 < field.toNat) ∨ (target.toNat = 2 ∧ field.toNat ≠ 3 ∧ field.toNat ≠ 4) ∨
        (target.toNat = 5 ∧ 16 < field.toNat)) : queryContent target number field index s = none := by
  rcases h with ⟨t, h⟩ | ⟨t, h⟩ | ⟨t, h⟩ | h | ⟨t, h⟩ | ⟨t, h⟩ | ⟨t, h⟩ | ⟨t, three, four⟩ | ⟨t, h⟩
  · rw [queryContent_loader t, slotOf_eq_none h]
    rfl
  · rw [queryContent_chair t, chairOf_eq_none h]
    rfl
  · simp [queryContent, t, zoneOf_eq_none h]
  · unfold queryContent
    split <;> first | omega | rfl
  · rw [queryContent_loader t]
    exact Option.bind_eq_none_iff.2 fun i _ => loaderField_eq_none (.inl h)
  · rw [queryContent_loader t]
    exact Option.bind_eq_none_iff.2 fun i _ => loaderField_eq_none (.inr h)
  · rw [queryContent_chair t]
    exact Option.bind_eq_none_iff.2 fun c _ => chairField_eq_none h
  · rw [queryContent_service t]
    unfold serviceField
    split <;> first | omega | rfl
  · simp [queryContent, t, policyFieldOf_eq_none h]

/-! ### Links (R87 to R91, R184, R187) -/

/-- A chair that holds nothing and that no record targets goes OFFLINE alone. -/
theorem chairOffline_untied {c : ChairId} (held : s.heldSlot c = none) (target : s.targetSlot c = none) :
    chairOffline c s =
      (s.setChair c (Chair.gone (s.chair c).port.flags (s.chair c).port.errors (s.chair c).port.sending)).due := by
  have dropped : holdingDropped c (portWiped c s) = portWiped c s := by
    unfold holdingDropped
    rw [show (portWiped c s).heldSlot c = none from held]
  have abandoned : targetingAbandoned c (portWiped c s) = portWiped c s := by
    unfold targetingAbandoned
    rw [show (portWiped c s).targetSlot c = none from target]
  rw [chairOffline_eq, dropped, abandoned]
  unfold portWiped State.modPort
  show (((s.setChair c _).setChair c _).due) = _
  rw [State.setChair_setChair]
  refine congrArg (fun x => (s.setChair c x).due) ?_
  show ((s.setChair c _).chair c).cutOff = _
  rw [State.chair_setChair_self]
  rfl

theorem online_raise (p q : Port) (f : Sticky) (s : State) : (s.raise p f).online q = s.online q := by
  cases p with
  | service => cases q <;> rfl
  | chair c =>
    cases q with
    | service => rfl
    | chair d =>
      show ((((s.setChair c _).chair d).state) != .offline) = _
      rw [State.chair_setChair]
      split
      next same => subst same; rfl
      next => rfl

theorem setPort_chair (c : ChairId) (r : PortRegs) (s : State) : s.setPort (.chair c) r = s.setChair c { s.chair c with port := r } := rfl

theorem setPort_dispatchDue (p : Port) (r : PortRegs) (s : State) : (s.setPort p r).dispatchDue = s.dispatchDue := by
  cases p <;> rfl

theorem raise_dispatchDue (p : Port) (f : Sticky) (s : State) : (s.raise p f).dispatchDue = s.dispatchDue := setPort_dispatchDue ..

theorem port_setPort_self (p : Port) (r : PortRegs) (s : State) : (s.setPort p r).port p = r := by
  cases p with
  | service => rfl
  | chair c => exact congrArg Chair.port (State.chair_setChair_self ..)

theorem setPort_setPort (p : Port) (r q : PortRegs) (s : State) : (s.setPort p r).setPort p q = s.setPort p q := by
  cases p with
  | service => rfl
  | chair c => rw [setPort_chair, setPort_chair, setPort_chair, State.setChair_setChair, State.chair_setChair_self]

/-! ### The latch (R76) -/

section
variable {c : ChairId} {tag : Tag}

theorem becomeReady_heardFrom (up : (s.chair c).state ≠ .offline) :
    becomeReady ⟨.chair c, tag⟩ c (s.heardFrom c) =
      if (s.chair c).state = .idle then
        (s.setChair c (({ s.chair c with latch := true, state := .ready } : Chair).replied
          { kind := .ready, tag := tag, code := .done, content := .nothing })).due
      else
        s.setChair c (({ s.chair c with latch := true } : Chair).replied
          { kind := .ready, tag := tag, code := .done, content := .nothing }) := by
  unfold becomeReady
  dsimp only
  rw [reply_chair_of_online (by simpa [State.modChair] using up)]
  simp [State.modChair, State.setChairState, Chair.queued, Chair.replied]

/-- A request that a chair's port takes is an event of the frame heard and its owner's effects (R164). -/
theorem event_takeRequest_chair (hq : s.Quiet) (ht : s.Takes c) (tag : Tag) {kind : RequestKind} (hk : kind.acceptedOn (.chair c) = true)
    (content : Content) (owner : State → State) :
    event (takeRequest ⟨.chair c, tag⟩ kind content owner) s = finish (owner (s.heardFrom c)) := by
  have frame : goodFrame (.chair c) s = s.heardFrom c := goodFrame_chair ht.1
  have free : ((goodFrame (.chair c) s).port (.chair c)).outstanding = none := by
    rw [frame]
    simpa [State.port, PortRegs.heard] using ht.2
  rw [event_of_quiet hq, takeRequest_owner (r := ⟨.chair c, tag⟩) free hk, frame]

/-- ACK on a chair's port with its answer (R175). -/
theorem ack_heardFrom (up : (s.chair c).state ≠ .offline) (flags : Half) (clear : Bool) :
    (let u := (s.heardFrom c).modPort (.chair c) (·.acknowledge flags clear)
     reply ⟨.chair c, tag⟩ .ack .done (.acknowledged (u.port (.chair c)).flags (u.port (.chair c)).errors) u) =
      s.setChair c (({ s.chair c with port := (s.chair c).port.acknowledge flags clear } : Chair).replied
        { kind := .ack, tag := tag, code := .done,
          content := .acknowledged ((s.chair c).port.flags &&& ~~~flags) (if clear then 0 else (s.chair c).port.errors) }) := by
  dsimp only
  rw [State.modPort, setPort_chair, reply_chair_of_online (by simpa using up)]
  simp [State.port, Chair.queued, Chair.replied, PortRegs.acknowledge, PortRegs.heard]

/-- UNREADY with its answer. -/
theorem unready_heardFrom (up : (s.chair c).state ≠ .offline) :
    (let u := (s.heardFrom c).clearLatch c
     let v := if (u.chair c).state = .ready then u.setChairState c .idle else u
     reply ⟨.chair c, tag⟩ .unready .done .nothing v) =
      s.setChair c (({ s.chair c with latch := false, state := if (s.chair c).state = .ready then .idle else (s.chair c).state } : Chair).replied
        { kind := .unready, tag := tag, code := .done, content := .nothing }) := by
  by_cases ready : (s.chair c).state = .ready
  · simp only [State.clearLatch, State.modChair, State.setChairState, chair_heardFrom_self, State.chair_setChair_self, ready, if_true]
    rw [reply_chair_of_online (by simp)]
    simp [Chair.queued, Chair.replied]
  · simp only [State.clearLatch, State.modChair, chair_heardFrom_self, State.chair_setChair_self, ready, if_false]
    rw [reply_chair_of_online (by simpa using up)]
    simp [Chair.queued, Chair.replied]

end

end Sys2Proof.Machine

namespace Sys2Proof.Settled

open Sys2Proof.Machine

/-- Settles O5: every request but CANCEL is screened after its frame is heard, and a frame finds an OFFLINE chair brought online. -/
theorem requestsAreScreened : Obligations.RequestsAreScreened := by
  refine ⟨fun cmd r k content s hq h => ?_, fun cmd c tag s h off => ?_⟩
  · obtain ⟨owner, run⟩ := exec_request h
    refine ⟨fun busy => ?_, fun free other => ?_⟩
    · have taken : Machine.takeRequest r k content owner s = reply r k .busy content (goodFrame r.port s) := takeRequest_busy busy
      rw [run, event_eq_of_quiet hq, taken]
      · rfl
      · rw [taken, reply_dispatchDue, goodFrame_dispatchDue]
    · rw [run, event_refused hq free]
      · rfl
      · rw [← acceptedKind_eq, other]
        exact fun h => by cases h
  · have frame := goodFrame_offline (s := { s with dispatchDue := false }) off
    rcases h with rfl | h
    · exact congrArg (fun u => Host.Outcome.next (finish (cancelTaken ⟨.chair c, tag⟩ u))) frame
    · obtain ⟨⟨r, k, content⟩, hr, rfl⟩ := Option.map_eq_some_iff.1 h
      obtain ⟨owner, run⟩ := exec_request hr
      rw [run, run]
      exact congrArg (fun u => Host.Outcome.next (finish u)) (takeRequest_congr frame)

/-- Settles O6: each number is refused where its owner reads it. -/
theorem numbersOutOfRangeAreRefused : Obligations.NumbersOutOfRangeAreRefused := by
  intro s r hq u free refused
  refine ⟨fun cmd k slot h _ beyond => exec_of_noSlot h (slotOf_eq_none beyond) hq free, fun slot target gate _ beyond => ?_,
    fun slot g p beyond _ => ?_, fun target number field index h => ?_, fun zone st cap backoff allowed hk beyond => ?_⟩
  · refine congrArg Host.Outcome.next (event_refused hq free fun _ => fromChair_refused fun c => ?_)
    unfold withGate withSlot
    split
    · split
      · rw [chairOf_eq_none beyond]
      · rfl
    · rfl
  · have none := requestGate_eq_none g beyond
    exact ⟨congrArg Host.Outcome.next (event_refused hq free fun _ => fromChair_refused fun _ => withGate_of_noGate none _ _),
      fun _ => congrArg Host.Outcome.next (event_refused hq free fun _ => fromChair_refused fun _ => withGate_of_noGate none _ _),
      congrArg Host.Outcome.next (event_refused hq free fun _ => fromChair_refused fun _ => withGate_of_noGate none _ _),
      congrArg Host.Outcome.next (event_refused hq free fun _ => fromChair_refused fun _ => withGate_of_noGate none _ _)⟩
  · refine congrArg Host.Outcome.next (event_refused hq free fun _ => ?_)
    rw [queryContent_eq_none h]
  · have accepted : RequestKind.acceptedOn .zoneSet r.port = true := by rwa [← acceptedKind_eq]
    have owned : zoneSetTaken r zone st cap backoff allowed u = (fieldError r .zoneSet .nothing u).due := by
      rw [zoneSetTaken, zoneOf_eq_none beyond]
    rw [exec_zoneSet, event_of_quiet hq, takeRequest_owner free accepted, owned, finish_due]
    · rfl
    · exact (fieldError_dispatchDue ..).trans (goodFrame_quiet hq _)

/-- Settles O7: the frame by the state of its port, and the silence expiry of a chair to which no entry is tied. -/
theorem idleFramesKeepTheLinkUp : Obligations.IdleFramesKeepTheLinkUp := by
  intro s hq
  have idle (p : Port) : exec (.idle p) s = .next (goodFrame p s) := congrArg _ (event_eq_of_quiet hq (goodFrame_dispatchDue p s))
  refine ⟨fun c => ?_, ?_, fun c running held target => ?_, fun running => ?_⟩
  · rw [idle]
    refine congrArg _ ?_
    split
    next off =>
      rw [goodFrame_offline off, goodFrame_chair (by simp)]
      simp [State.heardFrom]
    next up => rw [goodFrame_chair up, State.heardFrom]
  · rw [idle, goodFrame_service]
    rfl
  · refine congrArg _ ((event_of_quiet hq _).trans ?_)
    rw [show s.port (.chair c) = (s.chair c).port from rfl, if_pos (Option.isSome_iff_ne_none.2 running), goOffline,
      chairOffline_untied held target, finish_due (by exact hq)]
  · refine congrArg _ ((event_of_quiet hq _).trans ?_)
    rw [show s.port .service = s.service.port from rfl, if_pos (Option.isSome_iff_ne_none.2 running)]
    exact finish_of_quiet hq

/-- Settles O8: the flag's write, the run of bad frames, and the bit of each flag. -/
theorem badFramesAreCounted : Obligations.BadFramesAreCounted := by
  refine ⟨fun s p why hq => ?_, fun s c f bad => ?_, fun _ _ _ => rfl, fun r x => by cases x <;> rfl⟩
  · have flagged : (s.port p).raise (badFrameFlag why) =
        { s.port p with flags := (s.port p).flags ||| (if why = .crc then 0x001#16 else 0x002#16), errors := min 255 ((s.port p).errors + 1) } := by
      cases why <;> rfl
    refine ⟨fun off => ?_, fun on few => ?_⟩
    · have taken : takeBadFrame p why s = s.raise p (badFrameFlag why) := by
        rw [takeBadFrame, if_neg (by rw [online_raise, off]; simp)]
      refine congrArg _ ((event_eq_of_quiet hq ?_).trans ?_)
      · rw [taken, raise_dispatchDue]
      · rw [taken, State.raise, State.modPort, flagged]
    · have taken : takeBadFrame p why s = s.setPort p { (s.port p).raise (badFrameFlag why) with badRun := (s.port p).badRun + 1 } := by
        rw [takeBadFrame, if_pos (by rwa [online_raise]), if_pos]
        · rw [State.modPort, State.raise, State.modPort, port_setPort_self, setPort_setPort]
          rfl
        · rw [State.raise, State.modPort, port_setPort_self]
          exact Nat.add_lt_add_right few 1
      refine congrArg _ ((event_eq_of_quiet hq ?_).trans ?_)
      · rw [taken, setPort_dispatchDue]
      · rw [taken, flagged]
  · have range : axisInRange f = false := by
      rw [← Bool.not_eq_true, wellFormed_iff]
      exact bad
    refine congrArg Host.Outcome.next ?_
    unfold event
    rw [range]
    rfl

/-- Settles O13: the latch and the state written with the answer. -/
theorem readyAndUnready : Obligations.ReadyAndUnready := by
  intro s c tag hq ht x told
  have present (u : State) (kind : RequestKind) (code : Code) (content : Content) (hu : (u.chair c).state ≠ .offline) :=
    reply_chair_of_online hu tag kind code content
  refine ⟨fun here idle => ?_, fun here idle => ?_, fun away => ?_, ?_⟩
  · refine congrArg Host.Outcome.next ((event_takeRequest_fromChair hq ht tag rfl _ _).trans ?_)
    rw [if_pos (by simpa [State.isPresent] using here), becomeReady_heardFrom ht.1, if_pos idle, finish_due (by exact hq)]
  · refine congrArg Host.Outcome.next ((event_takeRequest_fromChair hq ht tag rfl _ _).trans ?_)
    rw [if_pos (by simpa [State.isPresent] using here), becomeReady_heardFrom ht.1, if_neg idle, finish_of_quiet (by exact hq)]
  · refine congrArg Host.Outcome.next ((event_takeRequest_fromChair hq ht tag rfl _ _).trans ?_)
    rw [if_neg (by simpa [State.isPresent] using away), finish_reply_heardFrom hq ht]
  · refine congrArg Host.Outcome.next ((event_takeRequest_fromChair hq ht tag rfl _ _).trans ?_)
    rw [unready_heardFrom ht.1, finish_of_quiet (by exact hq)]

/-- Settles O25: the phase says which deadline runs. -/
theorem deadlinesExpire : Obligations.DeadlinesExpire := by
  refine fun s i h hq hh => ⟨fun t offering target => ?_, fun gating => ?_⟩
  · refine congrArg Host.Outcome.next ((event_of_quiet hq _).trans ?_)
    simp only [hh, offering, target]
    rfl
  · refine congrArg Host.Outcome.next ((event_of_quiet hq _).trans ?_)
    simp only [hh, gating]

/-- Settles O27: the flags cleared and the answer with what then stands. -/
theorem ackClears : Obligations.AckClears := by
  refine fun s tag flags clear hq => ⟨fun c ht => ?_, fun ht => ?_⟩
  · refine congrArg Host.Outcome.next ((event_takeRequest_chair hq ht tag rfl _ _).trans ?_)
    rw [ack_heardFrom ht.1, finish_of_quiet (by exact hq)]
    rfl
  · refine congrArg Host.Outcome.next ((event_takeRequest_service hq ht tag rfl _ _).trans ?_)
    rw [finish_of_quiet]
    · rfl
    · exact hq

end Sys2Proof.Settled
end


section
/-! SUPPORT. What a chair's requests, its grace expiry and FORCE_FREE write when an entry leaves authority or a handover is started or
ended. -/

namespace Sys2Proof.Machine

variable {s : State} {i : Slot} {c : ChairId}

/-! ### Leaving authority from a chair (R14) -/

/-- A chair returned to READY or IDLE and then sent a notice. -/
theorem settleChair_notify (s : State) (c : ChairId) (n : Notice) :
    (s.settleChair c).notify (.chair c) n =
      { s.setChair c ((s.chair c).settled.queued (.notice n)) with dispatchDue := (s.chair c).latch || s.dispatchDue } := by
  have chair (b : Bool) (x : Chair) : ({ s.setChair c x with dispatchDue := b } : State).chair c = x := s.chair_setChair_self c x
  rw [settleChair_eq_setChair, State.notify, send_chair_of_online _ (by rw [chair]; exact Chair.settled_state_ne_offline _), chair]
  simp [State.setChair]

theorem releaseHolder_of_holder (u : State) {e : Entry} (held : e.heldBy c = true) (lost : Code) :
    releaseHolder i e (some lost) u = (u.settleChair c).notify (.chair c) (.lost i lost) := by
  obtain ⟨state, holder⟩ := (heldBy_iff _ _).1 held
  simp only [releaseHolder, state, holder]

theorem releaseHolder_none_of_holder (u : State) {e : Entry} (held : e.heldBy c = true) : releaseHolder i e none u = u.settleChair c := by
  obtain ⟨state, holder⟩ := (heldBy_iff _ _).1 held
  simp only [releaseHolder, state, holder]

theorem autoCallRemoved_of_holder (u : State) {e : Entry} (held : e.heldBy c = true) : autoCallRemoved i e.state u = u := by
  obtain ⟨state, -⟩ := (heldBy_iff _ _).1 held
  simp [autoCallRemoved, state]

/-- An entry held by a chair leaves authority: the abandonment, the entry, and the chair with its LOST. -/
theorem leave_of_holder (held : (s.entry i).heldBy c = true) (cause lost : Code) (f : Entry → Entry) :
    leave i cause (some lost) f s =
      { ((abandon i cause s).modEntry i f).setChair c
          (((abandon i cause s).chair c).settled.queued (.notice (.lost i lost))) with
        dispatchDue := ((abandon i cause s).chair c).latch || (abandon i cause s).dispatchDue } := by
  rw [leave_eq, autoCallRemoved_of_holder _ held, releaseHolder_of_holder _ held, settleChair_notify]
  rfl

theorem leave_none_of_holder (held : (s.entry i).heldBy c = true) (cause : Code) (f : Entry → Entry) :
    leave i cause none f s =
      { ((abandon i cause s).modEntry i f).setChair c ((abandon i cause s).chair c).settled with
        dispatchDue := ((abandon i cause s).chair c).latch || (abandon i cause s).dispatchDue } := by
  rw [leave_eq, autoCallRemoved_of_holder _ held, releaseHolder_none_of_holder _ held, settleChair_eq_setChair]
  rfl

/-! ### PARK (R15) -/

section
variable {tag : Tag} {slot : Byte}

theorem parkLoader_heardFrom (held : (s.entry i).heldBy c = true) (free : (s.entry i).handover = none) :
    parkLoader ⟨.chair c, tag⟩ slot c i (s.heardFrom c) =
      { (s.setEntry i { Entry.vacate .free (s.entry i) with
          ramp := parkRamp (s.entry i) (s.isPresent c) s.policy }).setChair c
          ((s.chair c).settled.replied { kind := .park, tag := tag, code := .done, content := .slot slot }) with
        dispatchDue := (s.chair c).latch || s.dispatchDue } := by
  have present : (s.heardFrom c).isPresent c = s.isPresent c := by simp [State.isPresent]
  unfold parkLoader
  dsimp only
  rw [leave_none_of_holder (s := s.heardFrom c) held, abandon_of_none _ (s := s.heardFrom c) free, chair_heardFrom_self, present]
  have chair (b : Bool) (x : Chair) (u : State) : ({ u.setChair c x with dispatchDue := b } : State).chair c = x :=
    u.chair_setChair_self c x
  rw [reply_chair_of_online (by rw [chair]; exact Chair.settled_state_ne_offline _), chair]
  simp [State.modEntry, State.setEntry, State.setChair, State.heardFrom, State.entry, Chair.queued, Chair.replied, Chair.settled]

end

end Sys2Proof.Machine

namespace Sys2Proof.Settled

open Sys2Proof.Machine

/-- Settles O14: the holder's entry leaves authority without a record, and the chair is answered. -/
theorem parkFreesTheLoader : Obligations.ParkFreesTheLoader := by
  intro s c tag slot i hq ht hi e x told
  have owned := event_withSlot hq ht tag (kind := .park) rfl hi fun d j u =>
    if (u.entry j).heldBy d then parkLoader ⟨.chair c, tag⟩ slot d j u else reply ⟨.chair c, tag⟩ .park .notHolder (.slot slot) u
  refine ⟨fun held free => ?_, fun other => ?_⟩
  · have held : (s.entry i).heldBy c = true := (heldBy_iff _ _).2 held
    have ramp : parkRamp e (s.isPresent c) s.policy =
        if x.presence = .present ∧ e.applied ≠ ⟨0, 0, 0, 0⟩ then
          some { purpose := .rundown, start := e.applied, length := s.policy.rundownRamp, progress := 1 } else none := by
      simp [parkRamp, State.isPresent, x, startRamp, Axes.neutral]
    refine congrArg Host.Outcome.next (owned.trans ?_)
    rw [if_pos (by exact held), parkLoader_heardFrom held free, finish_setDue _ _ (by exact hq), show s.dispatchDue = false from hq,
      Bool.or_false, ← ramp]
    rfl
  · have other : (s.entry i).heldBy c = false := by
      rw [← Bool.not_eq_true, heldBy_iff]
      exact other
    refine congrArg Host.Outcome.next (owned.trans ?_)
    rw [if_neg (by rw [entry_heardFrom, other]; simp), finish_reply_heardFrom hq ht]

end Sys2Proof.Settled
end


section
/-! SUPPORT. CANCEL and FORCE_FREE, which end a handover or an entry's authority from the port of their request. -/

namespace Sys2Proof.Machine

variable {s : State} {i : Slot} {c : ChairId}

/-! ### CANCEL (R167) -/

theorem Chair.outstanding_answered (code : Code) (x : Chair) : (x.answered code).port.outstanding = none := by
  unfold Chair.answered
  split
  next none => exact none
  next =>
    dsimp only
    split
    · rfl
    · exact (enqueue_frame _ _).2.2.1

theorem Chair.outstanding_abandoned {h : Handover} {cause : Code} (hr : h.requester = some c) (x : Chair) :
    (x.abandoned i h cause c).port.outstanding = none := by
  have told : ¬ (h.target = .chair c ∧ h.requester ≠ some c ∧ cause ≠ .declined) := fun told => told.2.1 hr
  unfold Chair.abandoned
  dsimp only
  rw [if_neg told, if_pos hr]
  exact Chair.outstanding_answered _ _

/-- The cancelled request has been answered by the abandonment. -/
theorem cancelOutstanding_of_standing {o : Outstanding} {h : Handover} (hh : (s.entry o.slot).handover = some h)
    (hr : h.requester = some c) : cancelOutstanding c o s = abandon o.slot .cancelled s := by
  unfold cancelOutstanding
  simp only [hh, if_pos hr]
  rw [answerOutstanding_eq_setChair, abandon_chair _ hh]
  have answered : ((s.chair c).abandoned o.slot h .cancelled c).answered .cancelled = (s.chair c).abandoned o.slot h .cancelled c := by
    rw [Chair.answered, Chair.outstanding_abandoned hr]
  rw [answered, ← abandon_chair _ hh, State.setChair_chair_self]

theorem abandoned_state_ne_offline {h : Handover} {cause : Code} {x : Chair} (up : x.state ≠ .offline) :
    (x.abandoned i h cause c).state ≠ .offline := by
  rw [Chair.abandoned_state]
  split
  · exact Chair.settled_state_ne_offline _
  · exact up

/-! ### FORCE_FREE (R16) -/

/-- The part with other registers of the service port. -/
def State.withService (v : Service) (s : State) : State := { s with service := v }

section
variable (v : Service)

theorem send_withService (d : ChairId) (f : PortFrame) (s : State) :
    (s.withService v).send (.chair d) f = (s.send (.chair d) f).withService v := by
  unfold State.send
  rw [show (s.withService v).online (.chair d) = s.online (.chair d) from rfl]
  split <;> rfl

theorem settleChair_withService (d : ChairId) (s : State) : (s.withService v).settleChair d = (s.settleChair d).withService v := by
  rw [settleChair_eq_setChair, settleChair_eq_setChair]
  rfl

theorem answerOutstanding_withService (d : ChairId) (code : Code) (s : State) :
    (s.withService v).answerOutstanding d code = (s.answerOutstanding d code).withService v := by
  rw [answerOutstanding_eq_setChair, answerOutstanding_eq_setChair]
  rfl

theorem abandon_withService (i : Slot) (cause : Code) (s : State) :
    abandon i cause (s.withService v) = (abandon i cause s).withService v := by
  cases hh : (s.entry i).handover with
  | none => rw [abandon_of_none _ hh, abandon_of_none _ (s := s.withService v) hh]
  | some h =>
    have released : callReleased i h cause ((s.withService v).setEntry i { s.entry i with handover := none }) =
        (callReleased i h cause (s.setEntry i { s.entry i with handover := none })).withService v := by
      unfold callReleased
      split <;> rfl
    have settled (u : State) : targetSettled h (u.withService v) = (targetSettled h u).withService v := by
      unfold targetSettled
      split
      · exact settleChair_withService ..
      · rfl
    have answered (u : State) : requesterAnswered h cause (u.withService v) = (requesterAnswered h cause u).withService v := by
      unfold requesterAnswered
      split
      · exact answerOutstanding_withService ..
      · rfl
    have told (u : State) : notifyTarget i h cause (u.withService v) = (notifyTarget i h cause u).withService v := by
      unfold notifyTarget
      split
      · rfl
      · split
        · rfl
        · split <;> exact send_withService ..
    rw [abandon_of_some _ hh, abandon_of_some _ (s := s.withService v) hh]
    exact (congrArg (fun u => notifyTarget i h cause (requesterAnswered h cause (targetSettled h u))) released).trans
      (by rw [settled, answered, told])

theorem leave_withService (i : Slot) (cause : Code) (lost : Option Code) (f : Entry → Entry) (s : State) :
    leave i cause lost f (s.withService v) = (leave i cause lost f s).withService v := by
  have released (e : Entry) (u : State) : releaseHolder i e lost (u.withService v) = (releaseHolder i e lost u).withService v := by
    unfold releaseHolder
    split
    · rw [settleChair_withService]
      cases lost with
      | none => rfl
      | some => exact send_withService ..
    · rfl
  have removed (st : EntryState) (u : State) : autoCallRemoved i st (u.withService v) = (autoCallRemoved i st u).withService v := by
    unfold autoCallRemoved
    split <;> rfl
  have written (u : State) : (u.withService v).modEntry i f = (u.modEntry i f).withService v := rfl
  have entry : (s.withService v).entry i = s.entry i := rfl
  rw [leave_eq, leave_eq, abandon_withService, written, entry, released, removed]

end

/-- Leaving authority writes nothing of the service port. -/
theorem leave_service (i : Slot) (cause : Code) (lost : Option Code) (f : Entry → Entry) (s : State) :
    (leave i cause lost f s).service = s.service := by
  have kept : leave i cause lost f s = (leave i cause lost f s).withService s.service := leave_withService s.service i cause lost f s
  rw [kept]
  rfl

end Sys2Proof.Machine

namespace Sys2Proof.Settled

open Sys2Proof.Machine

/-- Settles O24: a standing handover answers the request it cancels. -/
theorem cancelRequest : Obligations.CancelRequest := by
  refine ⟨fun s c tag hq up => ⟨fun o ho h hh hr => ?_, fun free => ?_⟩, fun s tag hq => ?_⟩
  · have taken : cancelTaken ⟨.chair c, tag⟩ (s.heardFrom c) =
        reply ⟨.chair c, tag⟩ .cancel .done .nothing (abandon o.slot .cancelled (s.heardFrom c)) := by
      have outstanding : ((s.heardFrom c).port (.chair c)).outstanding = some o := by simpa [State.port, PortRegs.heard] using ho
      unfold cancelTaken
      dsimp only
      rw [outstanding]
      show reply _ _ _ _ (cancelOutstanding c o (s.heardFrom c)) = _
      rw [cancelOutstanding_of_standing (s := s.heardFrom c) hh hr]
    have online : ((abandon o.slot .cancelled (s.heardFrom c)).chair c).state ≠ .offline := by
      rw [abandon_chair _ (s := s.heardFrom c) hh]
      exact abandoned_state_ne_offline (by simpa using up)
    rw [exec_cancel, event_of_quiet hq]
    dsimp only
    rw [goodFrame_chair up, taken, reply_chair_of_online online]
    rfl
  · have taken : cancelTaken ⟨.chair c, tag⟩ (s.heardFrom c) = reply ⟨.chair c, tag⟩ .cancel .nothingPending .nothing (s.heardFrom c) := by
      have outstanding : ((s.heardFrom c).port (.chair c)).outstanding = none := by simpa [State.port, PortRegs.heard] using free
      unfold cancelTaken
      dsimp only
      rw [outstanding]
    rw [exec_cancel, event_of_quiet hq]
    dsimp only
    rw [goodFrame_chair up, taken, finish_reply_heardFrom hq ⟨up, free⟩]
  · rw [exec_cancel, event_of_quiet hq]
    dsimp only
    rw [goodFrame_service]
    exact congrArg Host.Outcome.next (finish_reply_serviceHeard hq tag .cancel .nothingPending .nothing)

/-- Settles O30: the entry leaves authority as it would without the frame of the request. -/
theorem forceFreeFreesTheEntry : Obligations.ForceFreeFreesTheEntry := by
  intro s tag slot i hq ht hi told
  have heard : forceEntry i s.serviceHeard = (forceEntry i s).withService s.serviceHeard.service :=
    leave_withService s.serviceHeard.service i .forced (some .forced) _ s
  have forced : finish (reply ⟨.service, tag⟩ .forceFree .done (.slot slot) (forceEntry i s.serviceHeard)) =
      finish ((forceEntry i s).serviceReplied (told .done)) := by
    rw [heard, reply_service_of_online rfl, State.serviceReplied, forceEntry, leave_service]
    rfl
  refine ⟨fun carries => ?_, fun out => ?_⟩
  · refine congrArg Host.Outcome.next ((event_takeRequest_service hq ht tag rfl _ _).trans ?_)
    rw [withSlot, hi]
    dsimp only
    cases hst : (s.serviceHeard.entry i).state with
    | held | auto | free => exact forced
    | _ => rw [show (s.entry i).state = _ from hst] at carries; cases carries
  · refine congrArg Host.Outcome.next ((event_takeRequest_service hq ht tag rfl _ _).trans ?_)
    rw [withSlot, hi]
    dsimp only
    cases hst : (s.serviceHeard.entry i).state with
    | held | auto | free => rw [show (s.entry i).state = _ from hst] at out; cases out
    | _ => exact finish_reply_serviceHeard hq ..

end Sys2Proof.Settled
end


section
/-! SUPPORT. RETURN, and the loss of everything at a grace expiry. -/

namespace Sys2Proof.Machine

variable {s : State} {i : Slot} {c : ChairId}

/-! ### RETURN (R34) -/

/-- The refusals of a RETURN in their order. -/
theorem returnRefusal_eq (s : State) (i : Slot) (c : ChairId) :
    returnRefusal s i c =
      match firstFailing (holderChecks i c s) with
      | some code => some code
      | none =>
        match (s.entry i).stack.head? with
        | none => some .noPrevious
        | some (.chair m) => if returnTargetFit i c m s then none else some .targetUnavailable
        | some .auto => none := by
  have fit (m : ChairId) : (m != c && ((s.chair m).state == .idle || (s.chair m).state == .ready) && (s.chair m).presence == .present &&
      s.allowedAt i m) = returnTargetFit i c m s := rfl
  unfold returnRefusal
  dsimp only
  simp only [fit]
  cases hn : (s.entry i).handover with
  | some h => simp [firstFailing, firstRefusal, holderChecks, hn]
  | none =>
    cases hh : (s.entry i).heldBy c with
    | false =>
      have other : ((s.entry i).state == .held && (s.entry i).holder == some (.chair c)) = false := hh
      simp [firstFailing, firstRefusal, holderChecks, hn, hh, other]
    | true =>
      have own : ((s.entry i).state == .held && (s.entry i).holder == some (.chair c)) = true := hh
      rw [firstFailing_holderChecks_of_holder hn hh]
      rcases (s.entry i).stack with _ | ⟨m | _, st⟩
      · simp [firstRefusal, own]
      · cases hf : returnTargetFit i c m s <;> simp [firstRefusal, own, hf]
      · simp [firstRefusal, own]

/-- RETURN of slot `i` by chair `c` once it reaches its owner. -/
def returnTaken (r : Sender) (slot : Byte) (c : ChairId) (i : Slot) (g : Option Gate) (s : State) : State :=
  match firstFailing (holderChecks i c s) with
  | some code => reply r .returnLoader code (.slot slot) s
  | none =>
    match (s.entry i).stack.head? with
    | none => reply r .returnLoader .noPrevious (.slot slot) s
    | some (.chair t) =>
      if returnTargetFit i c t s then startOffer r .returnLoader .returned c t i g s
      else reply r .returnLoader .targetUnavailable (.slot slot) s
    | some .auto => startToAuto r .returnLoader .returned c i g s

theorem returnTargetFit_heardFrom (m : ChairId) : returnTargetFit i c m (s.heardFrom c) = returnTargetFit i c m s := by
  simp [returnTargetFit, State.available, State.isPresent]

section
variable {tag : Tag} {slot : Byte} {gate : Option GateIn} {g : Option Gate}

theorem exec_return (hq : s.Quiet) (ht : s.Takes c) (hi : slotOf slot = some i) (hg : requestGate gate = some g) :
    exec (.returnLoader ⟨.chair c, tag⟩ slot gate) s = .next (finish (returnTaken ⟨.chair c, tag⟩ slot c i g (s.heardFrom c))) :=
  congrArg Host.Outcome.next (event_withGate hq ht tag rfl hi hg fun d j h u => returnTaken ⟨.chair c, tag⟩ slot d j h u)

theorem returnTaken_of_refusal {code : Code} (hr : returnRefusal s i c = some code) (r : Sender) :
    returnTaken r slot c i g (s.heardFrom c) = reply r .returnLoader code (.slot slot) (s.heardFrom c) := by
  have checks : holderChecks i c (s.heardFrom c) = holderChecks i c s := rfl
  rw [returnRefusal_eq] at hr
  unfold returnTaken
  rw [checks, entry_heardFrom]
  cases hc : firstFailing (holderChecks i c s) with
  | some k =>
    rw [hc] at hr
    rw [← Option.some.inj hr]
  | none =>
    rw [hc] at hr
    dsimp only at hr ⊢
    cases newest : (s.entry i).stack.head? with
    | none =>
      rw [newest] at hr
      rw [← Option.some.inj hr]
    | some p =>
      rw [newest] at hr
      cases p with
      | chair m =>
        dsimp only at hr ⊢
        rw [returnTargetFit_heardFrom]
        split at hr
        · cases hr
        next unfit => rw [if_neg unfit, ← Option.some.inj hr]
      | auto => cases hr

theorem firstFailing_of_returnRefusal (hr : returnRefusal s i c = none) : firstFailing (holderChecks i c s) = none := by
  rw [returnRefusal_eq] at hr
  cases hc : firstFailing (holderChecks i c s) with
  | none => rfl
  | some k => rw [hc] at hr; cases hr

theorem returnTaken_of_chair {m : ChairId} (hr : returnRefusal s i c = none) (newest : (s.entry i).stack.head? = some (.chair m)) (r : Sender) :
    m ≠ c ∧ returnTaken r slot c i g (s.heardFrom c) = startOffer r .returnLoader .returned c m i g (s.heardFrom c) := by
  have checks := firstFailing_of_returnRefusal hr
  rw [returnRefusal_eq, checks, newest] at hr
  dsimp only at hr
  split at hr
  next fit =>
    have taken : returnTaken r slot c i g (s.heardFrom c) = startOffer r .returnLoader .returned c m i g (s.heardFrom c) := by
      unfold returnTaken
      rw [show holderChecks i c (s.heardFrom c) = holderChecks i c s from rfl, checks, entry_heardFrom, newest]
      dsimp only
      rw [returnTargetFit_heardFrom, if_pos fit]
    simp only [returnTargetFit, Bool.and_eq_true, bne_iff_ne] at fit
    exact ⟨fit.1.1.1, taken⟩
  next => cases hr

theorem returnTaken_of_auto (hr : returnRefusal s i c = none) (newest : (s.entry i).stack.head? = some .auto) (r : Sender) :
    returnTaken r slot c i g (s.heardFrom c) = startToAuto r .returnLoader .returned c i g (s.heardFrom c) := by
  unfold returnTaken
  rw [show holderChecks i c (s.heardFrom c) = holderChecks i c s from rfl, firstFailing_of_returnRefusal hr, entry_heardFrom, newest]

end

/-! ### The grace expiry (R82) -/

theorem Chair.settled_of_low {x : Chair} (low : x.latch = false) : x.settled = { x with state := .idle } := by
  simp [Chair.settled, low]

theorem targetSlot_none_of_records {u : State} (target : u.targetSlot c = none) {v : State}
    (record : ∀ j, (v.entry j).handover = (u.entry j).handover ∨ (v.entry j).handover = none) : v.targetSlot c = none := by
  rw [targetSlot_none_iff] at target ⊢
  intro j
  have before := target j
  unfold Entry.targets at before ⊢
  rcases record j with same | none
  · rwa [same]
  · rw [none]

/-- The holder of a chair's loader is lost, the chair's latch being clear. -/
theorem droppedBy_of_held {u : State} (held : u.heldSlot c = some i) (low : (u.chair c).latch = false) (lost : Code) :
    let a := abandon i .sourceLost u
    droppedBy c lost u =
      (a.setEntry i { u.entry i with state := .free, holder := none, handover := none, ramp := none, zoneDrop := false }).setChair c
        (({ a.chair c with state := .idle } : Chair).queued (.notice (.lost i lost))) := by
  intro a
  have latch : (a.chair c).latch = false := (abandon_latch i .sourceLost u c).trans low
  have entry : a.entry i = { u.entry i with handover := none } := abandon_entry_self i .sourceLost u
  unfold droppedBy
  rw [held]
  dsimp only
  have due : (((abandon i .sourceLost u).chair c).latch || (abandon i .sourceLost u).dispatchDue) = (abandon i .sourceLost u).dispatchDue := by
    rw [show ((abandon i .sourceLost u).chair c).latch = false from latch, Bool.false_or]
  rw [dropHolder, leave_of_holder (heldBy_of_heldSlot held), due, Chair.settled_of_low latch, State.modEntry, entry]
  rfl

end Sys2Proof.Machine

namespace Sys2Proof.Settled

open Sys2Proof.Machine

/-- Settles O21: the refusals by their order, the offer to the newest chair, and the evaluation of a handover to the autonomy. -/
theorem returnRequest : Obligations.ReturnRequest := by
  intro s c tag slot gate g i hq ht hi hg e x cmd x'
  have run := exec_return (tag := tag) hq ht hi hg
  refine ⟨fun code hr => ?_, fun ls status m newest hr => ?_, fun hr newest => ?_⟩
  · refine run.trans (congrArg Host.Outcome.next ?_)
    rw [returnTaken_of_refusal hr, finish_reply_heardFrom hq ht]
  · obtain ⟨other, taken⟩ := returnTaken_of_chair (slot := slot) (g := g) hr newest ⟨.chair c, tag⟩
    refine run.trans (congrArg Host.Outcome.next ?_)
    rw [taken, startOffer_heardFrom other tag .returnLoader .returned i g status, finish_of_quiet (by exact hq)]
    rfl
  · have record := toAutoStarted_handover s c tag .returnLoader i (returnRecord s c .auto g)
    have gate := gatePasses_toAutoStarted s c tag .returnLoader i (returnRecord s c .auto g) (returnRecord s c .auto g)
    have evaluated : exec cmd s =
        .next (finish (enterGating i (toAutoStarted s c tag .returnLoader i (returnRecord s c .auto g)))) := by
      refine run.trans (congrArg Host.Outcome.next ?_)
      rw [returnTaken_of_auto hr newest, startToAuto_heardFrom]
      rfl
    refine ⟨fun hp => ?_, fun hp hw => ?_, fun hp hw => ?_⟩
    · rw [evaluated, enterGating_of_passes record (gate.trans hp)]
      rfl
    · rw [evaluated, enterGating_of_waits record (gate.trans hp) hw, finish_of_quiet (by exact hq)]
      rfl
    · rw [evaluated, enterGating_of_fails record (gate.trans hp) hw]
      rfl

/-- Settles O12: the chair without its latch, then what it loses. -/
theorem graceExpiryTakesEverything : Obligations.GraceExpiryTakesEverything := by
  intro s c hq running x y
  have ended : (s.chair c).graceEnded = y := by
    have presence : x.graceEnded.presence = y.presence := by
      cases hp : x.presence <;> simp [Chair.graceEnded, y, hp]
    exact congrArg (fun p => ({ x with grace := none, latch := false, presence := p } : Chair)) presence
  have low : ((s.setChair c y).chair c).latch = false := by rw [State.chair_setChair_self]
  have run (t : State) (h : loseGrace c s = t) : exec (.graceExpiry c) s = .next (finish t) := by
    refine congrArg Host.Outcome.next ((event_of_quiet hq _).trans ?_)
    rw [if_pos (Option.isSome_iff_ne_none.2 running), h]
  have lost : graceLost c s = abandonedFor c .targetAbsent (droppedBy c .absent (s.setChair c y)) := by rw [graceLost, ended]
  have dropped {i : Slot} (held : s.heldSlot c = some i) (target : s.targetSlot c = none) :
      let a := abandon i .sourceLost (s.setChair c y)
      loseGrace c s = (a.setEntry i
        { s.entry i with state := .free, holder := none, handover := none, ramp := none, zoneDrop := false }).setChair c
          (({ a.chair c with state := .idle } : Chair).queued (.notice (.lost i .absent))) := by
    intro a
    have loader := droppedBy_of_held (u := s.setChair c y) held low .absent
    have untargeted : (droppedBy c .absent (s.setChair c y)).targetSlot c = none := by
      refine targetSlot_none_of_records target fun j => ?_
      rw [loader, State.setChair_entry, State.entry_setEntry]
      split
      · exact .inr rfl
      next other => exact .inl (congrArg Entry.handover (abandon_entry_of_ne (Ne.symm other) .sourceLost (s.setChair c y)))
    have gone : graceLost c s = droppedBy c .absent (s.setChair c y) := by
      rw [lost, abandonedFor, untargeted]
    rw [loseGrace_eq, gone, loader, if_neg]
    · rfl
    · rw [State.chair_setChair_self]
      simp [Chair.queued]
  refine ⟨fun i held target free => ?_, fun i held target h record => ?_, fun i held target => ?_, fun held target => ?_⟩
  · rw [run _ (dropped held target), abandon_of_none _ (s := s.setChair c y) free, finish_of_quiet (by exact hq)]
    rw [State.chair_setChair_self, State.setChair_setEntry, State.setChair_setChair]
    exact congrArg (fun r => Host.Outcome.next ((s.setEntry i
      { s.entry i with state := .free, holder := none, handover := r, ramp := none, zoneDrop := false }).setChair c
        (({ y with state := .idle } : Chair).queued (.notice (.lost i .absent))))) free.symm
  · rw [run _ (dropped held target)]
  · have kept : droppedBy c .absent (s.setChair c y) = s.setChair c y := by
      rw [droppedBy, show (s.setChair c y).heldSlot c = none from held]
    have gone : graceLost c s = abandon i .targetAbsent (s.setChair c y) := by
      rw [lost, kept, abandonedFor, show (s.setChair c y).targetSlot c = some i from target]
    obtain ⟨h, record, aimed⟩ := (targets_iff _ _).1 (targets_of_targetSlot target)
    have idle : ((abandon i .targetAbsent (s.setChair c y)).chair c).state = .idle := by
      rw [abandon_chair _ (s := s.setChair c y) record, Chair.abandoned_state, if_pos aimed, Chair.settled_of_low low]
    rw [run _ (loseGrace_eq c s), gone, if_neg (by simp [idle])]
  · have kept : graceLost c s = s.setChair c y := by
      rw [lost, droppedBy, show (s.setChair c y).heldSlot c = none from held]
      dsimp only
      rw [abandonedFor, show (s.setChair c y).targetSlot c = none from target]
    rw [run _ (loseGrace_eq c s), kept, State.chair_setChair_self]
    refine congrArg Host.Outcome.next ?_
    split
    next ready =>
      rw [finish_of_quiet (by exact hq), State.setChairState, State.modChair, State.chair_setChair_self,
        State.setChair_setChair]
    next other => exact finish_of_quiet hq

end Sys2Proof.Settled
end


section
/-! SUPPORT. The axes and the presence of a chair: one write of the chair, the ramp of the loader it holds, and the gate of the handover
that targets it (R78 to R85). -/

namespace Sys2Proof.Machine

variable {s v : State} {i : Slot} {c : ChairId} {h : Handover}

/-! ### The gate of the handover that targets a chair -/

theorem evaluateTargeting_of_none (target : v.targetSlot c = none) : evaluateTargeting c v = v := by
  rw [evaluateTargeting, target]

theorem evaluateTargeting_of_record (target : v.targetSlot c = some i) (record : (v.entry i).handover = some h) :
    evaluateTargeting c v = if h.phase = .gating ∧ gatePasses i h v = true then transfer i h v else v := by
  unfold evaluateTargeting evaluateGate
  rw [target]
  dsimp only
  rw [record]
  cases hp : h.phase <;> simp [hp]

/-- The gate of a handover does not pass while its chair target is not PRESENT (R31). -/
theorem gatePasses_of_away (target : h.target = .chair c) (away : (v.chair c).presence ≠ .present) : gatePasses i h v = false := by
  unfold gatePasses
  split
  · rfl
  · rw [Bool.and_eq_false_iff, ← Bool.not_eq_true, ← Bool.not_eq_true, targetFit_iff]
    exact .inr fun fit => away (fit c target).1

theorem evaluateTargeting_of_away (away : (v.chair c).presence ≠ .present) : evaluateTargeting c v = v := by
  cases target : v.targetSlot c with
  | none => exact evaluateTargeting_of_none target
  | some i =>
    obtain ⟨h, record, aimed⟩ := (targets_iff _ _).1 (targets_of_targetSlot target)
    rw [evaluateTargeting_of_record target record, if_neg]
    rintro ⟨-, passes⟩
    rw [gatePasses_of_away aimed away] at passes
    cases passes

/-- Chair `c` is the target of the record `h` of slot `i` alone, and its state says so. -/
structure State.Aimed (v : State) (c : ChairId) (i : Slot) (h : Handover) : Prop where
  record : (v.entry i).handover = some h
  target : h.target = .chair c
  alone : ∀ j, (v.entry j).targets c = true → j = i
  busy : (v.chair c).state ≠ .ready

theorem State.Aimed.targetSlot (hv : v.Aimed c i h) : v.targetSlot c = some i := by
  cases target : v.targetSlot c with
  | none =>
    have aimed := (targetSlot_none_iff v c).1 target i
    rw [(targets_iff _ _).2 ⟨h, hv.record, hv.target⟩] at aimed
    cases aimed
  | some j => rw [hv.alone j (targets_of_targetSlot target)]

theorem State.Tied.aimed (tied : s.Tied c) (target : s.targetSlot c = some i) (record : (s.entry i).handover = some h) : s.Aimed c i h := by
  have aimed := targets_of_targetSlot target
  obtain ⟨k, hk, target⟩ := (targets_iff _ _).1 aimed
  obtain rfl := Option.some.inj (record.symm.trans hk)
  obtain ⟨st, driving, ties⟩ := ties_of_targets aimed
  refine ⟨record, target, fun j hj => ?_, fun ready => ?_⟩
  · obtain ⟨st', -, ties'⟩ := ties_of_targets hj
    obtain rfl := (tied.told ties).symm.trans (tied.told ties')
    exact tied.once ties' ties
  · have told := (tied.told ties).symm.trans ready
    rw [told] at ties
    cases ties

/-- A write of the chair that leaves it as busy keeps its aim. -/
theorem State.Aimed.setChair (hs : s.Aimed c i h) {x : Chair} (state : x.state = (s.chair c).state) : (s.setChair c x).Aimed c i h :=
  ⟨hs.record, hs.target, hs.alone, by rw [State.chair_setChair_self, state]; exact hs.busy⟩

/-- Once transferred, no record targets the chair. -/
theorem State.Aimed.transferred (hv : v.Aimed c i h) : (transfer i h v).targetSlot c = none := by
  rw [targetSlot_none_iff]
  intro j
  rcases eq_or_ne j i with rfl | other
  · rw [transfer_entry_self]
    rfl
  · rw [transfer_entry, if_neg other.symm, ← Bool.not_eq_true]
    exact fun aimed => other (hv.alone j aimed)

theorem due_of_due (h : v.dispatchDue = true) : v.due = v := by
  rw [State.due, ← h]

/-- The dispatcher called for by a chair that is READY (R65, R79). -/
def readied (c : ChairId) (s : State) : State := if (s.chair c).state = .ready then s.due else s

theorem readied_of_ready (ready : (v.chair c).state = .ready) : readied c v = v.due := if_pos ready

theorem readied_of_busy (busy : (v.chair c).state ≠ .ready) : readied c v = v := if_neg busy

/-- A target that a transfer leaves READY was its source, so that the dispatcher is due already. -/
theorem State.Aimed.readied_transfer (hv : v.Aimed c i h) : readied c (transfer i h v) = transfer i h v := by
  unfold readied
  split
  next ready =>
    refine due_of_due ((transfer_dispatchDue i h v).2 (.inr ⟨c, ?_⟩))
    rw [transfer_chair, Chair.transferred_state] at ready
    split at ready
    next source =>
      refine ⟨source, ?_⟩
      cases latch : (v.chair c).latch with
      | true => rfl
      | false => simp [Chair.settled, latch] at ready
    next => rw [if_pos hv.target] at ready; cases ready
  next => rfl

/-- The gate of the handover that targets a chair, evaluated as often as an event may. -/
theorem State.Aimed.evaluated (hv : v.Aimed c i h) :
    let w := if h.phase = .gating ∧ gatePasses i h v = true then transfer i h v else v
    evaluateTargeting c v = w ∧ readied c w = w ∧ evaluateTargeting c w = w := by
  intro w
  have once : evaluateTargeting c v = w := evaluateTargeting_of_record hv.targetSlot hv.record
  by_cases passes : h.phase = .gating ∧ gatePasses i h v = true
  · have moved : w = transfer i h v := if_pos passes
    rw [moved]
    exact ⟨once.trans moved, hv.readied_transfer, evaluateTargeting_of_none hv.transferred⟩
  · have kept : w = v := if_neg passes
    rw [kept]
    exact ⟨once.trans kept, readied_of_busy hv.busy, once.trans kept⟩

theorem finish_evaluated (quiet : v.Quiet) :
    finish (if h.phase = .gating ∧ gatePasses i h v = true then transfer i h v else v) =
      if h.phase = .gating ∧ gatePasses i h v = true then finish (transfer i h v) else v := by
  split
  · rfl
  · exact finish_of_quiet quiet

/-! ### The ramp of the loader a chair holds -/

theorem setHeldRamp_of_held (held : v.heldSlot c = some i) (ramp : State → Option Ramp) :
    setHeldRamp c ramp v = v.setEntry i { v.entry i with ramp := ramp v } := by
  rw [setHeldRamp, held]
  rfl

theorem setHeldRamp_of_none (held : v.heldSlot c = none) (ramp : State → Option Ramp) : setHeldRamp c ramp v = v := by
  rw [setHeldRamp, held]

theorem setHeldRamp_chair (ramp : State → Option Ramp) (d : ChairId) : (setHeldRamp c ramp v).chair d = v.chair d := by
  unfold setHeldRamp
  split <;> rfl

theorem setHeldRamp_targetSlot (ramp : State → Option Ramp) (target : v.targetSlot c = none) : (setHeldRamp c ramp v).targetSlot c = none := by
  refine targetSlot_none_of_records target fun j => .inl ?_
  unfold setHeldRamp
  split
  · rw [State.modEntry, State.entry_setEntry]
    split
    next same => rw [← same]
    next => rfl
  · rfl

theorem setHeldRamp_dispatchDue (ramp : State → Option Ramp) : (setHeldRamp c ramp v).dispatchDue = v.dispatchDue := by
  unfold setHeldRamp
  split <;> rfl

/-- A chair that a record targets holds nothing. -/
theorem State.Tied.heldSlot_none (tied : s.Tied c) (target : s.targetSlot c = some i) : s.heldSlot c = none := by
  rw [heldSlot_none_iff]
  intro j
  obtain ⟨st, driving, ties⟩ := ties_of_targets (targets_of_targetSlot target)
  rw [← Bool.not_eq_true]
  exact fun held => driving ((tied.told ties).symm.trans (tied.told (ties_of_heldBy held)))

/-- The ENGAGE ramp of a holder that becomes PRESENT (R7). -/
def engageRamp (s : State) : Option Ramp := some (startRamp .engage Axes.neutral s.policy.engageRamp)

/-! ### PRESENT and RELEASED (R79 to R81) -/

/-- A chair that becomes PRESENT. -/
def Chair.presented (x : Chair) : Chair := { x with presence := .present, settle := none, grace := none }

/-- A chair that is let go. -/
def Chair.released (grace : Nat) (x : Chair) : Chair := { x with presence := .released, settle := none, grace := some (x.grace.getD grace) }

theorem becomePresent_eq (c : ChairId) (s : State) :
    becomePresent c s = readied c (evaluateTargeting c (setHeldRamp c engageRamp (s.setChair c (s.chair c).presented))) := rfl

/-- The gate of a handover that targets a chair let go is evaluated and does not pass. -/
theorem letGo_of_present (here : (s.chair c).presence = .present) :
    letGo c s = setHeldRamp c (fun _ => none) (s.setChair c ((s.chair c).released s.policy.presenceGrace)) := by
  have away : ((setHeldRamp c (fun _ => none) (s.setChair c ((s.chair c).released s.policy.presenceGrace))).chair c).presence ≠ .present := by
    rw [setHeldRamp_chair, State.chair_setChair_self]
    simp [Chair.released]
  unfold letGo
  rw [here]
  exact evaluateTargeting_of_away away

theorem letGo_of_settling (settling : (s.chair c).presence = .settling) :
    letGo c s = s.setChair c ((s.chair c).released s.policy.presenceGrace) := by
  unfold letGo
  rw [settling]
  rfl

/-- A chair whose staleness timer expires while it is PRESENT or SETTLING, before it is let go. -/
def Chair.staled (x : Chair) : Chair := { x with staleness := none, port := x.port.raise .stale }

theorem staled_eq (c : ChairId) (s : State) :
    (s.modChair c fun x => { x with staleness := none }).raise (.chair c) .stale = s.setChair c (s.chair c).staled := by
  rw [State.raise, State.modPort, setPort_chair, State.modChair, State.setChair_setChair]
  simp only [State.port, State.chair_setChair_self]
  rfl

theorem goStale_of_present (here : (s.chair c).presence = .present) :
    goStale c s = setHeldRamp c (fun _ => none) (s.setChair c ((s.chair c).staled.released s.policy.presenceGrace)) := by
  have timed : ((s.modChair c fun x => { x with staleness := none }).chair c).presence = .present := by
    rwa [State.modChair, State.chair_setChair_self]
  have gone : goStale c s = letGo c (s.setChair c (s.chair c).staled) := by
    unfold goStale
    dsimp only
    rw [timed, staled_eq]
  rw [gone, letGo_of_present (by rwa [State.chair_setChair_self]), State.setChair_setChair, State.chair_setChair_self]
  rfl

theorem goStale_of_settling (settling : (s.chair c).presence = .settling) :
    goStale c s = s.setChair c ((s.chair c).staled.released s.policy.presenceGrace) := by
  have timed : ((s.modChair c fun x => { x with staleness := none }).chair c).presence = .settling := by
    rwa [State.modChair, State.chair_setChair_self]
  have gone : goStale c s = letGo c (s.setChair c (s.chair c).staled) := by
    unfold goStale
    dsimp only
    rw [timed, staled_eq]
  rw [gone, letGo_of_settling (by rwa [State.chair_setChair_self]), State.setChair_setChair, State.chair_setChair_self]
  rfl

theorem goStale_of_away (away : (s.chair c).presence = .released ∨ (s.chair c).presence = .absent) :
    goStale c s = s.setChair c { s.chair c with staleness := none } := by
  unfold goStale
  rcases away with away | away <;> simp [State.modChair, away]

end Sys2Proof.Machine

namespace Sys2Proof.Settled

open Sys2Proof.Machine

/-- Settles O11: a chair that becomes PRESENT by the entry it is tied to, and one that goes stale by its presence. -/
theorem presenceTimersExpire : Obligations.PresenceTimersExpire := by
  constructor
  · intro s c hq running u
    have run (w : State) (hw : becomePresent c s = w) : exec (.settleExpiry c) s = .next (finish w) := by
      refine congrArg Host.Outcome.next ((event_of_quiet hq _).trans ?_)
      rw [if_pos (Option.isSome_iff_ne_none.2 running), hw]
    refine ⟨fun target => ?_, fun one i target h record => ?_⟩
    · have present : becomePresent c s = readied c (setHeldRamp c engageRamp u) := by
        rw [becomePresent_eq]
        exact congrArg (readied c) (evaluateTargeting_of_none (setHeldRamp_targetSlot (v := u) engageRamp target))
      have chair : ((setHeldRamp c engageRamp u).chair c).state = (s.chair c).state := by
        rw [setHeldRamp_chair, State.chair_setChair_self]
      refine ⟨fun i held busy => ?_, fun held busy => ?_, fun held ready => ?_⟩
      · rw [run _ present, readied_of_busy (by rwa [chair]), setHeldRamp_of_held (v := u) held, finish_of_quiet (by exact hq)]
        rfl
      · rw [run _ present, readied_of_busy (by rwa [chair]), setHeldRamp_of_none (v := u) held, finish_of_quiet (by exact hq)]
      · rw [run _ present, readied_of_ready (by rwa [chair]), setHeldRamp_of_none (v := u) held, finish_due (by exact hq)]
    · have tied := (chairFits_iff_tied s c).1 (one c)
      have aimed : u.Aimed c i h := (tied.aimed target record).setChair rfl
      obtain ⟨once, called, -⟩ := aimed.evaluated
      have present : becomePresent c s = readied c (evaluateTargeting c u) := by
        rw [becomePresent_eq]
        exact congrArg (fun w => readied c (evaluateTargeting c w)) (setHeldRamp_of_none (v := u) (tied.heldSlot_none target) _)
      rw [run _ present, once, called, finish_evaluated (by exact hq)]
  · intro s c hq running x released
    have run (w : State) (quiet : w.dispatchDue = s.dispatchDue) (hw : goStale c s = w) : exec (.stalenessExpiry c) s = .next w := by
      refine congrArg Host.Outcome.next ((event_of_quiet hq _).trans ?_)
      rw [if_pos (Option.isSome_iff_ne_none.2 running), hw, finish_of_quiet (quiet.trans hq)]
    refine ⟨fun here i held => ?_, fun away => ?_, fun away => ?_⟩
    · refine run _ rfl ?_
      rw [goStale_of_present here]
      exact setHeldRamp_of_held (v := s.setChair c released) held _
    · rcases away with settling | ⟨here, free⟩
      · exact run _ rfl (goStale_of_settling settling)
      · refine run _ rfl ?_
        rw [goStale_of_present here]
        exact setHeldRamp_of_none (v := s.setChair c released) free _
    · exact run _ rfl (goStale_of_away away)

end Sys2Proof.Settled
end


section
/-! SUPPORT. An AXIS frame (R83): every write of its chair in one record, then the ramp, the gate and the dispatcher. -/

namespace Sys2Proof.Machine

variable {s v : State} {i : Slot} {c : ChairId} {h : Handover}

/-! ### The record of the chair -/

/-- A chair that has taken an AXIS frame, before its ENABLE is looked at (R83 to R86). -/
def Chair.sampled (f : AxisFrame) (stale : Nat) (x : Chair) : Chair :=
  { x with
    state := if x.state = .offline then .idle else x.state
    latch := if x.state = .offline then false else x.latch
    presence := if x.state = .offline then .absent else x.presence
    staleness := some stale
    sample := sampleOf f
    port := if f.gear = 3#2 then x.port.heard.raise .gearInvalid else x.port.heard }

/-- A chair after the ENABLE of an AXIS frame (R78, R80). -/
def Chair.enabled (enable : Bool) (settle grace : Nat) (x : Chair) : Chair :=
  match enable, x.presence with
  | true, .released | true, .absent => if settle = 0 then x.presented else { x with presence := .settling, settle := some settle }
  | false, .present | false, .settling => x.released grace
  | _, _ => x

/-- The presence and its timers after an AXIS frame. -/
theorem Chair.enabled_eq (enable : Bool) (settle grace : Nat) (x : Chair) :
    x.enabled enable settle grace =
      { x with
        presence := presenceAfter enable settle x.presence
        settle :=
          if enable = true ∧ (x.presence = .released ∨ x.presence = .absent) then (if settle = 0 then none else some settle)
          else if enable = false ∧ (x.presence = .present ∨ x.presence = .settling) then none else x.settle
        grace :=
          if (enable = true ∧ (x.presence = .released ∨ x.presence = .absent)) ∧ settle = 0 then none
          else if enable = false ∧ (x.presence = .present ∨ x.presence = .settling) then some (x.grace.getD grace) else x.grace } := by
  obtain ⟨state, latch, presence, settled, graced, stale, sample, port⟩ := x
  cases enable with
  | true =>
    cases presence with
    | present | settling => rfl
    | released | absent => by_cases once : settle = 0 <;> simp [Chair.enabled, presenceAfter, Chair.presented, once]
  | false => cases presence <;> simp [Chair.enabled, presenceAfter, Chair.released]

/-- A chair after the whole of an AXIS frame but the evaluations. -/
def Chair.axisTaken (f : AxisFrame) (p : Policy) (x : Chair) : Chair :=
  (x.sampled f p.axisStale).enabled f.enable p.pressSettle p.presenceGrace

/-- The writes of an AXIS frame before its ENABLE are one write of the chair. -/
theorem sampled_eq (c : ChairId) (f : AxisFrame) (s : State) :
    (let u := (goodFrame (.chair c) s).modChair c fun x => { x with sample := sampleOf f }
     let w := if f.gear = 3#2 then u.raise (.chair c) .gearInvalid else u
     w.modChair c fun x => { x with staleness := some w.policy.axisStale }) =
      s.setChair c ((s.chair c).sampled f s.policy.axisStale) := by
  have heard : goodFrame (.chair c) s = s.setChair c
      { s.chair c with
        state := if (s.chair c).state = .offline then .idle else (s.chair c).state
        latch := if (s.chair c).state = .offline then false else (s.chair c).latch
        presence := if (s.chair c).state = .offline then .absent else (s.chair c).presence
        port := (s.chair c).port.heard } := by
    by_cases off : (s.chair c).state = .offline
    · rw [goodFrame_offline off, goodFrame_chair (by simp)]
      simp [State.heardFrom, off]
    · rw [goodFrame_chair off, State.heardFrom]
      simp [off]
  rw [heard]
  by_cases gear : f.gear = 3#2
  · simp [gear, State.modChair, State.raise, State.modPort, setPort_chair, State.port, Chair.sampled]
  · simp [gear, State.modChair, Chair.sampled]

theorem takeAxis_eq (c : ChairId) (f : AxisFrame) (s : State) :
    takeAxis c f s =
      evaluateTargeting c (if f.enable then press c (s.setChair c ((s.chair c).sampled f s.policy.axisStale))
        else letGo c (s.setChair c ((s.chair c).sampled f s.policy.axisStale))) := by
  rw [← sampled_eq]
  rfl

/-! ### The evaluations -/

theorem press_of_pressed {u : State} (h : (u.chair c).presence = .present ∨ (u.chair c).presence = .settling) : press c u = u := by
  unfold press
  rcases h with h | h <;> rw [h]

theorem press_of_away {u : State} (h : (u.chair c).presence = .released ∨ (u.chair c).presence = .absent) :
    press c u = if u.policy.pressSettle = 0 then becomePresent c u
      else u.setChair c { u.chair c with presence := .settling, settle := some u.policy.pressSettle } := by
  unfold press
  rcases h with h | h <;> rw [h] <;> rfl

theorem letGo_of_away {u : State} (h : (u.chair c).presence = .released ∨ (u.chair c).presence = .absent) : letGo c u = u := by
  unfold letGo
  rcases h with h | h <;> rw [h]

/-- How an AXIS frame ends: the chair becomes PRESENT, leaves PRESENT, or does neither. -/
inductive AxisEnd (c : ChairId) (before : Presence) (v : State) : State → Prop where
  | became (away : before ≠ .present) (here : (v.chair c).presence = .present) :
      AxisEnd c before v (evaluateTargeting c (readied c (evaluateTargeting c (setHeldRamp c engageRamp v))))
  | left (here : before = .present) (away : (v.chair c).presence ≠ .present) : AxisEnd c before v (setHeldRamp c (fun _ => none) v)
  | stayed (same : before = .present ↔ (v.chair c).presence = .present) : AxisEnd c before v (evaluateTargeting c v)

theorem setHeldRamp_presence (ramp : State → Option Ramp) (u : State) :
    ((setHeldRamp c ramp u).chair c).presence = (u.chair c).presence := by
  rw [setHeldRamp_chair]

theorem takeAxis_end (c : ChairId) (f : AxisFrame) (s : State) :
    AxisEnd c ((s.chair c).sampled f s.policy.axisStale).presence (s.setChair c ((s.chair c).axisTaken f s.policy)) (takeAxis c f s) := by
  rw [takeAxis_eq]
  unfold Chair.axisTaken
  generalize hx : (s.chair c).sampled f s.policy.axisStale = x
  have chair (y : Chair) : (s.setChair c y).chair c = y := State.chair_setChair_self ..
  have stayed {w : State} {y : Chair} (hw : w = s.setChair c y) (same : x.presence = .present ↔ y.presence = .present) :
      AxisEnd c x.presence (s.setChair c y) (evaluateTargeting c w) := by
    rw [hw]
    exact .stayed (by rwa [chair])
  have pressed (away : x.presence = .released ∨ x.presence = .absent) :
      AxisEnd c x.presence (s.setChair c (if s.policy.pressSettle = 0 then x.presented
        else { x with presence := .settling, settle := some s.policy.pressSettle })) (evaluateTargeting c (press c (s.setChair c x))) := by
    rw [press_of_away (by rwa [chair])]
    by_cases once : s.policy.pressSettle = 0
    · have present : becomePresent c (s.setChair c x) =
          readied c (evaluateTargeting c (setHeldRamp c engageRamp (s.setChair c x.presented))) := by
        rw [becomePresent_eq, chair, State.setChair_setChair]
      rw [if_pos once, if_pos (by exact once), present]
      exact .became (by rcases away with h | h <;> simp [h]) (by rw [chair]; rfl)
    · rw [if_neg once, if_neg (by exact once)]
      refine stayed ?_ (by rcases away with h | h <;> simp [h])
      rw [chair, State.setChair_setChair]
      rfl
  cases enable : f.enable with
  | true =>
    rw [if_pos rfl]
    cases presence : x.presence with
    | present | settling =>
      have kept : x.enabled true s.policy.pressSettle s.policy.presenceGrace = x := by simp [Chair.enabled, presence]
      rw [kept, ← presence]
      exact stayed (press_of_pressed (by simp [presence])) Iff.rfl
    | released | absent =>
      have away : x.presence = .released ∨ x.presence = .absent := by simp [presence]
      rw [← presence]
      have written := pressed away
      simpa only [Chair.enabled, presence] using written
  | false =>
    rw [if_neg (by simp)]
    cases presence : x.presence with
    | released | absent =>
      have kept : x.enabled false s.policy.pressSettle s.policy.presenceGrace = x := by simp [Chair.enabled, presence]
      rw [kept, ← presence]
      exact stayed (letGo_of_away (by simp [presence])) Iff.rfl
    | settling =>
      have gone : x.enabled false s.policy.pressSettle s.policy.presenceGrace = x.released s.policy.presenceGrace := by
        simp [Chair.enabled, presence]
      rw [gone, ← presence]
      refine stayed ?_ (by simp [presence, Chair.released])
      rw [letGo_of_settling (by rwa [chair]), chair, State.setChair_setChair]
      rfl
    | present =>
      have gone : x.enabled false s.policy.pressSettle s.policy.presenceGrace = x.released s.policy.presenceGrace := by
        simp [Chair.enabled, presence]
      have away : ((s.setChair c (x.released s.policy.presenceGrace)).chair c).presence ≠ .present := by
        rw [chair]
        simp [Chair.released]
      have dropped : letGo c (s.setChair c x) = setHeldRamp c (fun _ => none) (s.setChair c (x.released s.policy.presenceGrace)) := by
        rw [letGo_of_present (by rwa [chair]), chair, State.setChair_setChair]
        rfl
      rw [gone, dropped, evaluateTargeting_of_away (by rwa [setHeldRamp_presence])]
      exact .left rfl away

theorem setEntry_entry_self (s : State) (i : Slot) : s.setEntry i (s.entry i) = s := by
  have same : s.entries.set i (s.entry i) = s.entries := Vector.set_getElem_self ..
  exact congrArg (fun v => ({ s with entries := v } : State)) same

/-! ### What an AXIS frame leaves alone -/

/-- The chairs but for their states and their ports, and everything but entries, chairs and calls, are as they were. -/
structure ButOffers (s t : State) : Prop where
  chair : ∀ d, SameButOffer (s.chair d) (t.chair d)
  elsewhere : SameElsewhere s t

theorem ButOffers.refl (s : State) : ButOffers s s := ⟨fun _ => rfl, .refl s⟩

theorem sameButOffer_trans {x y z : Chair} (h : SameButOffer x y) (k : SameButOffer y z) : SameButOffer x z :=
  (congrArg (fun w : Chair => { w with state := x.state, port := x.port }) k).trans h

theorem ButOffers.trans {s t u : State} (h : ButOffers s t) (k : ButOffers t u) : ButOffers s u :=
  ⟨fun d => sameButOffer_trans (h.chair d) (k.chair d), h.elsewhere.trans k.elsewhere⟩

theorem sameButOffer_ite {p : Prop} [Decidable p] {x y z : Chair} (h : SameButOffer x y) (k : SameButOffer x z) :
    SameButOffer x (if p then y else z) := by
  split
  exacts [h, k]

theorem answered_sameButOffer (code : Code) (x : Chair) : SameButOffer x (x.answered code) := by
  unfold Chair.answered
  split
  · rfl
  · exact sameButOffer_ite rfl rfl

theorem transfer_butOffers (i : Slot) (h : Handover) (s : State) : ButOffers s (transfer i h s) := by
  refine ⟨fun d => ?_, transfer_elsewhere i h s⟩
  rw [transfer_chair]
  unfold Chair.transferred
  dsimp only
  have driving (x : Chair) : SameButOffer x (if h.target = .chair d then { x with state := .driving } else x) := sameButOffer_ite rfl rfl
  have settled (x : Chair) : SameButOffer x (if h.source = some (.chair d) then x.settled else x) := sameButOffer_ite rfl rfl
  have answered (x : Chair) : SameButOffer x (if h.requester = some d then x.answered .done else x) :=
    sameButOffer_ite (answered_sameButOffer _ x) rfl
  have before := sameButOffer_trans (driving (s.chair d)) (sameButOffer_trans (settled _) (answered _))
  exact sameButOffer_ite (sameButOffer_trans before rfl) before

theorem evaluateTargeting_butOffers (c : ChairId) (s : State) : ButOffers s (evaluateTargeting c s) := by
  unfold evaluateTargeting
  split
  · exact .refl s
  · unfold evaluateGate
    split
    · exact .refl s
    · split
      · exact .refl s
      · split
        · exact transfer_butOffers ..
        · exact .refl s

theorem setHeldRamp_butOffers (c : ChairId) (ramp : State → Option Ramp) (s : State) : ButOffers s (setHeldRamp c ramp s) := by
  unfold setHeldRamp
  split
  · exact ⟨fun _ => rfl, .refl s⟩
  · exact .refl s

theorem readied_butOffers (c : ChairId) (s : State) : ButOffers s (readied c s) := by
  unfold readied
  split
  · exact ⟨fun _ => rfl, .refl s⟩
  · exact .refl s

theorem finish_butOffers (s : State) : ButOffers s (finish s) :=
  ⟨fun d => (finish_dispatched s).sameButOffer d, finish_elsewhere s⟩

theorem AxisEnd.butOffers {before : Presence} {t : State} (h : AxisEnd c before v t) : ButOffers v t := by
  cases h with
  | became =>
    exact (setHeldRamp_butOffers _ _ _).trans ((evaluateTargeting_butOffers _ _).trans
      ((readied_butOffers _ _).trans (evaluateTargeting_butOffers _ _)))
  | left => exact setHeldRamp_butOffers _ _ _
  | stayed => exact evaluateTargeting_butOffers _ _

/-- A chair that a record targets is online. -/
theorem State.Tied.online (tied : s.Tied c) (target : s.targetSlot c = some i) : (s.chair c).state ≠ .offline := by
  obtain ⟨st, -, ties⟩ := ties_of_targets (targets_of_targetSlot target)
  intro off
  rw [(tied.told ties).symm.trans off] at ties
  cases ties

theorem readied_due (c : ChairId) (s : State) (b : Bool) (hb : b = decide ((s.chair c).state = .ready)) (hq : s.Quiet) :
    finish (readied c s) = ranIf b s := by
  unfold readied
  split
  next ready => rw [finish_due hq, hb, decide_eq_true ready]; rfl
  next busy => rw [finish_of_quiet hq, hb, decide_eq_false busy]; rfl

theorem gearHeld_eq (g : BitVec 2) : gearHeld g = if g = 1#2 then .f else if g = 2#2 then .r else .n := by
  revert g
  decide

end Sys2Proof.Machine

namespace Sys2Proof.Settled

open Sys2Proof.Machine

/-- Settles O10: the record of the chair, and the end of the frame by what it does to the presence. -/
theorem axisFramesAreTaken : Obligations.AxisFramesAreTaken := by
  intro s c f hq formed x before after pressed freed y became v ramped u
  have written : x.axisTaken f s.policy = y := by
    have gear := gearHeld_eq f.gear
    have raised (r : PortRegs) : r.raise .gearInvalid = { r with flags := r.flags ||| 0x010#16, errors := min 255 (r.errors + 1) } := rfl
    have port : (if f.gear = 3#2 then x.port.heard.raise .gearInvalid else x.port.heard) = y.port := by
      simp only [y, raised, PortRegs.heard]
      split <;> rfl
    have sampled : x.sampled f s.policy.axisStale =
        { y with presence := before, settle := x.settle, grace := x.grace } := by
      simp only [Chair.sampled, port, sampleOf, gear]
      rfl
    rw [Chair.axisTaken, sampled, Chair.enabled_eq]
  have ending := takeAxis_end c f s
  have run : exec (.axis c f) s = .next (finish (takeAxis c f s)) := by
    refine congrArg Host.Outcome.next ((event_of_quiet hq _).trans ?_)
    rw [if_pos ((wellFormed_iff f).2 formed)]
  have chair : v.chair c = y := State.chair_setChair_self ..
  rw [show (s.chair c).axisTaken f s.policy = y from written] at ending
  change AxisEnd c before v _ at ending
  rw [run]
  generalize takeAxis c f s = t at ending
  refine ⟨fun target => ?_, fun one i target h record => ?_, ?_⟩
  · have untargeted (w : State) (hw : w.targetSlot c = none) : evaluateTargeting c w = w := evaluateTargeting_of_none hw
    have ramp (r : State → Option Ramp) (h : ∀ i, ramped (s.entry i) = { s.entry i with ramp := r v }) : u = setHeldRamp c r v := by
      cases held : s.heldSlot c with
      | none =>
        rw [setHeldRamp_of_none (v := v) held]
        simp only [u, held]
      | some i =>
        rw [setHeldRamp_of_held (v := v) held]
        simp only [u, held, h]
        rfl
    refine congrArg Host.Outcome.next ?_
    cases ending with
    | became away here =>
      rw [chair] at here
      have now : became := ⟨away, here⟩
      have same : u = setHeldRamp c engageRamp v := ramp _ fun i => by simp only [ramped, if_pos now]; rfl
      have called : (readied c (setHeldRamp c engageRamp v)).targetSlot c = none := by
        unfold readied
        split <;> exact setHeldRamp_targetSlot (v := v) _ target
      rw [untargeted _ (setHeldRamp_targetSlot (v := v) _ target), untargeted _ called, same]
      refine readied_due _ _ _ ?_ ((setHeldRamp_dispatchDue _).trans hq)
      rw [setHeldRamp_chair, chair]
      simp only [now, true_and]
    | left here away =>
      have never : ¬ became := fun h => h.1 here
      rw [chair] at away
      have gone : after ≠ .present := away
      have same : u = setHeldRamp c (fun _ => none) v := ramp _ fun i => by simp only [ramped, if_neg never, if_pos (And.intro here gone)]
      rw [same, finish_of_quiet ((setHeldRamp_dispatchDue (v := v) _).trans hq)]
      simp only [never, false_and, decide_false]
      rfl
    | stayed same =>
      rw [chair] at same
      have never : ¬ became := fun h => h.1 (same.2 h.2)
      have here : ¬ (before = .present ∧ after ≠ .present) := fun h => h.2 (same.1 h.1)
      have kept : u = v := by
        cases held : s.heldSlot c with
        | none => simp only [u, held]
        | some i =>
          simp only [u, held, ramped, if_neg never, if_neg here]
          exact setEntry_entry_self v i
      rw [untargeted v target, finish_of_quiet (by exact hq), kept]
      simp only [never, false_and, decide_false]
      rfl
  · have tied := (chairFits_iff_tied s c).1 (one c)
    have aimed : v.Aimed c i h := (tied.aimed target record).setChair (if_neg (tied.online target))
    have free : v.heldSlot c = none := tied.heldSlot_none target
    obtain ⟨once, called, again⟩ := aimed.evaluated
    refine congrArg Host.Outcome.next ?_
    rw [← finish_evaluated (by exact hq)]
    cases ending with
    | became => rw [setHeldRamp_of_none free, once, called, again]
    | left here away =>
      rw [setHeldRamp_of_none free, if_neg]
      rintro ⟨-, passes⟩
      rw [gatePasses_of_away aimed.target away] at passes
      cases passes
    | stayed => rw [once]
  · have kept := ending.butOffers.trans (finish_butOffers t)
    refine ⟨_, rfl, ?_, fun d other => ?_, kept.elsewhere⟩
    · have own := kept.chair c
      rwa [chair] at own
    · have others := kept.chair d
      rwa [State.chair_setChair_of_ne _ _ (Ne.symm other)] at others

end Sys2Proof.Settled
end


section
/-! SUPPORT. The frames of the fleet link that are dropped, the ID answer, the answer timer and LOADER_RESTART. -/

namespace Sys2Proof.Machine

variable {s : State} {i : Slot} {u : UnitNumber}

/-! ### Frames of the fleet link -/

theorem exec_fromUnit_unbound (hq : s.Quiet) (hu : s.slotOfUnit u = none) (act : Slot → State → State) :
    event (fromUnit u act) s = s.raise .service .unknownUnit := by
  have dropped : fromUnit u act s = s.raise .service .unknownUnit := by simp [fromUnit, hu]
  rw [event_eq_of_quiet hq (by rw [dropped, raise_dispatchDue]), dropped]

theorem event_raise (hq : s.Quiet) (f : Sticky) : event (fun v => v.raise .service f) s = s.raise .service f :=
  event_eq_of_quiet hq (raise_dispatchDue ..)

/-- A fleet flag does not count (R188). -/
theorem raise_service_of_silent (s : State) {f : Sticky} (h : f.counts = false) :
    s.raise .service f =
      { s with service := { s.service with port := { s.service.port with flags := s.service.port.flags ||| f.mask } } } := by
  unfold State.raise State.modPort State.setPort PortRegs.raise
  rw [h]
  rfl

theorem listens_iff (e : Entry) (x : Context) :
    listens e x = true ↔ e.state.carries = true ∨ e.state = .locked ∨ e.state = .linkLost ∨ e.state = .tripped ∨
      (e.state = .discovering ∧ x.stage = some .awaitingTelemetry) := by
  unfold listens
  cases h : e.state <;> simp [EntryState.carries]

theorem takeTelemetry_of_deaf (h : listens (s.entry i) (s.context i) = false) (payload : List Byte) : takeTelemetry i payload s = s := by
  simp [takeTelemetry, h]

theorem takeTelemetry_of_length (h : listens (s.entry i) (s.context i) = true) {payload : List Byte} {a : Admitted}
    (ha : (s.context i).admitted = some a) (length : payload.length ≠ a.inBytes) :
    takeTelemetry i payload s = s.raise .service .fleetFormat := by
  have wrong : payload.length ≠ ((s.context i).admitted.map (·.inBytes)).getD 0 := by simpa [ha] using length
  unfold takeTelemetry
  dsimp only
  rw [h, if_neg (by simp), if_pos wrong]

theorem clampTo_period (n : Nat) :
    clampTo Config.minPeriodMs Config.maxPeriodMs n = if n < 20 then 20 else if 200 < n then 200 else n := by
  unfold clampTo Config.minPeriodMs Config.maxPeriodMs
  split_ifs <;> omega

/-! ### LOADER_RESTART (R97, R145) -/

/-- An entry without a holder, a record and a call leaves authority by the write of the entry alone. -/
theorem leave_of_idle (free : (s.entry i).handover = none) (held : (s.entry i).holder = none) (auto : (s.entry i).state ≠ .auto)
    (cause : Code) (lost : Option Code) (f : Entry → Entry) : leave i cause lost f s = s.modEntry i f := by
  have kept (u : State) : releaseHolder i (s.entry i) lost u = u := by
    unfold releaseHolder
    split
    next h => rw [held] at h; cases h
    next => rfl
  rw [leave_eq, abandon_of_none _ free, kept, autoCallRemoved, if_neg auto]

theorem idle_of_lost (holders : s.HolderLaw) (records : s.RecordLaw)
    (out : (s.entry i).state = .tripped ∨ (s.entry i).state = .refused ∨ (s.entry i).state = .linkLost) :
    (s.entry i).handover = none ∧ (s.entry i).holder = none ∧ (s.entry i).state ≠ .auto := by
  have holder := holders i
  have record := records i
  unfold Entry.holderFits at holder
  rcases out with h | h | h <;> simp_all [EntryState.carries]

/-- A read takes the place of a read alone. -/
theorem mem_placeRead_of_mem {f g : FleetFrame} {q : List FleetFrame} (h : f ∈ q) (command : ∀ j, f.isReadOf j = false) :
    f ∈ placeRead g q := by
  induction q with
  | nil => cases h
  | cons k q ih =>
    unfold placeRead
    split
    next read =>
      rcases List.mem_cons.1 h with rfl | later
      · rw [command] at read; cases read
      · exact List.mem_cons_of_mem _ later
    next =>
      rcases List.mem_cons.1 h with rfl | later
      · exact List.mem_cons_self
      · exact List.mem_cons_of_mem _ (ih later)

end Sys2Proof.Machine

namespace Sys2Proof.Settled

open Sys2Proof.Machine

/-- Settles O33: the next read placed, and the refusal of the stage. -/
theorem idAnswersAndTimeouts : Obligations.IdAnswersAndTimeouts := by
  refine ⟨fun s u name period watchdog i hq hu => ⟨fun stage => ?_, fun other => ?_⟩, fun s i hq running st stage => ?_⟩
  · refine congrArg Host.Outcome.next ((event_fromUnit hq hu _).trans ?_)
    rw [if_pos stage, takeId, sendRead_eq, finish_of_quiet (by exact hq), clampTo_period]
  · refine congrArg Host.Outcome.next ((event_fromUnit hq hu _).trans ?_)
    rw [if_neg other, finish_of_quiet hq]
  · refine congrArg Host.Outcome.next ((event_of_quiet hq _).trans ?_)
    rw [if_pos (Option.isSome_iff_ne_none.2 running), finish_of_quiet (refuse_quiet hq ..), refuse_of_stage stage]

/-- Settles O37: the flag of each dropped frame, and the TELEMETRY that is not taken. -/
theorem fleetFramesAreDropped : Obligations.FleetFramesAreDropped := by
  refine ⟨fun s hq => ?_, fun s u i payload hq hu => ?_⟩
  · intro flagged
    have bad (why : BadFleetFrame) : exec (.badFleetFrame why) s = .next (s.raise .service (fleetFlag why s)) :=
      congrArg _ (event_eq_of_quiet hq (raise_dispatchDue ..))
    have unbound {v : UnitNumber} (hv : s.slotOfUnit v = none) (act : Slot → State → State) :
        Host.Outcome.next (event (fromUnit v act) s) = (.next (flagged 0x100#16) : Host.Outcome State Fault Refusal) :=
      congrArg _ ((exec_fromUnit_unbound hq hv act).trans (raise_service_of_silent s rfl))
    refine ⟨bad _, bad _, bad _, bad _, ?_, fun v j hv => ?_, fun v hv => ⟨fun r => unbound hv _, unbound hv _, fun p => unbound hv _,
      fun n p w => unbound hv _, fun n d => unbound hv _, ?_⟩⟩
    · refine congrArg Host.Outcome.next ((event_eq_of_quiet hq ?_).trans ?_)
      · rw [if_pos rfl, raise_dispatchDue]
      · rw [if_pos rfl]
        rfl
    · rw [bad, fleetFlag, hv]
      rfl
    · rw [bad, fleetFlag, hv]
      rfl
  · intro e x taken
    have run : exec (.telemetry u payload) s = .next (finish (takeTelemetry i payload s)) :=
      congrArg _ (event_fromUnit hq hu fun i s => takeTelemetry i payload s)
    refine ⟨fun out => ?_, fun a ha into length => ?_⟩
    · rw [run, takeTelemetry_of_deaf (Bool.eq_false_iff.2 (mt (listens_iff _ _).1 out)), finish_of_quiet hq]
    · rw [run, takeTelemetry_of_length ((listens_iff _ _).2 into) ha length, finish_of_quiet ((raise_dispatchDue ..).trans hq)]
      rfl

/-- Settles O31: an entry out of authority leaves it by its blank write alone, and the RESTART frame stands. -/
theorem loaderRestartRediscovers : Obligations.LoaderRestartRediscovers := by
  intro s tag slot i hq holders records ht hi told answered
  refine ⟨fun out => ?_, fun other => ?_⟩
  · obtain ⟨free, vacant, auto⟩ := idle_of_lost holders records out
    let w := s.serviceHeard.queueRestart i
    have started : startDiscovery i w = beginReads i (w.setEntry i (Entry.blank .discovering)) :=
      congrArg (beginReads i) (leave_of_idle (s := w) free vacant auto ..)
    have run : exec (.loaderRestart ⟨.service, tag⟩ slot) s =
        .next (reply ⟨.service, tag⟩ .loaderRestart .done (.slot slot) (startDiscovery i w)) := by
      refine congrArg Host.Outcome.next ((event_takeRequest_service hq ht tag rfl _ _).trans ?_)
      rw [withSlot, hi]
      dsimp only
      have ended (u : State) (quiet : u.Quiet) : finish (reply ⟨.service, tag⟩ .loaderRestart .done (.slot slot) u) =
          reply ⟨.service, tag⟩ .loaderRestart .done (.slot slot) u := finish_of_quiet ((reply_dispatchDue ..).trans quiet)
      cases hst : (s.serviceHeard.entry i).state with
      | tripped | refused | linkLost => exact ended _ (by rw [started]; exact hq)
      | _ => rw [show (s.entry i).state = _ from hst] at out; simp at out
    rw [started] at run
    have slots (j : Slot) := beginReads_slot i j (Entry.blank .discovering) w
    refine ⟨_, run, ?_, rfl, ?_, rfl, rfl, rfl, rfl, rfl, rfl, fun j other => ?_⟩
    · have own := slots i
      rw [if_pos rfl] at own
      simp only [Prod.mk.injEq] at own
      exact own
    · refine mem_placeRead_of_mem (List.mem_filter.2 ⟨mem_placeRestart _ _, ?_⟩) fun _ => rfl
      simp [FleetFrame.isRestart]
    · have theirs := slots j
      rw [if_neg (Ne.symm other)] at theirs
      simp only [Prod.mk.injEq] at theirs
      exact theirs
  · refine congrArg Host.Outcome.next ((event_takeRequest_service hq ht tag rfl _ _).trans ?_)
    rw [withSlot, hi]
    dsimp only
    cases hst : (s.serviceHeard.entry i).state with
    | tripped | refused | linkLost => rw [show (s.entry i).state = _ from hst] at other; simp at other
    | _ => exact finish_reply_serviceHeard hq ..

end Sys2Proof.Settled
end


section
/-! SUPPORT. What a QUERY reads (R26, R73, R92, R129, R148, R170, R172). -/

namespace Sys2Proof.Machine

variable {s : State}

/-- QUERY once it reaches its owner. -/
def queryTaken (r : Sender) (target number field index : Byte) (s : State) : State :=
  match queryContent target number field index s with
  | some content => reply r .query .done content s
  | none => fieldError r .query .nothing s

theorem exec_query (r : Sender) (target number field index : Byte) (s : State) :
    exec (.query r target number field index) s = .next (event (takeRequest r .query .nothing (queryTaken r target number field index)) s) :=
  rfl

theorem queryTaken_of_content {target number field index : Byte} {content : Content}
    (h : queryContent target number field index s = some content) (r : Sender) :
    queryTaken r target number field index s = reply r .query .done content s := by
  rw [queryTaken, h]

theorem queryContent_of_slot {number : Byte} {i : Slot} (hi : slotOf number = some i) (field index : Byte) :
    queryContent 0#8 number field index s = loaderField i field index s := by
  rw [queryContent_loader rfl, hi]
  rfl

theorem queryContent_of_chair {number : Byte} {c : ChairId} (hc : chairOf number = some c) (field index : Byte) :
    queryContent 1#8 number field index s = chairField c field s := by
  rw [queryContent_chair rfl, hc]
  rfl

theorem halted_eq (s : State) (i : Slot) :
    s.halted i = ((s.entry i).state == .held && (match (s.entry i).holder with
      | some (.chair c) => (s.chair c).presence != .present
      | _ => false)) := by
  unfold State.halted
  cases (s.entry i).state with
  | held =>
    rcases (s.entry i).holder with _ | _ | _ <;> rfl
  | _ => rfl

theorem halted_of_driving {i : Slot} {c : ChairId} (held : (s.entry i).heldBy c = true) :
    s.halted i = ((s.chair c).presence != .present) := by
  obtain ⟨state, holder⟩ := (heldBy_iff _ _).1 held
  rw [halted_eq, state, holder]
  rfl

/-- The gains are those of the analog OUT channels (R148). -/
theorem gainOf_eq (x : Context) (d : Descriptor) :
    gainOf x d = x.admitted.bind fun a =>
      if d.direction.toNat = 0 then
        (match d.function.toNat with
          | 0 => some a.steer
          | 1 => some a.travel
          | 2 => some a.boom
          | 3 => some a.bucket
          | _ => none)
      else none := by
  have out : isOut d = decide (d.direction.toNat = 0) := by
    rw [(isOut_isIn_eq d).1, Bool.eq_iff_iff]
    simp [← BitVec.toNat_inj]
  unfold gainOf functionOf
  cases x.admitted with
  | none => rfl
  | some a =>
    rw [out]
    by_cases zero : d.direction.toNat = 0
    · simp only [zero, decide_true, Bool.and_true, Option.bind_some, if_true]
      generalize d.function.toNat = n
      rcases n with _ | _ | _ | _ | n
      · rfl
      · rfl
      · rfl
      · rfl
      · have later : functions[n + 4]? = (functions.drop 4)[n]? := rfl
        cases hf : functions[n + 4]? with
        | none => rfl
        | some f =>
          have discrete : f.analog = false :=
            (show ∀ f ∈ functions.drop 4, f.analog = false by decide) f (List.mem_of_getElem? (later.symm.trans hf))
          simp [discrete]
    · simp only [zero, decide_false, Bool.and_false, Option.bind_some, if_false]
      split
      · rfl
      · rfl

end Sys2Proof.Machine

namespace Sys2Proof.Settled

open Sys2Proof.Machine

/-- Settles O26: the answer of a QUERY, and each field by its number. -/
theorem queriesRead : Obligations.QueriesRead := by
  refine ⟨fun s c tag target number field index content hq ht h => ?_, fun s tag target number field index content hq ht h => ?_,
    fun s number index i hi => ?_, fun s number index c hc => ?_, fun s number field index => ?_⟩
  · refine congrArg Host.Outcome.next ((event_takeRequest_chair hq ht tag rfl _ _).trans ?_)
    exact (congrArg finish (queryTaken_of_content (s := s.heardFrom c) h ⟨.chair c, tag⟩)).trans (finish_reply_heardFrom hq ht ..)
  · refine congrArg Host.Outcome.next ((event_takeRequest_service hq ht tag rfl _ _).trans ?_)
    exact (congrArg finish (queryTaken_of_content (s := s.serviceHeard) h ⟨.service, tag⟩)).trans (finish_reply_serviceHeard hq ..)
  · intro e read
    have reads (field : Byte) : read field = loaderField i field index s := queryContent_of_slot hi field index
    have state : read 0#8 = some (.entryState e.state (s.halted i) (e.state == .held && e.zoneDrop)) := reads _
    refine ⟨by rw [state, halted_eq] <;> rfl, reads _, reads _, reads _, reads _, reads _, reads _, reads _, fun n hn p hp w hw => ?_, fun hn => ?_,
      fun few => ⟨fun hd => ?_, fun d hd => ?_⟩⟩
    · rw [reads]
      show some (Content.name _) = _
      rw [hn, hp, hw]
    · rw [reads]
      show some (Content.name _) = _
      rw [hn]
    · rw [reads]
      show (if index.toNat ≤ 23 then _ else _) = _
      rw [if_pos few, hd]
      rfl
    · rw [reads]
      show (if index.toNat ≤ 23 then _ else _) = _
      rw [if_pos few, hd, Option.map_some, gainOf_eq] <;> rfl
  · intro x read
    have reads (field : Byte) : read field = chairField c field s := queryContent_of_chair hc field index
    have loader : read 2#8 = some (.loader (chairLoader c s)) := reads _
    refine ⟨reads _, reads _, reads _, reads _, fun idle => ?_, fun driving i held => ?_, fun busy i target h record => ?_⟩
    · rw [loader, chairLoader]
      rcases idle with h | h | h <;> rw [show (s.chair c).state = _ from h]
    · rw [loader, chairLoader, show (s.chair c).state = _ from driving]
      dsimp only
      rw [held]
      dsimp only
      rw [halted_of_driving (heldBy_of_heldSlot held)]
    · rw [loader, chairLoader]
      rcases busy with b | b <;> rw [show (s.chair c).state = _ from b] <;> dsimp only <;> rw [target] <;> dsimp only <;> rw [record]
  · have policy {f : Byte} {p : PolicyField} (h : policyFieldOf f = some p) :
        queryContent 5#8 number f index s = some (.policy p (s.policy.value p)) := by
      show (policyFieldOf f).map _ = _
      rw [h]
      rfl
    refine ⟨rfl, rfl, rfl, fun z hz => ?_, fun f hf => policy ((policyFieldOf_eq_number_iff _ _).2 hf),
      fun gates k hk => policy ((policyFieldOf_eq_gate_iff _ _).2 ⟨gates, hk⟩), policy rfl⟩
    show (zoneOf number).map _ = _
    rw [hz]
    rfl

end Sys2Proof.Settled
end


section
/-! SUPPORT. An entry that leaves authority with one cause: the frames its chairs receive, its call, and what stays (R14, R45 to R57). -/

namespace Sys2Proof.Machine

variable {s t u : State} {i : Slot} {cause : Code}

/-! ### The frames of an ending (R46) -/

/-- An answer or a notice joins the tail of a queue with room. -/
theorem queue_enqueue_of_room {f : PortFrame} {p : PortRegs} (reports : f.isStatus = false) (room : waitingAnswers p.queue < 15) :
    (p.enqueue f).queue = p.queue ++ [f] := by
  rw [enqueue_answerOrNotice f p reports, if_pos (by exact room)]

/-- A chair after an abandonment has the frames of the ending behind what waited. -/
theorem queue_abandoned {h : Handover} {d : ChairId} (hh : (s.entry i).handover = some h) (cause_ne : cause ≠ .declined)
    (up : (s.chair d).state ≠ .offline) (room : waitingAnswers (s.chair d).port.queue + (s.endFrames i cause d).length ≤ 15) :
    ((s.chair d).abandoned i h cause d).port.queue = (s.chair d).port.queue ++ s.endFrames i cause d := by
  unfold State.endFrames at room ⊢
  rw [hh] at room ⊢
  dsimp only at room ⊢
  have settled : ∀ x : Chair, (if h.target = .chair d then x.settled else x).port = x.port := fun x => by split <;> rfl
  have online : ∀ x : Chair, x.state ≠ .offline → (if h.target = .chair d then x.settled else x).state ≠ .offline := fun x hx => by
    split
    · exact Chair.settled_state_ne_offline _
    · exact hx
  unfold Chair.abandoned
  dsimp only
  by_cases ask : h.requester = some d
  · have told : ¬ (h.target = .chair d ∧ h.requester ≠ some d ∧ cause ≠ .declined) := fun told => told.2.1 ask
    rw [if_neg told, if_pos ask]
    rw [if_pos ask] at room ⊢
    cases ho : (s.chair d).port.outstanding with
    | none =>
      rw [Chair.answered, settled, ho]
      simp [settled]
    | some o =>
      rw [ho] at room
      rw [Chair.answered_of_outstanding cause (online _ up) (by rw [settled]; exact ho), Chair.queued, settled]
      exact queue_enqueue_of_room rfl (by simpa using room)
  · rw [if_neg ask] at room ⊢
    rw [if_neg ask]
    by_cases target : h.target = .chair d
    · rw [if_pos target] at room
      rw [if_pos ⟨target, ask, cause_ne⟩, if_pos target, if_pos target]
      exact queue_enqueue_of_room (p := (s.chair d).port) rfl (by simpa using room)
    · have told : ¬ (h.target = .chair d ∧ h.requester ≠ some d ∧ cause ≠ .declined) := fun told => target told.1
      rw [if_neg told, if_neg target, if_neg target, List.append_nil]

/-- A chair after an abandonment has the frames of the ending behind what waited, if there was a handover. -/
theorem queue_abandon {d : ChairId} (cause_ne : cause ≠ .declined)
    (up : (s.chair d).state ≠ .offline) (room : waitingAnswers (s.chair d).port.queue + (s.endFrames i cause d).length ≤ 15) :
    ((abandon i cause s).chair d).port.queue = (s.chair d).port.queue ++ s.endFrames i cause d := by
  cases hh : (s.entry i).handover with
  | none =>
    rw [abandon_of_none _ hh, State.endFrames, hh, List.append_nil]
  | some h => rw [abandon_chair _ hh, queue_abandoned hh cause_ne up room]

/-! ### What an ending leaves -/

/-- What the part between `s` and `t` shows of an entry that has left authority with `cause`. -/
structure Parted (s t : State) (i : Slot) (cause : Code) : Prop where
  calls : ∀ k ∈ t.calls, k.slot ≠ i
  driving : ∀ c, (s.entry i).heldBy c = true → (t.chair c).state ≠ .driving
  queues : ∀ d, s.Queues t d (s.farewell i cause d)
  entries : ∀ j, j ≠ i → SameButRecord (s.entry j) (t.entry j)
  chairs : ∀ d, SameButOffer (s.chair d) (t.chair d)

theorem endFrames_not_status {d : ChairId} : waitingAnswers (s.endFrames i cause d) = (s.endFrames i cause d).length := by
  refine List.countP_eq_length.2 fun f hf => ?_
  unfold State.endFrames at hf
  split at hf
  · cases hf
  · split at hf
    · split at hf
      · rw [List.mem_singleton.1 hf]; rfl
      · cases hf
    · split at hf
      · rw [List.mem_singleton.1 hf]; rfl
      · cases hf

theorem abandon_sameButOffer (i : Slot) (cause : Code) (s : State) (d : ChairId) :
    SameButOffer (s.chair d) ((abandon i cause s).chair d) := by
  cases hh : (s.entry i).handover with
  | none => rw [abandon_of_none _ hh]
  | some h =>
    rw [abandon_chair _ hh]
    unfold Chair.abandoned
    dsimp only
    have settled (x : Chair) : SameButOffer x (if h.target = .chair d then x.settled else x) := sameButOffer_ite rfl rfl
    have answered (x : Chair) : SameButOffer x (if h.requester = some d then x.answered cause else x) :=
      sameButOffer_ite (answered_sameButOffer _ x) rfl
    have before := sameButOffer_trans (settled (s.chair d)) (answered _)
    exact sameButOffer_ite (sameButOffer_trans before rfl) before

/-- An entry that leaves authority, its own state apart. -/
theorem leave_parted (fits : s.SlotFits i) (cause_ne : cause ≠ .declined) (f : Entry → Entry) :
    Parted s (leave i cause (some cause) f s) i cause where
  calls k hk := by
    rw [leave_calls fits] at hk
    simpa using (List.mem_filter.1 hk).2
  driving c held := by
    rw [leave_chair, if_pos ((heldBy_iff _ _).1 held)]
    cases h : ((abandon i cause s).chair c).latch <;> simp [Chair.queued, Chair.settled, h]
  queues d up room := by
    rw [State.farewell, List.length_append] at room
    have ended := queue_abandon cause_ne up (Nat.le_trans (Nat.add_le_add_left (Nat.le_add_right _ _) _) room)
    rw [leave_chair, State.farewell]
    by_cases held : (s.entry i).heldBy d = true
    · rw [if_pos held] at room ⊢
      rw [if_pos ((heldBy_iff _ _).1 held), ← List.append_assoc, ← ended]
      have free : waitingAnswers ((abandon i cause s).chair d).port.queue < 15 := by
        rw [ended, waitingAnswers_append, endFrames_not_status]
        simp only [List.length_singleton] at room
        omega
      have tail := queue_enqueue_of_room (f := .notice (.lost i cause)) (p := ((abandon i cause s).chair d).port) rfl free
      exact tail ▸ List.prefix_rfl
    · rw [if_neg held, if_neg (mt (heldBy_iff _ _).2 held), List.append_nil, ended]
  entries j other := by rw [leave_entry_of_ne other]
  chairs d := by
    rw [leave_chair]
    exact sameButOffer_ite (sameButOffer_trans (abandon_sameButOffer ..) rfl) (abandon_sameButOffer ..)

/-- What happens before, at other records, does not change what an ending shows. -/
theorem Parted.of_before (h : Parted u t i cause) (handover : (u.entry i).handover = (s.entry i).handover)
    (held : ∀ c, (u.entry i).heldBy c = (s.entry i).heldBy c) (others : ∀ j, j ≠ i → u.entry j = s.entry j)
    (chairs : ∀ d, u.chair d = s.chair d) : Parted s t i cause where
  calls := h.calls
  driving c hc := h.driving c ((held c).trans hc)
  queues d := by
    have frames : s.farewell i cause d = u.farewell i cause d := by
      unfold State.farewell State.endFrames
      rw [handover, held, chairs]
    have queued := h.queues d
    rw [State.Queues, chairs] at queued
    rwa [frames]
  entries j other := others j other ▸ h.entries j other
  chairs d := chairs d ▸ h.chairs d

/-- What happens afterwards, at other records, does not change what an ending shows. -/
theorem Parted.of_after (h : Parted s u i cause) (calls : t.calls = u.calls) (others : ∀ j, j ≠ i → t.entry j = u.entry j)
    (chairs : ∀ d, t.chair d = u.chair d) : Parted s t i cause where
  calls := calls ▸ h.calls
  driving c hc := chairs c ▸ h.driving c hc
  queues d := by
    have queued := h.queues d
    rwa [State.Queues, ← chairs d] at queued
  entries j other := (others j other).symm ▸ h.entries j other
  chairs d := (chairs d).symm ▸ h.chairs d

theorem SameButRecord.trans {d e f : Entry} (h : SameButRecord d e) (k : SameButRecord e f) : SameButRecord d f := Eq.trans k h

/-- The dispatcher adds frames behind, and records and offers elsewhere. -/
theorem Dispatched.parted (k : Dispatched u t) (h : Parted s u i cause) : Parted s t i cause where
  calls d hd := by
    obtain ⟨g, calls, revisited⟩ := k.calls
    rw [calls] at hd
    obtain ⟨e, he, rfl⟩ := List.mem_map.1 hd
    rw [(revisited e).1.slot]
    exact h.calls e he
  driving c hc := by
    rcases k.chair c with same | ⟨-, -, n, offered⟩
    · rw [same]
      exact h.driving c hc
    · rw [offered]
      simp [Chair.queued]
  queues d up room := by
    refine (h.queues d up room).trans ?_
    rcases k.chair d with same | ⟨-, -, n, offered⟩
    · rw [same]
    · rw [offered]
      exact queue_isPrefix_enqueue _ _ rfl
  entries j other := (h.entries j other).trans (k.sameButRecord j)
  chairs d := sameButOffer_trans (h.chairs d) (k.sameButOffer d)

theorem Parted.finish (h : Parted s u i cause) : Parted s (finish u) i cause :=
  (finish_dispatched u).parted (h.of_after rfl (fun _ _ => rfl) fun _ => rfl)

end Sys2Proof.Machine
end


section
/-! SUPPORT. What a TELEMETRY stores, and a trip (R155, R160). -/

namespace Sys2Proof.Machine

variable {s w : State} {i : Slot}

theorem SameElsewhere.modFleetSlot {s t : State} (h : SameElsewhere s t) (i : Slot) (f : FleetSlot → FleetSlot) :
    SameElsewhere (s.modFleetSlot i f) (t.modFleetSlot i f) := by
  obtain ⟨zones, policy, bindings, contexts, ignored, fleet, rest⟩ := h
  refine ⟨zones, policy, bindings, contexts, ignored, ?_, rest⟩
  rw [State.modFleetSlot, State.setFleetSlot, State.fleetSlot, fleet]
  rfl

/-- A notice joins the tail of the service port's queue where it has room. -/
theorem mem_notify_service {n : Notice} (online : s.service.online = true) (room : waitingAnswers s.service.port.queue < 15) :
    .notice n ∈ (s.notify .service n).service.port.queue := by
  have queue : (s.notify .service n).service.port.queue = s.service.port.queue ++ [.notice n] := by
    rw [← queue_enqueue_of_room rfl room, State.notify, State.send, if_pos (by exact online)]
    rfl
  rw [queue]
  exact List.mem_append_right _ (List.mem_singleton_self _)

/-! ### The loader status stored (R125, R155, R156) -/

/-- The part with the ZONE_RANGE flag of a reported zone set. -/
def State.zoneFlagged (s : State) (vs : List (Descriptor × Int)) : State :=
  if valueOf .zone vs < 0 ∨ 7 < valueOf .zone vs then s.raise .service .zoneRange else s

theorem State.zoneFlagged_eq (s : State) (vs : List (Descriptor × Int)) : ∃ p : PortRegs,
    s.zoneFlagged vs = s.withService { s.service with port := p } ∧ p.queue = s.service.port.queue := by
  unfold State.zoneFlagged
  split
  · exact ⟨s.service.port.raise .zoneRange, rfl, rfl⟩
  · exact ⟨s.service.port, rfl, rfl⟩

/-- The part with the status of a TELEMETRY stored, the heard mark set and the miss counter cleared. -/
def State.stored (s : State) (i : Slot) (vs : List (Descriptor × Int)) : State :=
  ((s.zoneFlagged vs).setEntry i { s.entry i with status := some (statusOf vs) }).setFleetSlot i
    { s.fleetSlot i with heard := true, misses := 0 }

theorem storeStatus_eq (i : Slot) (vs : List (Descriptor × Int)) (s : State) : storeStatus i vs s = s.stored i vs := by
  have outside : zoneOutOfRange (valueOf .zone vs) = true ↔ valueOf .zone vs < 0 ∨ 7 < valueOf .zone vs := by
    simp [zoneOutOfRange]
  unfold storeStatus State.stored State.zoneFlagged
  simp only [outside]
  split <;> rfl

section

variable (s i) (vs : List (Descriptor × Int))

@[simp] theorem stored_entry_self : (s.stored i vs).entry i = { s.entry i with status := some (statusOf vs) } :=
  State.entry_setEntry_self ..

@[simp] theorem stored_fleetSlot_self : (s.stored i vs).fleetSlot i = { s.fleetSlot i with heard := true, misses := 0 } :=
  State.fleetSlot_setFleetSlot_self ..

theorem stored_others : (∀ j, j ≠ i → (s.stored i vs).entry j = s.entry j) ∧
    ∀ j, j ≠ i → (s.stored i vs).fleetSlot j = s.fleetSlot j := by
  obtain ⟨p, flagged, -⟩ := s.zoneFlagged_eq vs
  unfold State.stored
  rw [flagged]
  exact ⟨fun j other => State.entry_setEntry_of_ne _ _ (Ne.symm other), fun j other => State.fleetSlot_setFleetSlot_of_ne _ _ (Ne.symm other)⟩

theorem stored_frame : (s.stored i vs).chairs = s.chairs ∧ (s.stored i vs).calls = s.calls ∧ (s.stored i vs).contexts = s.contexts ∧
    (s.stored i vs).zones = s.zones ∧ (s.stored i vs).policy = s.policy ∧ (s.stored i vs).bindings = s.bindings ∧
    (s.stored i vs).dispatchDue = s.dispatchDue := by
  obtain ⟨p, flagged, -⟩ := s.zoneFlagged_eq vs
  unfold State.stored
  rw [flagged]
  exact ⟨rfl, rfl, rfl, rfl, rfl, rfl, rfl⟩

theorem stored_service : (s.stored i vs).service.online = s.service.online ∧
    (s.stored i vs).service.port.queue = s.service.port.queue := by
  obtain ⟨p, flagged, queue⟩ := s.zoneFlagged_eq vs
  unfold State.stored
  rw [flagged]
  exact ⟨rfl, queue⟩

theorem stored_slotFits (fits : s.SlotFits i) : (s.stored i vs).SlotFits i := by
  obtain ⟨-, calls, contexts, -⟩ := stored_frame s i vs
  obtain ⟨holder, record, caller, idle, forget⟩ := fits
  constructor
  · rwa [stored_entry_self]
  · rwa [stored_entry_self]
  · rwa [stored_entry_self, State.callers, calls]
  · rwa [stored_entry_self, State.context, contexts]
  · rwa [stored_entry_self, stored_fleetSlot_self]

end

/-! ### A TELEMETRY that is taken -/

/-- What a TELEMETRY does by the state of the entry, its status stored. -/
def takenIn (i : Slot) (before : Entry) (ls : LoaderStatus) (s : State) : State :=
  match before.state with
  | .discovering => completeDiscovery i ls s
  | .free | .auto | .held | .locked => examine i before ls s
  | .linkLost => returnFromLoss i ls s
  | .empty | .refused | .tripped => s

theorem takenIn_of_examined {e : Entry} (h : e.state.carries = true ∨ e.state = .locked) (ls : LoaderStatus) (s : State) :
    takenIn i e ls s = examine i e ls s := by
  unfold takenIn
  cases state : e.state <;> simp [state, EntryState.carries] at h ⊢

theorem takenIn_of_lost {e : Entry} (h : e.state = .linkLost) (ls : LoaderStatus) (s : State) :
    takenIn i e ls s = returnFromLoss i ls s := by
  rw [takenIn, h]

theorem takenIn_of_discovering {e : Entry} (h : e.state = .discovering) (ls : LoaderStatus) (s : State) :
    takenIn i e ls s = completeDiscovery i ls s := by
  rw [takenIn, h]

theorem takenIn_of_tripped {e : Entry} (h : e.state = .tripped) (ls : LoaderStatus) (s : State) : takenIn i e ls s = s := by
  rw [takenIn, h]

/-- The values of a TELEMETRY by the list of the slot (R155). -/
abbrev State.reported (s : State) (i : Slot) (payload : List Byte) : List (Descriptor × Int) :=
  unpack ((s.context i).descriptors.filter isIn) (numberOf payload)

theorem exec_telemetry {u : UnitNumber} {payload : List Byte} {a : Admitted} (hq : s.Quiet) (hu : s.slotOfUnit u = some i)
    (ha : (s.context i).admitted = some a) (length : payload.length = a.inBytes) (h : listens (s.entry i) (s.context i) = true) :
    exec (.telemetry u payload) s =
      .next (finish (takenIn i (s.entry i) (statusOf (s.reported i payload)) (s.stored i (s.reported i payload)))) := by
  have taken : takeTelemetry i payload s =
      takenIn i (s.entry i) (statusOf (s.reported i payload)) (storeStatus i (s.reported i payload) s) := by
    have right : ¬ payload.length ≠ ((s.context i).admitted.map (·.inBytes)).getD 0 := by simpa [ha] using length
    unfold takeTelemetry
    dsimp only
    rw [h, if_neg (by simp), if_neg right]
    rfl
  have fromUnit := event_fromUnit hq hu fun i => takeTelemetry i payload
  rw [← storeStatus_eq, ← taken]
  exact congrArg _ fromUnit

/-! ### A trip -/

/-- The part as a trip finds it: the status stored, the entry in the state it leaves, nothing yet parted. -/
structure Arrived (s w : State) (i : Slot) (ls : LoaderStatus) (left : EntryState) : Prop where
  fits : w.SlotFits i
  state : (w.entry i).state = left
  holder : (w.entry i).holder = (s.entry i).holder
  handover : (w.entry i).handover = (s.entry i).handover
  vacated : Entry.vacate .tripped (w.entry i) = { Entry.vacate .tripped (s.entry i) with status := some ls }
  held : ∀ c, (w.entry i).heldBy c = (s.entry i).heldBy c
  others : ∀ j, j ≠ i → w.entry j = s.entry j ∧ w.context j = s.context j ∧ w.fleetSlot j = s.fleetSlot j
  fleet : { w.fleetSlot i with forget := none } = { s.fleetSlot i with heard := true, misses := 0, forget := none }
  chairs : w.chairs = s.chairs
  plans : w.zones = s.zones ∧ w.policy = s.policy ∧ w.bindings = s.bindings
  service : w.service.online = s.service.online ∧ w.service.port.queue = s.service.port.queue

section

variable (i) (ls : LoaderStatus) (w)

/-- The entry parted, the forget timer stopped: all of a trip but its notice. -/
def tripParted : State :=
  (leave i .tripped (some .tripped) (fun e => { Entry.vacate .tripped e with stack := [] }) w).modFleetSlot i
    fun x => { x with forget := none }

theorem trip_eq : trip i ls w =
    (tripParted w i).notify .service (.tripped i (w.unitOf i) ls.watchdogTrip ls.estop (w.entry i).state (w.entry i).holder) := by
  have bindings : (tripParted w i).bindings = w.bindings :=
    (leave_elsewhere i .tripped (some .tripped) (fun e => { Entry.vacate .tripped e with stack := [] }) w).2.2.1
  have unit : (tripParted w i).unitOf i = w.unitOf i := by
    rw [State.unitOf, State.unitOf, State.binding, State.binding, bindings]
  rw [← unit]
  rfl

theorem trip_entry_self :
    (trip i ls w).entry i = { Entry.vacate .tripped (w.entry i) with handover := none, stack := [] } := by
  rw [trip_eq, (notify_service_frame _ _).1]
  exact (leave_entry ..).trans (if_pos rfl)

theorem trip_parted (fits : w.SlotFits i) : Parted w (trip i ls w) i .tripped := by
  rw [trip_eq]
  have left := leave_parted fits (cause := .tripped) (by decide) fun e => { Entry.vacate .tripped e with stack := [] }
  exact left.of_after (send_table .service _ _).2.1 (fun j _ => (notify_service_frame ..).1 j) fun d => (notify_service_frame ..).2 d

theorem trip_elsewhere : SameElsewhere (w.modFleetSlot i fun x => { x with forget := none }) (trip i ls w) := by
  rw [trip_eq]
  exact (SameElsewhere.modFleetSlot (leave_elsewhere ..) i _).trans (notify_elsewhere ..)

theorem mem_trip_service (online : w.service.online = true) (room : waitingAnswers w.service.port.queue < 15) :
    PortFrame.notice (.tripped i (w.unitOf i) ls.watchdogTrip ls.estop (w.entry i).state (w.entry i).holder) ∈
      (trip i ls w).service.port.queue := by
  have service : (tripParted w i).service = w.service := leave_service ..
  rw [trip_eq]
  exact mem_notify_service (service ▸ online) (service ▸ room)

end

/-! ### What a trip shows -/

variable {ls : LoaderStatus} {left : EntryState}

/-- An entry of no call is not paired. -/
theorem Dispatched.entry_of_uncalled {s t : State} (h : Dispatched s t) (uncalled : ∀ k ∈ s.calls, k.slot ≠ i) :
    t.entry i = s.entry i := by
  refine (h.entry i).elim id fun placed => ?_
  obtain ⟨k, hk, slot⟩ := List.mem_map.1 placed.1
  exact absurd slot (uncalled k hk)

theorem finish_entry_of_uncalled {s : State} (uncalled : ∀ k ∈ s.calls, k.slot ≠ i) : (finish s).entry i = s.entry i :=
  (finish_dispatched s).entry_of_uncalled (s := { s with dispatchDue := false }) uncalled

theorem mem_finish_service {s : State} {f : PortFrame} (h : f ∈ s.service.port.queue) : f ∈ (finish s).service.port.queue :=
  (finish_dispatched s).service.2.subset h

theorem Arrived.trip (h : Arrived s w i ls left) :
    let t := finish (trip i ls w)
    t.entry i = { Entry.vacate .tripped (s.entry i) with handover := none, stack := [], status := some ls } ∧
    t.fleetSlot i = { s.fleetSlot i with heard := true, misses := 0, forget := none } ∧
    Parted s t i .tripped ∧
    (s.service.online = true → waitingAnswers s.service.port.queue < 15 →
      PortFrame.notice (.tripped i (s.unitNumber i) ls.watchdogTrip ls.estop left (s.entry i).holder) ∈ t.service.port.queue) ∧
    (∀ j, j ≠ i → t.context j = s.context j ∧ t.fleetSlot j = s.fleetSlot j) ∧
    t.zones = s.zones ∧ t.policy = s.policy ∧ t.bindings = s.bindings := by
  obtain ⟨fits, state, holder, handover, vacated, held, others, fleet, chairs, ⟨hz, hp, hb⟩, online, queue⟩ := h
  have parted := trip_parted w i ls fits
  obtain ⟨zones, policy, bindings, contexts, -, slots, -⟩ := (trip_elsewhere w i ls).trans (finish_elsewhere _)
  have slot (j : Slot) : (finish (Machine.trip i ls w)).fleetSlot j = (w.modFleetSlot i fun x => { x with forget := none }).fleetSlot j := by
    rw [State.fleetSlot, slots, State.fleetSlot]
  have unit : w.unitOf i = s.unitNumber i := by rw [State.unitOf, State.unitNumber, State.binding, State.binding, hb]
  intro t
  refine ⟨?_, ?_, ?_, fun up room => ?_, fun j other => ⟨?_, ?_⟩, zones.trans hz, policy.trans hp, bindings.trans hb⟩
  · rw [finish_entry_of_uncalled parted.calls, trip_entry_self, vacated]
  · rw [slot, State.modFleetSlot, State.fleetSlot_setFleetSlot_self, fleet]
  · exact (parted.of_before handover held (fun j other => (others j other).1) fun d => by rw [State.chair, chairs, State.chair]).finish
  · have noticed := mem_trip_service w i ls (online.trans up) (queue ▸ room)
    rw [unit, state, holder] at noticed
    exact mem_finish_service noticed
  · rw [State.context, contexts]
    exact (others j other).2.1
  · rw [slot, State.modFleetSlot, State.fleetSlot_setFleetSlot_of_ne _ _ (Ne.symm other), (others j other).2.2]

/-! ### The ways to a trip -/

theorem stored_arrived (vs : List (Descriptor × Int)) (fits : s.SlotFits i) :
    Arrived s (s.stored i vs) i (statusOf vs) (s.entry i).state := by
  obtain ⟨chairs, -, contexts, zones, policy, bindings, -⟩ := stored_frame s i vs
  obtain ⟨entries, slots⟩ := stored_others s i vs
  refine ⟨stored_slotFits s i vs fits, ?_, ?_, ?_, ?_, fun c => ?_, fun j other => ⟨entries j other, ?_, slots j other⟩, ?_, chairs,
    ⟨zones, policy, bindings⟩, stored_service s i vs⟩
  · rw [stored_entry_self]
  · rw [stored_entry_self]
  · rw [stored_entry_self]
  · rw [stored_entry_self]
    rfl
  · rw [stored_entry_self]
    rfl
  · rw [State.context, contexts, State.context]
  · rw [stored_fleetSlot_self]

/-- The forget timer stopped first changes nothing of a trip. -/
theorem Arrived.stopped (h : Arrived s w i ls left) : Arrived s (w.modFleetSlot i fun x => { x with forget := none }) i ls left := by
  obtain ⟨⟨holderFits, record, caller, idle, -⟩, state, holder, handover, vacated, held, others, fleet, chairs, plans, service⟩ := h
  have stopped : (w.modFleetSlot i fun x => { x with forget := none }).fleetSlot i = { w.fleetSlot i with forget := none } :=
    State.fleetSlot_setFleetSlot_self ..
  refine ⟨⟨holderFits, record, caller, idle, fun _ => congrArg FleetSlot.forget stopped⟩, state, holder, handover, vacated, held,
    fun j other => ⟨(others j other).1, (others j other).2.1, ?_⟩, ?_, chairs, plans, service⟩
  · rw [State.modFleetSlot, State.fleetSlot_setFleetSlot_of_ne _ _ (Ne.symm other), (others j other).2.2]
  · rw [stopped, ← fleet]

/-- Discovery is complete, and the entry in the state of its zone. -/
def settledIn (i : Slot) (z : ZoneId) (w : State) : State :=
  (w.modContext i fun x => { x with stage := none, read := none, answerTimer := none }).modEntry i
    (Entry.vacate (stateInZone (w.zone z)))

theorem Arrived.settled (h : Arrived s w i ls .discovering) (z : ZoneId) :
    Arrived s (settledIn i z w) i ls (stateInZone (w.zone z)) := by
  obtain ⟨⟨holderFits, record, caller, idle, forget⟩, state, holder, handover, vacated, held, others, fleet, chairs, plans, service⟩ := h
  have entry : (settledIn i z w).entry i = Entry.vacate (stateInZone (w.zone z)) (w.entry i) := State.entry_setEntry_self ..
  have context : (settledIn i z w).context i = { w.context i with stage := none, read := none, answerTimer := none } :=
    State.context_setContext_self ..
  have holderless : (w.entry i).holder = none := by
    rw [Entry.holderFits, state] at holderFits
    exact Option.isNone_iff_eq_none.1 holderFits
  have place := stateInZone_place (w.zone z)
  have left : stateInZone (w.zone z) ≠ .held ∧ stateInZone (w.zone z) ≠ .auto := by rcases place with h | h <;> simp [h]
  have free : (w.entry i).handover = none := by
    by_contra stands
    simpa [state, EntryState.carries] using record stands
  refine ⟨slotFits_of_vacated (entry ▸ vacate_vacated free left.1 left.2) (mt caller (by simp [state])) (fun _ => ?_) fun _ =>
      forget (by simp [state]), ?_, ?_, ?_, ?_, fun c => ?_, fun j other => ⟨?_, ?_, (others j other).2.2⟩, fleet, chairs, plans, service⟩
  · rw [context]
    exact ⟨rfl, rfl, rfl⟩
  · rw [entry]
    rfl
  · rw [entry, ← holder, holderless]
    rfl
  · rw [entry, ← handover]
    rfl
  · rw [entry, ← vacated]
    rfl
  · rw [entry, ← held]
    simp [Entry.heldBy, Entry.vacate, holderless]
  · rw [← (others j other).1]
    exact State.entry_setEntry_of_ne _ _ (Ne.symm other)
  · rw [← (others j other).2.1]
    exact State.context_setContext_of_ne _ _ (Ne.symm other)

theorem stateInZone_eq (z : Zone) : stateInZone z = if z.state = .closed then .locked else .free := by
  unfold stateInZone
  cases z.state <;> rfl

/-- A TELEMETRY that reports a trip comes to the trip of an entry that has arrived there. -/
theorem takenIn_trips (fits : s.SlotFits i) (vs : List (Descriptor × Int)) (trips : (statusOf vs).trips = true)
    (h : (s.entry i).state.carries = true ∨ (s.entry i).state = .locked ∨ (s.entry i).state = .linkLost ∨
      (s.entry i).state = .discovering) :
    ∃ w, takenIn i (s.entry i) (statusOf vs) (s.stored i vs) = trip i (statusOf vs) w ∧
      Arrived s w i (statusOf vs) (if (s.entry i).state = .discovering then
        (if (s.zone (statusOf vs).zone).state = .closed then .locked else .free) else (s.entry i).state) := by
  have arrived := stored_arrived vs fits
  by_cases discovering : (s.entry i).state = .discovering
  · rw [discovering] at arrived
    refine ⟨settledIn i (statusOf vs).zone (s.stored i vs), ?_, ?_⟩
    · rw [takenIn_of_discovering discovering]
      exact if_pos trips
    · have zone : (s.stored i vs).zone (statusOf vs).zone = s.zone (statusOf vs).zone := by
        rw [State.zone, arrived.plans.1, State.zone]
      rw [if_pos discovering, ← stateInZone_eq, ← zone]
      exact arrived.settled _
  rw [if_neg discovering]
  by_cases lost : (s.entry i).state = .linkLost
  · refine ⟨_, ?_, arrived.stopped⟩
    rw [takenIn_of_lost lost]
    exact if_pos trips
  · refine ⟨_, ?_, arrived⟩
    rw [takenIn_of_examined (h.imp_right fun rest => rest.resolve_right (not_or.2 ⟨lost, discovering⟩)), examine, if_pos trips]

end Sys2Proof.Machine

namespace Sys2Proof.Settled

open Sys2Proof.Machine

/-- Settles O39: the entry arrives at the trip with its status stored, and parts there. -/
theorem telemetryTrips : Obligations.TelemetryTrips := by
  intro s u i payload a hq authority _ hu ha length e ls left trips standing
  have fits := (authorityLaw_iff s).1 authority i
  have heard : listens (s.entry i) (s.context i) = true :=
    (listens_iff ..).2 (by tauto)
  obtain ⟨w, taken, arrived⟩ := takenIn_trips fits (s.reported i payload) trips (by tauto)
  obtain ⟨entry, fleet, parted, notice, others, plans⟩ := arrived.trip
  refine ⟨_, exec_telemetry hq hu ha length heard, ?_⟩
  rw [taken]
  exact ⟨entry, fleet, parted.calls, parted.driving, parted.queues, notice,
    fun j other => ⟨parted.entries j other, others j other⟩, parted.chairs, plans⟩

end Sys2Proof.Settled
end


section
/-! SUPPORT. HELLO: the binding, and discovery start on a slot whose entry may carry authority (R23, R132, R135). -/

namespace Sys2Proof.Machine

variable {s w : State} {i : Slot} {u : UnitNumber}

/-! ### Discovery start -/

theorem eq_or_mem_of_mem_placeRead {f g : FleetFrame} {q : List FleetFrame} (h : f ∈ placeRead g q) : f = g ∨ f ∈ q := by
  generalize placed : placeRead g q = r at h
  cases placed ▸ placeRead_placed g q with
  | behind =>
    rw [List.mem_append, List.mem_singleton] at h
    exact h.symm
  | replaces split =>
    subst split
    simp only [List.mem_append, List.mem_cons] at h ⊢
    tauto
  | kept => exact .inr h

/-- The slots apart that a discovery start leaves, and what it leaves of its own. -/
structure Restarted (s t : State) (i : Slot) (u : UnitNumber) : Prop where
  slot : t.Rediscovering i
  parted : Parted s t i .loaderRestart
  others : ∀ j, j ≠ i → t.context j = s.context j ∧ t.fleetSlot j = s.fleetSlot j
  read : .read i u .readId ∈ t.fleetQueue
  commands : ∀ f ∈ t.fleetQueue, f.isCommandOf i = true → f.isRestart = true
  plans : t.zones = s.zones ∧ t.policy = s.policy ∧ t.bindings = s.bindings ∧ t.ignored = s.ignored
  queue : s.service.port.queue <+: t.service.port.queue

theorem startDiscovery_restarted (fits : s.SlotFits i) : Restarted s (startDiscovery i s) i (s.unitOf i) := by
  let v := leave i .loaderRestart (some .loaderRestart) (fun _ => Entry.blank .discovering) s
  obtain ⟨zones, policy, bindings, contexts, ignored, fleet, -⟩ : SameElsewhere s v := leave_elsewhere ..
  have entry : v.entry i = Entry.blank .discovering := (leave_entry ..).trans (if_pos rfl)
  have started : startDiscovery i s = beginReads i (v.setEntry i (Entry.blank .discovering)) := by
    rw [← entry, setEntry_entry_self]
    rfl
  have slots (j : Slot) := beginReads_slot i j (Entry.blank .discovering) v
  rw [started]
  refine ⟨?_, ?_, ?_, ?_, ?_, ⟨zones, policy, bindings, ignored⟩, ?_⟩
  · have own := slots i
    rw [if_pos rfl] at own
    simp only [Prod.mk.injEq] at own
    exact own
  · exact (leave_parted fits (by decide) _).of_after rfl
      (fun j other => (congrArg Prod.fst (slots j)).trans (by rw [if_neg (Ne.symm other)])) fun _ => rfl
  · intro j other
    have theirs := slots j
    rw [if_neg (Ne.symm other)] at theirs
    simp only [Prod.mk.injEq] at theirs
    rw [theirs.2.1, theirs.2.2, State.context, contexts, State.fleetSlot, fleet]
    exact ⟨rfl, rfl⟩
  · have unit : v.unitOf i = s.unitOf i := by rw [State.unitOf, State.unitOf, State.binding, bindings, State.binding]
    rw [← unit]
    exact mem_placeRead _ _
  · intro f hf command
    rcases eq_or_mem_of_mem_placeRead hf with rfl | waited
    · cases command
    · simpa [command] using (List.mem_filter.1 waited).2
  · show _ <+: v.service.port.queue
    rw [show v.service = s.service from leave_service ..]

theorem Restarted.finish (h : Restarted s w i u) : Restarted s (finish w) i u := by
  obtain ⟨⟨entry, context, slot⟩, parted, others, read, commands, plans, queue⟩ := h
  obtain ⟨zones, policy, bindings, contexts, ignored, fleet, fleetQueue, -⟩ := finish_elsewhere w
  refine ⟨⟨(finish_entry_of_uncalled parted.calls).trans entry, ?_, ?_⟩, parted.finish, fun j other => ⟨?_, ?_⟩, fleetQueue ▸ read,
    fleetQueue ▸ commands, ?_, queue.trans (finish_dispatched w).service.2⟩
  · rw [State.context, contexts]
    exact context
  · rw [State.fleetSlot, fleet]
    exact slot
  · rw [State.context, contexts]
    exact (others j other).1
  · rw [State.fleetSlot, fleet]
    exact (others j other).2
  · rwa [zones, policy, bindings, ignored]

/-! ### Binding (R132) -/

/-- The part with slot `i` bound to `u`, and REBOUND queued for a unit replaced. -/
def State.bound (s : State) (i : Slot) (u : UnitNumber) : State :=
  let v := (s.setBinding i { unit := some u, used := true }).setIgnored i 0
  match (s.binding i).used, (s.binding i).unit with
  | true, some w => v.notify .service (.rebound i w u)
  | _, _ => v

theorem bindUnit_eq (u : UnitNumber) (s : State) : bindUnit u s =
    match bindingSlot s with
    | none => s.notify .service (.slotsFull u)
    | some i => startDiscovery i (s.bound i u) := rfl

/-- Binding writes the binding and the ignored-call counter of its slot, and the service port. -/
theorem bound_spec (s : State) (i : Slot) (u : UnitNumber) : ∃ p : Service,
    s.bound i u = ((s.setBinding i { unit := some u, used := true }).setIgnored i 0).withService p ∧
      s.service.port.queue <+: p.port.queue ∧
      ∀ v, (s.binding i).unit = some v → (s.binding i).used = true → s.service.online = true →
        waitingAnswers s.service.port.queue < 15 → .notice (.rebound i v u) ∈ p.port.queue := by
  let w := (s.setBinding i { unit := some u, used := true }).setIgnored i 0
  have told (n : Notice) : w.notify .service n = w.withService (w.notify .service n).service := by
    unfold State.notify State.send
    split <;> rfl
  unfold State.bound
  dsimp only
  split
  next v used unit =>
    refine ⟨_, told _, (notify_service_prefix _ w).2, fun v' hv _ up room => ?_⟩
    cases hv.symm.trans unit
    exact mem_notify_service up room
  next other =>
    exact ⟨s.service, rfl, List.prefix_rfl, fun v unit used => absurd unit (other v used)⟩

/-- The part with slot `i` bound to `u`, all else of the slots as it was. -/
structure Bound (s w : State) (i : Slot) (u : UnitNumber) : Prop where
  table : w.entries = s.entries ∧ w.calls = s.calls ∧ w.chairs = s.chairs
  slots : w.contexts = s.contexts ∧ w.fleet = s.fleet
  plans : w.zones = s.zones ∧ w.policy = s.policy
  binding : w.binding i = { unit := some u, used := true }
  others : ∀ j, j ≠ i → w.binding j = s.binding j ∧ w.ignoredCalls j = s.ignoredCalls j

theorem bound_self (bindings : s.BindingLaw) (h : (s.binding i).unit = some u) : Bound s s i u := by
  refine ⟨⟨rfl, rfl, rfl⟩, ⟨rfl, rfl⟩, ⟨rfl, rfl⟩, ?_, fun _ _ => ⟨rfl, rfl⟩⟩
  have used : (s.binding i).used = true := (bindings.2 i).2.2 (by simp [h])
  rw [← h, ← used]

theorem bound_bound (s : State) (i : Slot) (u : UnitNumber) : Bound s (s.bound i u) i u := by
  obtain ⟨p, bound, -⟩ := bound_spec s i u
  rw [bound]
  refine ⟨⟨rfl, rfl, rfl⟩, ⟨rfl, rfl⟩, ⟨rfl, rfl⟩, State.binding_setBinding_self .., fun j other =>
    ⟨State.binding_setBinding_of_ne _ _ (Ne.symm other), ?_⟩⟩
  exact State.ignoredCalls_setIgnored_of_ne _ _ (Ne.symm other)

theorem Bound.started (h : Bound s w i u) (fits : s.SlotFits i) :
    let t := Machine.finish (startDiscovery i w)
    t.Rediscovering i ∧ Parted s t i .loaderRestart ∧ t.binding i = { unit := some u, used := true } ∧
    .read i u .readId ∈ t.fleetQueue ∧ (∀ f ∈ t.fleetQueue, f.isCommandOf i = true → f.isRestart = true) ∧
    t.ignoredCalls i = w.ignoredCalls i ∧
    (∀ j, j ≠ i → t.binding j = s.binding j ∧ t.context j = s.context j ∧ t.fleetSlot j = s.fleetSlot j ∧
      t.ignoredCalls j = s.ignoredCalls j) ∧
    w.service.port.queue <+: t.service.port.queue ∧ t.zones = s.zones ∧ t.policy = s.policy := by
  obtain ⟨⟨entries, calls, chairs⟩, ⟨contexts, fleet⟩, ⟨zones, policy⟩, binding, others⟩ := h
  have entry (j : Slot) : w.entry j = s.entry j := by rw [State.entry, entries, State.entry]
  have context (j : Slot) : w.context j = s.context j := by rw [State.context, contexts, State.context]
  have slot (j : Slot) : w.fleetSlot j = s.fleetSlot j := by rw [State.fleetSlot, fleet, State.fleetSlot]
  have fits' : w.SlotFits i := by
    obtain ⟨holder, record, caller, idle, forget⟩ := fits
    constructor <;> rw [entry]
    exacts [holder, record, by rwa [State.callers, calls], by rwa [context], by rwa [slot]]
  obtain ⟨slot', parted, apart, read, commands, ⟨hz, hp, hb, hi⟩, queue⟩ := (startDiscovery_restarted fits').finish
  have unit : w.unitOf i = u := by rw [State.unitOf, binding]; rfl
  intro t
  refine ⟨slot', parted.of_before (by rw [entry]) (fun c => by rw [entry]) (fun j _ => entry j) fun d => by
    rw [State.chair, chairs, State.chair], ?_, unit ▸ read, commands, ?_, fun j other => ⟨?_, ?_, ?_, ?_⟩, queue, hz.trans zones,
    hp.trans policy⟩
  · rw [State.binding, hb]
    exact binding
  · rw [State.ignoredCalls, hi, State.ignoredCalls]
  · rw [State.binding, hb]
    exact (others j other).1
  · rw [(apart j other).1, context]
  · rw [(apart j other).2, slot]
  · rw [State.ignoredCalls, hi]
    exact (others j other).2

/-! ### HELLO -/

/-- What a HELLO does in the part. -/
def helloTaken (u : UnitNumber) (s : State) : State :=
  if u = 0#32 then s.raise .service .fleetFormat
  else
    match s.slotOfUnit u with
    | some i => startDiscovery i s
    | none => bindUnit u s

theorem exec_hello (hq : s.Quiet) (u : UnitNumber) : exec (.hello u) s = .next (finish (helloTaken u s)) :=
  congrArg Host.Outcome.next (event_of_quiet hq (helloTaken u))

theorem slotOfUnit_of_bound (bindings : s.BindingLaw) (h : (s.binding i).unit = some u) : s.slotOfUnit u = some i := by
  cases found : s.slotOfUnit u with
  | none => exact absurd h ((slotOfUnit_eq_none_iff s u).1 found i)
  | some j =>
    have unit : (s.binding j).unit = some u := by simpa using List.find?_some found
    rw [bindings.1 j i (by simp [unit]) (unit.trans h.symm)]

theorem helloTaken_of_bound (zero : u ≠ 0#32) (h : s.slotOfUnit u = some i) : helloTaken u s = startDiscovery i s := by
  rw [helloTaken, if_neg zero, h]

theorem helloTaken_of_unbound (zero : u ≠ 0#32) (unbound : s.slotOfUnit u = none) (chosen : bindingSlot s = some i) :
    helloTaken u s = startDiscovery i (s.bound i u) := by
  rw [helloTaken, if_neg zero, unbound]
  dsimp only
  rw [bindUnit_eq, chosen]

theorem helloTaken_of_full (zero : u ≠ 0#32) (unbound : s.slotOfUnit u = none) (full : bindingSlot s = none) :
    helloTaken u s = s.notify .service (.slotsFull u) := by
  rw [helloTaken, if_neg zero, unbound]
  dsimp only
  rw [bindUnit_eq, full]

theorem bindingSlot_eq_none (full : ∀ k, (s.binding k).used = true ∧ (s.entry k).state ≠ .empty) : bindingSlot s = none := by
  have used : allSlots.find? (fun k => !(s.binding k).used) = none := List.find?_eq_none.2 fun k _ => by simp [(full k).1]
  have active : allSlots.find? (fun k => (s.entry k).state == .empty) = none := List.find?_eq_none.2 fun k _ => by simp [(full k).2]
  rw [bindingSlot, used, active]

end Sys2Proof.Machine

namespace Sys2Proof.Settled

open Sys2Proof.Machine

/-- Settles O32: the unit bound, the slot's entry parts and its discovery starts. -/
theorem helloStartsDiscovery : Obligations.HelloStartsDiscovery := by
  refine ⟨fun s u i hq authority bindings _ zero => ?_, fun s u hq zero unbound full => ?_⟩
  · intro choice cases
    have fits := (authorityLaw_iff s).1 authority i
    rcases cases with bound | ⟨unbound, chosen⟩
    · obtain ⟨slot, parted, binding, read, commands, ignored, others, queue, plans⟩ := (bound_self bindings bound).started fits
      refine ⟨_, exec_hello hq u, ?_⟩
      rw [helloTaken_of_bound zero (slotOfUnit_of_bound bindings bound), if_pos bound]
      exact ⟨slot, binding, read, commands, parted.calls, ignored, parted.driving, parted.queues,
        fun v hv other => absurd (Option.some.inj (hv.symm.trans bound)) other, fun j hj => ⟨parted.entries j hj, others j hj⟩, parted.chairs,
        plans⟩
    · obtain ⟨slot, parted, binding, read, commands, ignored, others, queue, plans⟩ := (bound_bound s i u).started fits
      obtain ⟨p, bound, -, rebound⟩ := bound_spec s i u
      have counter : (s.bound i u).ignoredCalls i = 0 := by
        rw [bound]
        exact State.ignoredCalls_setIgnored_self ..
      refine ⟨_, exec_hello hq u, ?_⟩
      rw [helloTaken_of_unbound zero ((slotOfUnit_eq_none_iff s u).2 unbound) chosen, if_neg (unbound i)]
      refine ⟨slot, binding, read, commands, parted.calls, ignored.trans counter, parted.driving, parted.queues,
        fun v hv other up room => queue.subset ?_, fun j hj => ⟨parted.entries j hj, others j hj⟩, parted.chairs, plans⟩
      rw [bound]
      exact rebound v hv ((bindings.2 i).2.2 (by simp [hv])) up room
  · rw [exec_hello hq, helloTaken_of_full zero ((slotOfUnit_eq_none_iff s u).2 unbound) (bindingSlot_eq_none full)]
    exact congrArg _ (finish_of_quiet ((send_dispatchDue ..).trans hq))

end Sys2Proof.Settled
end


section
/-! SUPPORT. The cycle expiry: the miss count, the frame built, the applied values (R94, R95, R105, R149, R151, R156). -/

namespace Sys2Proof.Machine

variable {s : State} {i : Slot}

theorem setFleetSlot_setFleetSlot (s : State) (i : Slot) (x y : FleetSlot) : (s.setFleetSlot i x).setFleetSlot i y = s.setFleetSlot i y := by
  simp [State.setFleetSlot]

/-! ### The miss count (R149, R156) -/

theorem countsMisses_iff (e : Entry) (x : Context) : countsMisses e x = true ↔
    (e.state.carries = true ∨ e.state = .locked ∨ (e.state = .discovering ∧ x.stage = some .awaitingTelemetry)) := by
  unfold countsMisses
  cases h : e.state <;> simp [EntryState.carries]

/-- The miss counter after a cycle expiry that takes no loader away. -/
def missesAfter (s : State) (i : Slot) : Nat :=
  if countsMisses (s.entry i) (s.context i) then (if (s.fleetSlot i).heard then 0 else (s.fleetSlot i).misses + 1)
  else (s.fleetSlot i).misses

/-- The loader was heard, its misses do not count, or its miss leaves the counter below the limit. -/
theorem countMiss_of_kept (h : (s.fleetSlot i).heard = true ∨ countsMisses (s.entry i) (s.context i) = false ∨
    (s.fleetSlot i).misses + 1 < s.policy.missLimit) :
    countMiss i s = s.setFleetSlot i { s.fleetSlot i with heard := false, misses := missesAfter s i } := by
  unfold countMiss missesAfter
  dsimp only
  by_cases counts : countsMisses (s.entry i) (s.context i) = true
  · rw [if_pos counts, if_pos counts]
    by_cases heard : (s.fleetSlot i).heard = true
    · rw [if_pos heard, if_pos heard]
    · rw [if_neg heard, if_neg heard]
      have below : (s.fleetSlot i).misses + 1 < s.policy.missLimit := by simpa [heard, counts] using h
      rw [State.setFleetSlot_policy, if_neg (Nat.not_le.2 below), ← Bool.eq_false_iff.2 heard]
  · rw [if_neg counts, if_neg counts]

/-- At the limit the loader is lost, or its discovery is refused. -/
theorem countMiss_of_limit (counts : countsMisses (s.entry i) (s.context i) = true) (silent : (s.fleetSlot i).heard = false)
    (limit : s.policy.missLimit ≤ (s.fleetSlot i).misses + 1) :
    let v := s.setFleetSlot i { s.fleetSlot i with misses := (s.fleetSlot i).misses + 1 }
    countMiss i s = if (s.entry i).state = .discovering then refuse i .noAnswer v else loseLink i v := by
  unfold countMiss
  dsimp only
  rw [if_pos counts, silent, if_neg (by decide), if_pos (by exact limit)]

/-! ### The frame (R94, R95) -/

theorem frameSource_eq (s : State) (i : Slot) : frameSource i s = frameTable s i := by
  unfold frameSource frameTable
  dsimp only
  cases (s.entry i).state with
  | free => cases (s.entry i).ramp <;> rfl
  | held =>
    rcases (s.entry i).holder with _ | c | _
    · rfl
    · have present : s.isPresent c = true ↔ (s.chair c).presence = .present := by simp [State.isPresent]
      dsimp only
      simp only [present]
      split
      · cases (s.entry i).ramp <;> rfl
      · rfl
    · rfl
  | _ => rfl

theorem state_of_noFrame (h : frameSource i s = none) : (s.entry i).state ∈ [EntryState.empty, .discovering, .refused] := by
  unfold frameSource at h
  dsimp only at h
  cases state : (s.entry i).state with
  | empty | discovering | refused => decide
  | free => cases ramp : (s.entry i).ramp <;> simp [state, ramp] at h
  | held =>
    rw [state] at h
    dsimp only at h
    repeat' split at h
    all_goals cases h
  | auto | locked | linkLost | tripped => simp [state] at h

/-- The entry after a frame with channels. -/
def builtEntry (z : Zone) (src : FrameSource) (e : Entry) : Entry :=
  { e with
    applied := cappedAxes z src.axes, lights := src.lights
    ramp := if src.ramped then e.ramp.bind Ramp.advance else e.ramp }

/-- The part after a frame with channels, but for its STATUS frame. -/
def frameBuilt (i : Slot) (src : FrameSource) (s : State) : State :=
  (s.modEntry i (builtEntry (s.loaderZone i) src)).queueCommand i src.mode
    (packFrame (s.context i) (cappedAxes (s.loaderZone i) src.axes) src)

theorem buildCommand_of_source {src : FrameSource} (h : frameSource i s = some src) :
    buildCommand i s = sendStatus i (cappedAxes (s.loaderZone i) src.axes) (beyondCap (s.loaderZone i) src.axes.travel) src.ramped
      (frameBuilt i src s) := by
  unfold buildCommand
  split
  next empty => rw [frameSource, empty] at h; cases h
  next =>
    rw [h]
    rfl

theorem buildCommand_of_none (active : (s.entry i).state ≠ .empty) (h : frameSource i s = none) :
    buildCommand i s = s.queueCommand i .stop [] := by
  unfold buildCommand
  split
  next empty => exact absurd empty active
  next => rw [h]

theorem buildCommand_of_empty (h : (s.entry i).state = .empty) : buildCommand i s = s := by
  unfold buildCommand
  split
  next => rfl
  next active => exact absurd h active

theorem sendStatus_of_apart (h : (s.entry i).state ≠ .held) (axes : Axes) (capped ramped : Bool) :
    sendStatus i axes capped ramped s = s := by
  unfold sendStatus
  split
  next held _ => exact absurd held h
  next => rfl

theorem sendStatus_of_held {c : ChairId} {ls : LoaderStatus} (state : (s.entry i).state = .held)
    (holder : (s.entry i).holder = some (.chair c)) (status : (s.entry i).status = some ls) (up : (s.chair c).state ≠ .offline) (axes : Axes)
    (capped ramped : Bool) :
    sendStatus i axes capped ramped s = s.setChair c ((s.chair c).queued
      (.status { slot := i, status := ls, applied := axes, capped := capped, rampActive := ramped })) := by
  rw [sendStatus, state, holder]
  dsimp only
  rw [send_chair_of_online _ up, shownStatus, status]
  rfl

/-- A frame with channels keeps the state, the holder and the status of its entry. -/
theorem frameBuilt_entry (i : Slot) (src : FrameSource) (s : State) :
    (frameBuilt i src s).entry i = builtEntry (s.loaderZone i) src (s.entry i) := State.entry_setEntry_self ..

/-! ### The expiry (R151) -/

/-- The cycle timer restarted. -/
def rearmed (i : Slot) (s : State) : State :=
  s.modFleetSlot i fun x => { x with cycle := some ((s.context i).period.getD 50) }

theorem exec_cycleExpiry_eq (s : State) (i : Slot) (running : (s.fleetSlot i).cycle ≠ none) :
    exec (.cycleExpiry i) s = .next (finish (rearmed i (buildCommand i (countMiss i { s with dispatchDue := false })))) := by
  have taken : event (fun s => if (s.fleetSlot i).cycle.isSome then rearmed i (buildCommand i (countMiss i s)) else s) s =
      finish (rearmed i (buildCommand i (countMiss i { s with dispatchDue := false }))) :=
    congrArg finish (if_pos (Option.isSome_iff_ne_none.2 running))
  exact congrArg Host.Outcome.next taken

theorem exec_cycleExpiry (hq : s.Quiet) (running : (s.fleetSlot i).cycle ≠ none) :
    exec (.cycleExpiry i) s = .next (finish (rearmed i (buildCommand i (countMiss i s)))) := by
  have quiet : ({ s with dispatchDue := false } : State) = s := by rw [← show s.dispatchDue = false from hq]
  rw [exec_cycleExpiry_eq s i running, quiet]

theorem rearmed_setFleetSlot (s : State) (i : Slot) (x : FleetSlot) :
    rearmed i (s.setFleetSlot i x) = s.setFleetSlot i { x with cycle := some ((s.context i).period.getD 50) } := by
  rw [rearmed, State.modFleetSlot, State.fleetSlot_setFleetSlot_self, setFleetSlot_setFleetSlot]
  rfl

/-! ### The cap (R105) -/

/-! ### Link loss (R157) -/

section

variable (w : State) (i : Slot)

/-- The entry parted and LINK_LOST queued: all of a link loss but its forget timer. -/
def lossNoticed : State :=
  (leave i .linkLost (some .linkLost) (Entry.vacate .linkLost) w).notify .service
    (.linkLost i (w.unitOf i) (w.entry i).state (w.entry i).holder)

theorem loseLink_eq : loseLink i w = (lossNoticed w i).modFleetSlot i fun x => { x with forget := some w.policy.forgetTime } := by
  obtain ⟨-, policy, bindings, -⟩ := leave_elsewhere i .linkLost (some .linkLost) (Entry.vacate .linkLost) w
  have unit : (leave i .linkLost (some .linkLost) (Entry.vacate .linkLost) w).unitOf i = w.unitOf i := by
    rw [State.unitOf, State.unitOf, State.binding, State.binding, bindings]
  obtain ⟨-, noticed, -⟩ := notify_elsewhere .service (.linkLost i (w.unitOf i) (w.entry i).state (w.entry i).holder)
    (leave i .linkLost (some .linkLost) (Entry.vacate .linkLost) w)
  rw [← policy, ← noticed, lossNoticed, ← unit]
  rfl

theorem loseLink_entry_self : (loseLink i w).entry i = { Entry.vacate .linkLost (w.entry i) with handover := none } := by
  rw [loseLink_eq, State.modFleetSlot, State.setFleetSlot_entry, lossNoticed, (notify_service_frame _ _).1]
  exact (leave_entry ..).trans (if_pos rfl)

theorem loseLink_elsewhere :
    SameElsewhere (w.modFleetSlot i fun x => { x with forget := some w.policy.forgetTime }) (loseLink i w) := by
  rw [loseLink_eq]
  exact SameElsewhere.modFleetSlot ((leave_elsewhere ..).trans (notify_elsewhere ..)) i _

variable {w i} in
theorem loseLink_parted (fits : w.SlotFits i) : Parted w (loseLink i w) i .linkLost := by
  rw [loseLink_eq]
  have left := leave_parted fits (cause := .linkLost) (by decide) (Entry.vacate .linkLost)
  exact left.of_after (send_table .service _ _).2.1 (fun j _ => (notify_service_frame ..).1 j) fun d => (notify_service_frame ..).2 d

theorem mem_loseLink_service (online : w.service.online = true) (room : waitingAnswers w.service.port.queue < 15) :
    PortFrame.notice (.linkLost i (w.unitOf i) (w.entry i).state (w.entry i).holder) ∈ (loseLink i w).service.port.queue := by
  have service : (leave i .linkLost (some .linkLost) (Entry.vacate .linkLost) w).service = w.service := leave_service ..
  rw [loseLink_eq]
  exact mem_notify_service (service ▸ online) (service ▸ room)

end

theorem countMiss_status (i : Slot) (s : State) :
    ((countMiss i s).entry i).status = (s.entry i).status ∧ (countMiss i s).zones = s.zones := by
  have refused (v : State) : ((refuse i .noAnswer v).entry i).status = (v.entry i).status ∧ (refuse i .noAnswer v).zones = v.zones := by
    rw [refuse_entry]
    refine ⟨?_, (notify_elsewhere ..).1⟩
    rw [State.modEntry, State.entry_setEntry_self]
    rfl
  have lost (v : State) : ((loseLink i v).entry i).status = (v.entry i).status ∧ (loseLink i v).zones = v.zones := by
    rw [loseLink_entry_self]
    exact ⟨rfl, (loseLink_elsewhere v i).1⟩
  unfold countMiss
  dsimp only
  split_ifs
  · exact ⟨rfl, rfl⟩
  · exact refused _
  · exact lost _
  · exact ⟨rfl, rfl⟩
  · exact ⟨rfl, rfl⟩

/-- A frame with channels leaves an applied TRAVEL within the cap of its loader's zone. -/
theorem buildCommand_applied {z : ZoneId} (zone : (s.entry i).zone? = some z)
    (active : ((buildCommand i s).entry i).state ∉ [EntryState.empty, .discovering, .refused]) :
    ((buildCommand i s).entry i).applied.travel.natAbs ≤ (s.zone z).cap := by
  have loaderZone : s.loaderZone i = s.zone z := by rw [State.loaderZone, zone]
  cases source : frameSource i s with
  | none =>
    exfalso
    have state : ((buildCommand i s).entry i).state = (s.entry i).state := by
      by_cases empty : (s.entry i).state = .empty
      · rw [buildCommand_of_empty empty]
      · rw [buildCommand_of_none empty source]
        rfl
    exact active (state ▸ state_of_noFrame source)
  | some src =>
    have sent (v : State) (axes : Axes) (capped ramped : Bool) : (sendStatus i axes capped ramped v).entry i = v.entry i := by
      unfold sendStatus
      split
      · exact (send_table ..).entry i
      · rfl
    rw [buildCommand_of_source source, sent, frameBuilt_entry, loaderZone]
    exact capTravel_le _ _

/-- The end of an event leaves the state, the applied values and all of an entry but its record. -/
theorem finish_sameButRecord (s : State) (i : Slot) : SameButRecord (s.entry i) ((finish s).entry i) :=
  (finish_dispatched s).sameButRecord i

end Sys2Proof.Machine

namespace Sys2Proof.Settled

open Sys2Proof.Machine

/-- Settles O43: the frame is capped by the zone of the entry, which the miss count leaves. -/
theorem travelNeverBeyondCap : Obligations.TravelNeverBeyondCap := by
  intro s i z running zone
  refine ⟨_, exec_cycleExpiry_eq s i running, fun active => ?_⟩
  let u := countMiss i { s with dispatchDue := false }
  obtain ⟨status, zones⟩ := countMiss_status i { s with dispatchDue := false }
  have same := finish_sameButRecord (rearmed i (buildCommand i u)) i
  have state := congrArg Entry.state same
  have applied := congrArg Entry.applied same
  dsimp only at state applied
  have zoneThen : (u.entry i).zone? = some z := by rw [Entry.zone?, status]; exact zone
  have capped := buildCommand_applied zoneThen (state ▸ active)
  rw [State.zone, zones] at capped
  rw [applied]
  exact capped

/-- Settles O42: the miss is counted, the frame of the table placed, and the STATUS frame sent. -/
theorem cycleExpiriesBuildFrames : Obligations.CycleExpiriesBuildFrames := by
  intro s i hq running active kept e f counting u
  have misses : missesAfter s i = if counting then (if f.heard then 0 else f.misses + 1) else f.misses := by
    unfold missesAfter
    simp only [countsMisses_iff]
    rfl
  have silent : (s.fleetSlot i).heard = true ∨ countsMisses (s.entry i) (s.context i) = false ∨
      (s.fleetSlot i).misses + 1 < s.policy.missLimit := by
    rcases kept with heard | lost | tripped | refused | ⟨discovering, stage⟩ | below
    · exact .inl heard
    · exact .inr (.inl (by rw [countsMisses, lost]))
    · exact .inr (.inl (by rw [countsMisses, tripped]))
    · exact .inr (.inl (by rw [countsMisses, refused]))
    · exact .inr (.inl (by simpa [countsMisses, discovering] using stage))
    · exact .inr (.inr below)
  let x : FleetSlot := { f with heard := false, misses := missesAfter s i }
  let v := s.setFleetSlot i x
  have counted : countMiss i s = v := countMiss_of_kept silent
  have table : frameSource i v = frameTable s i := frameSource_eq v i
  have rearmed_eq (w : State) (context : w.context i = s.context i) : rearmed i (w.setFleetSlot i x) = w.setFleetSlot i
      { f with heard := false, misses := if counting then (if f.heard then 0 else f.misses + 1) else f.misses,
               cycle := some ((s.context i).period.getD 50) } := by
    rw [rearmed_setFleetSlot, context, ← misses]
  have run (w : State) (built : buildCommand i v = w.setFleetSlot i x) (context : w.context i = s.context i) (quiet : w.Quiet) :
      exec (.cycleExpiry i) s = .next (w.setFleetSlot i
        { f with heard := false, misses := if counting then (if f.heard then 0 else f.misses + 1) else f.misses,
                 cycle := some ((s.context i).period.getD 50) }) := by
    rw [exec_cycleExpiry hq running, counted, built, rearmed_eq w context, finish_of_quiet (by exact quiet)]
  refine ⟨fun none => ?_, fun src source => ?_⟩
  · exact run (s.queueCommand i .stop []) (buildCommand_of_none active (table.trans none)) rfl hq
  · intro z capped axes w
    have axes_eq : cappedAxes (s.loaderZone i) src.axes = axes := by
      rw [cappedAxes, capTravel, beyondCap]
      simp only [decide_eq_true_eq]
      rfl
    have ramp_eq : (if src.ramped then e.ramp.bind Ramp.advance else e.ramp) =
        if src.ramped then (match e.ramp with
          | some r => if r.progress < r.length then some { r with progress := r.progress + 1 } else none
          | none => none) else e.ramp := by
      cases e.ramp <;> rfl
    have entry : builtEntry z src e = { e with
        applied := axes, lights := src.lights
        ramp := if src.ramped then (match e.ramp with
          | some r => if r.progress < r.length then some { r with progress := r.progress + 1 } else none
          | none => none) else e.ramp } := by
      rw [builtEntry, axes_eq, ramp_eq]
    have built : (frameBuilt i src s).setFleetSlot i
        { f with heard := false, misses := if counting then (if f.heard then 0 else f.misses + 1) else f.misses,
                 cycle := some ((s.context i).period.getD 50) } = w := by
      rw [frameBuilt, State.modEntry, entry, axes_eq]
      rfl
    have source' := buildCommand_of_source (table.trans source)
    refine ⟨fun apart => ?_, fun c ls held holder up status => ?_⟩
    · rw [← built]
      refine run (frameBuilt i src s) ?_ rfl hq
      rw [source', sendStatus_of_apart (by rw [frameBuilt_entry]; exact apart)]
      rfl
    · rw [← built]
      refine run ((frameBuilt i src s).setChair c ((s.chair c).queued
        (.status { slot := i, status := ls, applied := axes, capped := decide capped, rampActive := src.ramped }))) ?_ rfl hq
      rw [source', sendStatus_of_held (c := c) (ls := ls) (by rw [frameBuilt_entry]; exact held) (by rw [frameBuilt_entry]; exact holder)
        (by rw [frameBuilt_entry]; exact status) (by exact up)]
      rw [← axes_eq]
      rfl

end Sys2Proof.Settled
end


section
/-! SUPPORT. A loader that does not answer: link loss, refusal and the forget expiry (R156, R157, R159). -/

namespace Sys2Proof.Machine

variable {s w : State} {i : Slot}

/-! ### The frame of an entry whose link is lost -/

theorem cappedAxes_neutral (z : Zone) : cappedAxes z Axes.neutral = Axes.neutral := by
  rw [cappedAxes, capTravel_of_le z _ (Nat.zero_le _)]

theorem buildCommand_of_lost (h : (s.entry i).state = .linkLost) : buildCommand i s = frameBuilt i (holdSource (s.entry i)) s := by
  have source : frameSource i s = some (holdSource (s.entry i)) := by rw [frameSource, h]
  rw [buildCommand_of_source source, sendStatus_of_apart]
  rw [frameBuilt_entry]
  exact ne_of_eq_of_ne h (by decide)

/-- The braked neutral HOLD frame leaves neutral applied values, and is placed. -/
theorem frameBuilt_hold (i : Slot) (s : State) :
    frameBuilt i (holdSource (s.entry i)) s = (s.setEntry i { s.entry i with applied := Axes.neutral }).queueCommand i .hold
      (packFrame (s.context i) Axes.neutral (holdSource (s.entry i))) := by
  have axes : cappedAxes (s.loaderZone i) (holdSource (s.entry i)).axes = Axes.neutral := cappedAxes_neutral _
  have entry : builtEntry (s.loaderZone i) (holdSource (s.entry i)) (s.entry i) = { s.entry i with applied := Axes.neutral } := by
    rw [builtEntry, axes]
    rfl
  rw [frameBuilt, State.modEntry, axes, entry]
  rfl

/-! ### Refusal -/

theorem frameSource_of_refused (h : (s.entry i).state = .refused) : frameSource i s = none := by rw [frameSource, h]

/-- Slot `i` refused, its waiting read withdrawn, but for the notice. -/
def refusedAt (i : Slot) (why : DiscoveryRefusal) (s : State) : State :=
  ({ s with fleetQueue := s.fleetQueue.filter fun f => !f.isReadOf i }.setEntry i
    { s.entry i with state := .refused, holder := none, ramp := none, zoneDrop := false }).setContext i
    { s.context i with stage := none, read := none, answerTimer := none, refusal := some why }

/-- The service port with a notice queued if it is online. -/
def Service.noticed (n : Notice) (v : Service) : Service :=
  if v.online then { v with port := v.port.enqueue (.notice n) } else v

theorem told_eq (n : Notice) (s : State) : s.told n = s.withService (s.service.noticed n) := by
  unfold State.told Service.noticed
  split <;> rfl

/-! ### Link loss in a run -/

/-- A cycle expiry that loses the link of slot `i`: the loss, its HOLD frame, the timer. -/
def lossBuilt (i : Slot) (w : State) : State := rearmed i (buildCommand i (loseLink i w))

theorem lossBuilt_eq (i : Slot) (w : State) :
    lossBuilt i w = rearmed i (((loseLink i w).setEntry i { Entry.vacate .linkLost (w.entry i) with
        handover := none, applied := Axes.neutral }).queueCommand i .hold
      (packFrame ((loseLink i w).context i) Axes.neutral (holdSource (w.entry i)))) := by
  have entry := loseLink_entry_self w i
  rw [lossBuilt, buildCommand_of_lost (by rw [entry]; rfl), frameBuilt_hold, entry]
  rfl

theorem lossBuilt_parted (fits : w.SlotFits i) : Parted w (lossBuilt i w) i .linkLost := by
  rw [lossBuilt_eq]
  exact (loseLink_parted fits).of_after rfl (fun j other => State.entry_setEntry_of_ne _ _ (Ne.symm other)) fun _ => rfl

theorem lossBuilt_shown (i : Slot) (w : State) :
    (lossBuilt i w).entry i = { Entry.vacate .linkLost (w.entry i) with handover := none, applied := Axes.neutral } ∧
    (lossBuilt i w).fleetQueue = placeCommand (.command i (w.unitOf i) .hold
      (packFrame (w.context i) Axes.neutral (holdSource (w.entry i)))) w.fleetQueue ∧
    (lossBuilt i w).fleetSlot i = { w.fleetSlot i with
      cycle := some ((w.context i).period.getD 50), forget := some w.policy.forgetTime } ∧
    (lossBuilt i w).service = (loseLink i w).service ∧
    (lossBuilt i w).zones = w.zones ∧ (lossBuilt i w).policy = w.policy ∧ (lossBuilt i w).bindings = w.bindings ∧
    (lossBuilt i w).contexts = w.contexts := by
  obtain ⟨zones, policy, bindings, contexts, -, fleet, queue, -⟩ := loseLink_elsewhere w i
  have context : (loseLink i w).context i = w.context i := congrArg (Vector.get · i) contexts
  have unit : (loseLink i w).unitOf i = w.unitOf i := congrArg (fun b => (Vector.get b i).unit.getD 0#32) bindings
  have slot : (loseLink i w).fleetSlot i = { w.fleetSlot i with forget := some w.policy.forgetTime } :=
    (congrArg (Vector.get · i) fleet).trans (State.fleetSlot_setFleetSlot_self ..)
  rw [lossBuilt_eq]
  refine ⟨State.entry_setEntry_self .., ?_, ?_, rfl, zones, policy, bindings, contexts⟩
  · show placeCommand (.command i ((loseLink i w).unitOf i) _ _) (loseLink i w).fleetQueue = _
    rw [queue, unit, context]
    rfl
  · refine (State.fleetSlot_setFleetSlot_self ..).trans ?_
    show ({ (loseLink i w).fleetSlot i with cycle := some (((loseLink i w).context i).period.getD 50) } : FleetSlot) = _
    rw [slot, context]

end Sys2Proof.Machine

namespace Sys2Proof.Settled

open Sys2Proof.Machine

/-- Settles O44: the loss with its HOLD frame, the refusal with its STOP frame, and the slot forgotten. -/
theorem lostLoadersAreForgotten : Obligations.LostLoadersAreForgotten := by
  refine ⟨fun s i hq authority _ running linked silent limit => ?_, fun s i hq running discovering stage silent limit => ?_,
    fun s i hq running => ?_⟩
  · intro e hold
    have fits := (authorityLaw_iff s).1 authority i
    have admitted : (s.entry i).state ≠ .discovering := by
      rcases linked with h | h
      · intro d; simp [d, EntryState.carries] at h
      · simp [h]
    let v := s.setFleetSlot i { s.fleetSlot i with misses := (s.fleetSlot i).misses + 1 }
    have counted : countMiss i s = loseLink i v :=
      (countMiss_of_limit ((countsMisses_iff _ _).2 (by tauto)) silent limit).trans (if_neg admitted)
    have slot : v.fleetSlot i = { s.fleetSlot i with misses := (s.fleetSlot i).misses + 1 } := State.fleetSlot_setFleetSlot_self ..
    have fits' : v.SlotFits i := by
      obtain ⟨holder, record, caller, idle, forget⟩ := fits
      exact ⟨holder, record, caller, idle, fun h => by rw [slot]; exact forget h⟩
    have parted := lossBuilt_parted fits'
    obtain ⟨entry, queue, fleet, service, zones, policy, bindings, contexts⟩ := lossBuilt_shown i v
    obtain ⟨hz, hp, hb, hx, -, hf, hqueue, -⟩ := finish_elsewhere (lossBuilt i v)
    have ended : Parted s (finish (lossBuilt i v)) i .linkLost :=
      Parted.finish (s := s) (parted.of_before rfl (fun _ => rfl) (fun _ _ => rfl) fun _ => rfl)
    refine ⟨finish (lossBuilt i v), ?_, (finish_entry_of_uncalled parted.calls).trans entry, hqueue.trans queue, ?_, ended.calls,
      ended.driving, ended.queues, fun up room => mem_finish_service ?_, ended.entries, ended.chairs, hz.trans zones, hp.trans policy,
      hb.trans bindings, hx.trans contexts⟩
    · rw [exec_cycleExpiry hq running, counted]
      rfl
    · rw [State.fleetSlot, hf]
      refine fleet.trans ?_
      rw [slot, ← silent]
      rfl
    · rw [service]
      exact mem_loseLink_service v i up room
  · intro x why
    let m : FleetSlot := { s.fleetSlot i with misses := (s.fleetSlot i).misses + 1 }
    let refused := refusedAt i why s
    have told : refuse i .noAnswer (s.setFleetSlot i m) = (refused.setFleetSlot i m).told (.refused i (s.unitNumber i) why) :=
      refuse_of_stage (s := s.setFleetSlot i m) stage _
    have counted : countMiss i s = (refused.setFleetSlot i m).told (.refused i (s.unitNumber i) why) :=
      ((countMiss_of_limit ((countsMisses_iff _ _).2 (by tauto)) silent limit).trans (if_pos discovering)).trans told
    have state : (refused.entry i).state = .refused := congrArg Entry.state (State.entry_setEntry_self ..)
    have context : refused.context i = { x with stage := none, read := none, answerTimer := none, refusal := some why } :=
      State.context_setContext_self ..
    have built : buildCommand i ((refused.setFleetSlot i m).told (.refused i (s.unitNumber i) why)) =
        ((refused.queueCommand i .stop []).told (.refused i (s.unitNumber i) why)).setFleetSlot i m := by
      rw [told_eq, told_eq, buildCommand_of_none]
      · rfl
      · exact ne_of_eq_of_ne state (by decide)
      · exact frameSource_of_refused state
    have quiet : (((refused.queueCommand i .stop []).told (.refused i (s.unitNumber i) why)).setFleetSlot i
        { m with cycle := some (x.period.getD 50) }).Quiet := by
      rw [told_eq]
      exact hq
    have period : (((refused.queueCommand i .stop []).told (.refused i (s.unitNumber i) why)).context i).period = x.period := by
      rw [told_eq]
      have kept : (refused.context i).period = x.period := by rw [context]
      exact kept
    rw [exec_cycleExpiry hq running, counted, built, rearmed_setFleetSlot, period, finish_of_quiet quiet, told_eq, told_eq]
    rfl
  · have gone : event (fun s => if (s.fleetSlot i).forget.isSome then forgotten i s else s) s = forgotten i s := by
      rw [event_eq_of_quiet hq, if_pos (Option.isSome_iff_ne_none.2 running)]
      rw [if_pos (Option.isSome_iff_ne_none.2 running)]
      rfl
    refine ⟨forgotten i s, congrArg _ gone, ⟨?_, ?_, ?_⟩, rfl, rfl, fun j other => ⟨?_, ?_, ?_⟩, rfl, rfl, rfl, rfl, rfl⟩
    · exact State.entry_setEntry_self ..
    · exact State.context_setContext_self ..
    · exact State.fleetSlot_setFleetSlot_self ..
    · exact State.entry_setEntry_of_ne _ _ (Ne.symm other)
    · exact State.context_setContext_of_ne _ _ (Ne.symm other)
    · exact State.fleetSlot_setFleetSlot_of_ne _ _ (Ne.symm other)

end Sys2Proof.Settled
end


section
/-! SUPPORT. A TELEMETRY that shows no trip: the zone change, the gate, the zone drop (R22, R121 to R127). -/

namespace Sys2Proof.Machine

variable {s : State} {i : Slot} {z : ZoneId} {c : ChairId} {h : Handover}

/-! ### The gate (R42) -/

theorem evaluateGate_of_none (free : (s.entry i).handover = none) : evaluateGate i s = s := by
  rw [evaluateGate, free]

theorem evaluateGate_of_some (hh : (s.entry i).handover = some h) :
    evaluateGate i s = if h.phase = .gating ∧ gatePasses i h s = true then transfer i h s else s := by
  rw [evaluateGate, hh]
  dsimp only
  cases phase : h.phase <;> simp

theorem transfer_zoneDrop (i : Slot) (h : Handover) (s : State) : ((transfer i h s).entry i).zoneDrop = false := by
  rw [transfer_entry, if_pos rfl]
  rfl

/-! ### The target and the holder tested (R53, R121, R124) -/

theorem testTarget_of_none (free : (s.entry i).handover = none) : testTarget i s = s := by
  rw [testTarget, free]

theorem testTarget_of_barred {d : ChairId} (hh : (s.entry i).handover = some h) (target : h.target = .chair d)
    (barred : s.allowedAt i d = false) : testTarget i s = abandon i .notPermitted s := by
  rw [testTarget, hh]
  dsimp only
  rw [target]
  dsimp only
  rw [barred]
  rfl

theorem testTarget_of_allowed (hh : (s.entry i).handover = some h) (allowed : ∀ d, h.target = .chair d → s.allowedAt i d = true) :
    testTarget i s = s := by
  rw [testTarget, hh]
  dsimp only
  cases target : h.target with
  | chair d => exact if_pos (allowed d target)
  | auto => rfl

theorem testHolderAtChange_of_apart (h : (s.entry i).state ≠ .held) : testHolderAtChange i z s = s := by
  unfold testHolderAtChange
  split
  next held _ => exact absurd held h
  next => rfl

/-- The flag follows the holder's exclusion, with a notice where it changes. -/
theorem testHolderAtChange_of_holder (held : (s.entry i).heldBy c = true) :
    testHolderAtChange i z s =
      if (!s.allowedAt i c) = (s.entry i).zoneDrop then s else setZoneDrop i c z (!s.allowedAt i c) s := by
  obtain ⟨state, holder⟩ := (heldBy_iff _ _).1 held
  rw [testHolderAtChange, state, holder]
  dsimp only
  cases s.allowedAt i c <;> cases (s.entry i).zoneDrop <;> rfl

theorem setZoneDrop_of_online (up : (s.chair c).state ≠ .offline) (b : Bool) :
    setZoneDrop i c z b s =
      (s.setEntry i { s.entry i with zoneDrop := b }).setChair c ((s.chair c).queued (.notice (.zone i z b))) := by
  rw [setZoneDrop, State.notify, send_chair_of_online _ (by exact up)]
  rfl

/-! ### The zone change (R124) -/

/-- The dispatcher made due for an AUTO entry (R65). -/
def changeBegun (i : Slot) (s : State) : State := if (s.entry i).state = .auto then s.due else s

theorem changeBegun_of_apart (h : (s.entry i).state ≠ .auto) : changeBegun i s = s := if_neg h

theorem changeBegun_eq (i : Slot) (s : State) (quiet : s.Quiet) :
    changeBegun i s = { s with dispatchDue := decide ((s.entry i).state = .auto) } := by
  unfold changeBegun
  by_cases auto : (s.entry i).state = .auto
  · rw [if_pos auto, decide_eq_true auto]
    rfl
  · rw [if_neg auto, decide_eq_false auto, ← show s.dispatchDue = false from quiet]

/-- What a zone change does by the entry's state and the zone's. -/
def changedIn (st : EntryState) (m : ZoneState) (i : Slot) (z : ZoneId) (s : State) : State :=
  match st, m with
  | .free, .closed | .auto, .closed | .held, .closed => lock i s
  | .locked, .opened => unlock i s
  | .free, .opened | .auto, .opened | .held, .opened => testHolderAtChange i z (testTarget i s)
  | _, _ => s

theorem zoneChanged_eq (i : Slot) (z : ZoneId) (s : State) :
    zoneChanged i z s = changedIn (s.entry i).state (s.zone z).state i z (changeBegun i s) := by
  unfold zoneChanged changeBegun
  by_cases auto : (s.entry i).state = .auto
  · rw [if_pos auto]
    rfl
  · rw [if_neg auto]
    rfl

theorem zoneChanged_of_closed (h : (s.entry i).state.carries = true) (closed : (s.zone z).state = .closed) :
    zoneChanged i z s = lock i (changeBegun i s) := by
  rw [zoneChanged_eq, closed]
  cases state : (s.entry i).state with
  | free | auto | held => rfl
  | _ => rw [state] at h; cases h

theorem zoneChanged_of_opened (h : (s.entry i).state.carries = true) (opened : (s.zone z).state = .opened) :
    zoneChanged i z s = testHolderAtChange i z (testTarget i (changeBegun i s)) := by
  rw [zoneChanged_eq, opened]
  cases state : (s.entry i).state with
  | free | auto | held => rfl
  | _ => rw [state] at h; cases h

theorem zoneChanged_of_locked (h : (s.entry i).state = .locked) :
    zoneChanged i z s = if (s.zone z).state = .opened then s.modEntry i (Entry.vacate .free) else s := by
  rw [zoneChanged_eq, h, changeBegun_of_apart (by simp [h])]
  cases (s.zone z).state <;> rfl

/-! ### The zone drop (R127) -/

theorem zoneDropAt_of_apart (h : (s.entry i).state ≠ .held) (b : Bool) (ls : LoaderStatus) : zoneDropAt i b ls s = s := by
  unfold zoneDropAt
  split
  next held _ => exact absurd held h
  next => rfl

theorem zoneDropAt_of_kept {b : Bool} {ls : LoaderStatus} (h : ¬ (b = true ∧ (s.entry i).zoneDrop = true ∧ ls.stationary = true)) :
    zoneDropAt i b ls s = s := by
  unfold zoneDropAt
  split
  · exact if_neg (by simpa [and_assoc] using h)
  · rfl

theorem zoneDropAt_of_dropped {ls : LoaderStatus} (held : (s.entry i).heldBy c = true) (flag : (s.entry i).zoneDrop = true)
    (stationary : ls.stationary = true) :
    zoneDropAt i true ls s = (dropHolder i .zoneExit s).notify .service (.zoneDrop i c ls.zone) := by
  obtain ⟨state, holder⟩ := (heldBy_iff _ _).1 held
  rw [zoneDropAt, state, holder]
  dsimp only
  rw [flag, stationary]
  rfl

/-! ### A TELEMETRY examined (R22) -/

theorem examine_of_sameZone {before : Entry} {ls : LoaderStatus} (sound : ls.trips = false) (same : before.zone? = some ls.zone) (s : State) :
    examine i before ls s = zoneDropAt i before.zoneDrop ls (evaluateGate i s) := by
  rw [examine, if_neg (by simp [sound])]
  dsimp only
  rw [if_pos same]

theorem examine_of_newZone {before : Entry} {ls : LoaderStatus} (sound : ls.trips = false) (new : before.zone? ≠ some ls.zone) (s : State) :
    examine i before ls s = zoneDropAt i before.zoneDrop ls (evaluateGate i (zoneChanged i ls.zone s)) := by
  rw [examine, if_neg (by simp [sound])]
  dsimp only
  rw [if_neg new]

end Sys2Proof.Machine
end


section
/-! SUPPORT. A TELEMETRY of a held loader that shows no trip (R121 to R127). -/

namespace Sys2Proof.Machine

variable {s : State} {i : Slot} {c : ChairId} {h : Handover}

/-! ### The zone reported (R125) -/

theorem zoneReported_of_outside {n : Int} (h : n < 0 ∨ 7 < n) : zoneReported n = 0 := by
  unfold zoneReported
  split_ifs with small negative
  · rfl
  · omega
  · rfl

theorem zoneReported_of_inside {n : Int} (h : ¬ (n < 0 ∨ 7 < n)) : ((zoneReported n).val : Int) = n := by
  unfold zoneReported
  split_ifs with small negative
  · omega
  · exact Int.toNat_of_nonneg (by omega)
  · omega

/-! ### A held entry as a TELEMETRY finds it -/

/-- The part with the status stored, the entry of slot `i` held by chair `c`, which is online. -/
structure HeldAt (v : State) (i : Slot) (c : ChairId) (z : ZoneId) : Prop where
  held : (v.entry i).heldBy c = true
  up : (v.chair c).state = .driving
  zone : (v.entry i).zone? = some z
  quiet : v.Quiet

variable {v : State} {z : ZoneId}

namespace HeldAt

theorem carries (k : HeldAt v i c z) : (v.entry i).state.carries = true := carries_of_heldBy k.held

theorem begun (k : HeldAt v i c z) : changeBegun i v = v :=
  changeBegun_of_apart (by rw [((heldBy_iff _ _).1 k.held).1]; decide)

theorem allowedAt (k : HeldAt v i c z) (d : ChairId) : v.allowedAt i d = hasChair (v.zone z).allowed d := by
  rw [State.allowedAt, k.zone]

/-- With no record on it the entry leaves authority by its write and its holder's. -/
theorem leave_eq (k : HeldAt v i c z) (free : (v.entry i).handover = none) (cause lost : Code) (f : Entry → Entry) :
    leave i cause (some lost) f v =
      { (v.setEntry i (f (v.entry i))).setChair c ((v.chair c).settled.queued (.notice (.lost i lost))) with
        dispatchDue := (v.chair c).latch } := by
  rw [leave_of_holder k.held, abandon_of_none _ free, show v.dispatchDue = false from k.quiet, Bool.or_false]
  rfl

end HeldAt

end Sys2Proof.Machine

namespace Sys2Proof.Settled

open Sys2Proof.Machine

/-- Settles O40: the zone change, the gate and the zone drop of a held loader, one behind the other. -/
theorem telemetryMovesAHeldLoader : Obligations.TelemetryMovesAHeldLoader := by
  intro s u i payload a c hq hu ha length e x vs ls state holder driving sound outside z moved told lost heard bound vacated dropped
  let v := heard.setEntry i bound
  have stored : s.stored i vs = v := rfl
  have entry : v.entry i = bound := State.entry_setEntry_self ..
  obtain ⟨chairs, -, -, zones, -, -, due⟩ := stored_frame s i vs
  have chair (d : ChairId) : v.chair d = s.chair d := congrArg (Vector.get · d) chairs
  have zone (n : ZoneId) : v.zone n = s.zone n := congrArg (Vector.get · n) zones
  have k : HeldAt v i c ls.zone := by
    refine ⟨?_, (congrArg Chair.state (chair c)).trans driving, ?_, due.trans hq⟩
    · rw [entry]
      exact (heldBy_iff _ _).2 ⟨state, holder⟩
    · rw [entry]
      rfl
  have heardFrom : listens (s.entry i) (s.context i) = true := by
    rw [listens, show (s.entry i).state = .held from state]
  have run : exec (.telemetry u payload) s = .next (finish (examine i e ls v)) := by
    rw [exec_telemetry hq hu ha length heardFrom, takenIn_of_examined (.inl (by rw [show (s.entry i).state = .held from state]; rfl))]
    exact rfl
  have same (still : ¬ moved) : examine i e ls v = zoneDropAt i e.zoneDrop ls (evaluateGate i v) :=
    examine_of_sameZone sound (not_not.1 still) v
  have closed (new : moved) (shut : z.state = .closed) :
      examine i e ls v = zoneDropAt i e.zoneDrop ls (evaluateGate i (leave i .zoneClosed (some .zoneClosed) (vacated .locked) v)) := by
    rw [examine_of_newZone sound new, zoneChanged_of_closed k.carries ((congrArg Zone.state (zone _)).trans shut), k.begun]
    rfl
  have opened (new : moved) (wide : z.state = .opened) :
      examine i e ls v = zoneDropAt i e.zoneDrop ls (evaluateGate i (testHolderAtChange i ls.zone (testTarget i v))) := by
    rw [examine_of_newZone sound new, zoneChanged_of_opened k.carries ((congrArg Zone.state (zone _)).trans wide), k.begun]
  refine ⟨fun out => ?_, fun inside => ?_, fun free => ?_, fun h hh apart => ?_⟩
  · exact zoneReported_of_outside out
  · exact zoneReported_of_inside inside
  · have free' : (v.entry i).handover = none := by rw [entry]; exact free
    have left (cause lostCause : Code) (st : EntryState) : leave i cause (some lostCause) (vacated st) v =
        { (heard.setEntry i (vacated st bound)).setChair c (lost lostCause) with dispatchDue := x.latch } := by
      rw [k.leave_eq free', entry, chair, State.setEntry_setEntry]
    have dropQuiet : (heard.setEntry i bound).Quiet := k.quiet
    have tested : testHolderAtChange i ls.zone (testTarget i v) =
        if (!hasChair z.allowed c) = e.zoneDrop then v
        else (heard.setEntry i { bound with zoneDrop := !hasChair z.allowed c }).setChair c (told (.zone i ls.zone (!hasChair z.allowed c))) := by
      rw [testTarget_of_none free', testHolderAtChange_of_holder k.held, k.allowedAt, zone, entry,
        setZoneDrop_of_online (by rw [k.up]; decide), entry, chair, State.setEntry_setEntry]
    have ended (w : State) (b : Bool) (none : (w.entry i).handover = none) (quiet : w.Quiet)
        (kept : ¬ (b = true ∧ (w.entry i).zoneDrop = true ∧ ls.stationary = true)) :
        finish (zoneDropAt i b ls (evaluateGate i w)) = w := by
      rw [evaluateGate_of_none none, zoneDropAt_of_kept kept, finish_of_quiet quiet]
    have still : (¬ moved ∨ (z.state = .opened ∧ hasChair z.allowed c = false ∧ e.zoneDrop = true)) →
        examine i e ls v = zoneDropAt i e.zoneDrop ls (evaluateGate i v) := by
      rintro (unmoved | ⟨wide, excluded, flag⟩)
      · exact same unmoved
      · by_cases new : moved
        · rw [opened new wide, tested, excluded, flag, if_pos (by rfl)]
        · exact same new
    refine ⟨fun new shut => ?_, fun new wide allowed => ?_, fun new wide excluded clear => ?_, fun stays kept => ?_, fun stays drops => ?_⟩
    · let w := (heard.setEntry i (vacated .locked bound)).setChair c (lost .zoneClosed)
      have locked : w.entry i = vacated .locked bound := State.entry_setEntry_self ..
      rw [run, closed new shut, left, evaluateGate_of_none (s := { w with dispatchDue := x.latch }) ((congrArg Entry.handover locked).trans free),
        zoneDropAt_of_apart (s := { w with dispatchDue := x.latch }) (ne_of_eq_of_ne (congrArg Entry.state locked) (by simp [vacated]))]
      exact congrArg _ (finish_setDue w x.latch k.quiet)
    · rw [run, opened new wide, tested, allowed]
      cases flag : e.zoneDrop with
      | false => exact congrArg _ (ended v _ free' k.quiet (by simp))
      | true =>
        let w := (heard.setEntry i { bound with zoneDrop := false }).setChair c (told (.zone i ls.zone false))
        have cleared : w.entry i = { bound with zoneDrop := false } := State.entry_setEntry_self ..
        exact congrArg _ (ended w true ((congrArg Entry.handover cleared).trans free) k.quiet (by rw [cleared]; simp))
    · rw [run, opened new wide, tested, excluded, clear]
      let w := (heard.setEntry i { bound with zoneDrop := true }).setChair c (told (.zone i ls.zone true))
      have marked : w.entry i = { bound with zoneDrop := true } := State.entry_setEntry_self ..
      exact congrArg _ (ended w false ((congrArg Entry.handover marked).trans free) k.quiet (by simp))
    · rw [run, still stays, ended v _ free' k.quiet (fun drops => kept ⟨drops.1, drops.2.2⟩)]
    · let w := (heard.setEntry i (vacated .free bound)).setChair c (lost .zoneExit)
      have exit : zoneDropAt i true ls v = { w.told (.zoneDrop i c ls.zone) with dispatchDue := x.latch } := by
        rw [zoneDropAt_of_dropped k.held ((congrArg Entry.zoneDrop entry).trans drops.1) drops.2, told_eq]
        refine (congrArg (State.told _) (left .sourceLost .zoneExit .free)).trans ?_
        rw [told_eq]
        rfl
      rw [run, still stays, evaluateGate_of_none free', drops.1, exit, finish_setDue]
      rw [told_eq]
      exact k.quiet
  · intro v'
    have hh' : (v.entry i).handover = some h := by rw [entry]; exact hh
    refine ⟨fun new shut => ?_, ?_⟩
    · let w := leave i .zoneClosed (some .zoneClosed) (vacated .locked) v
      have locked : w.entry i = vacated .locked { v.entry i with handover := none } := (leave_entry ..).trans (if_pos rfl)
      rw [run, closed new shut, evaluateGate_of_none (congrArg Entry.handover locked),
        zoneDropAt_of_apart (ne_of_eq_of_ne (congrArg Entry.state locked) (by simp [vacated]))]
    · intro stays barred flag p q
      have barredOut : barred → p = abandon i .notPermitted v := fun h => if_pos h
      have unbarred : ¬ barred → p = v := fun h => if_neg h
      have pEntry : (p.entry i).zoneDrop = e.zoneDrop ∧ (p.entry i).heldBy c = true := by
        by_cases b : barred
        · rw [barredOut b, abandon_entry_self, entry]
          exact ⟨rfl, (heldBy_iff _ _).2 ⟨state, holder⟩⟩
        · rw [unbarred b]
          exact ⟨by rw [entry], k.held⟩
      have pZones : (p.entry i).zone? = some ls.zone ∧ p.zone ls.zone = z := by
        by_cases b : barred
        · rw [barredOut b, abandon_entry_self, State.zone, (abandon_elsewhere ..).1]
          exact ⟨k.zone, zone _⟩
        · rw [unbarred b]
          exact ⟨k.zone, zone _⟩
      have pAllowed : p.allowedAt i c = hasChair z.allowed c := by
        rw [State.allowedAt, pZones.1]
        exact congrArg (fun r => hasChair (Zone.allowed r) c) pZones.2
      have pUp : (p.chair c).state ≠ .offline := by
        by_cases b : barred
        · rw [barredOut b, abandon_chair_state, k.up]
          split
          · exact Chair.settled_state_ne_offline _
          · decide
        · rw [unbarred b, k.up]
          decide
      have pHandover : (barred → (p.entry i).handover = none) ∧ (¬ barred → (p.entry i).handover = some h) :=
        ⟨fun b => by rw [barredOut b, abandon_entry_self], fun b => by rw [unbarred b, hh']⟩
      have qEntry : q.entry i = { p.entry i with zoneDrop := flag } := by
        by_cases kept : flag = e.zoneDrop
        · rw [show q = p from if_pos kept, kept, ← pEntry.1]
        · rw [show q = _ from if_neg kept]
          exact State.entry_setEntry_self ..
      have qHandover (b : barred) : (q.entry i).handover = none := by
        rw [qEntry]
        exact pHandover.1 b
      have qStands (b : ¬ barred) : (q.entry i).handover = some h := by
        rw [qEntry]
        exact pHandover.2 b
      have qFlag : (q.entry i).zoneDrop = flag ∧ (q.entry i).heldBy c = true := by
        rw [qEntry]
        exact ⟨rfl, pEntry.2⟩
      have stage : examine i e ls v = zoneDropAt i e.zoneDrop ls (evaluateGate i q) := by
        by_cases new : moved
        · have wide : z.state = .opened := stays.resolve_left (not_not.2 new)
          have target : testTarget i v = p := by
            by_cases b : barred
            · obtain ⟨-, d, target, excluded⟩ := b
              rw [barredOut ⟨new, d, target, excluded⟩]
              exact testTarget_of_barred hh' target (by rw [k.allowedAt, zone]; exact excluded)
            · rw [unbarred b]
              refine testTarget_of_allowed hh' fun d target => ?_
              rw [k.allowedAt, zone]
              by_contra excluded
              exact b ⟨new, d, target, Bool.eq_false_iff.2 excluded⟩
          have followed : flag = !hasChair z.allowed c := if_pos new
          rw [opened new wide, target, testHolderAtChange_of_holder pEntry.2, pAllowed, pEntry.1, setZoneDrop_of_online pUp, ← followed]
        · rw [same new, show q = p from if_pos (if_neg new), unbarred fun b => new b.1]
      refine ⟨fun b gating passes => ?_, fun fails => ?_⟩
      · rw [run, stage, evaluateGate_of_some (qStands b), if_pos ⟨gating, passes⟩,
          zoneDropAt_of_kept (by rw [transfer_zoneDrop]; simp)]
      · have waits : evaluateGate i q = q := by
          by_cases b : barred
          · exact evaluateGate_of_none (qHandover b)
          · rw [evaluateGate_of_some (qStands b), if_neg]
            rintro ⟨gating, passes⟩
            rcases fails with out | offering | fails
            · exact b out
            · rw [gating] at offering; cases offering
            · rw [passes] at fails; cases fails
        rw [run, stage, waits]
        by_cases drops : e.zoneDrop = true ∧ flag = true ∧ ls.stationary = true
        · rw [if_pos drops, drops.1, zoneDropAt_of_dropped qFlag.2 (qFlag.1.trans drops.2.1) drops.2.2]
          rfl
        · rw [if_neg drops, zoneDropAt_of_kept (by rw [qFlag.1]; exact drops)]

end Sys2Proof.Settled
end


section
/-! SUPPORT. The loader status of a TELEMETRY field by field, and the TELEMETRY of a loader that no chair holds (R142, R155, R158). -/

namespace Sys2Proof.Machine

variable {s : State} {i : Slot}

/-! ### The loader status (R155) -/

theorem functionOf_inj {b d : Byte} {f : Function} (hb : functionOf b = some f) (hd : functionOf d = some f) : b = d := by
  have nodup : functions.Nodup := by decide
  rw [functionOf, List.getElem?_eq_some_iff] at hb hd
  obtain ⟨hb, eb⟩ := hb
  obtain ⟨hd, ed⟩ := hd
  exact BitVec.eq_of_toNat_eq ((nodup.getElem_inj_iff).1 (eb.trans ed.symm))

/-- The value of a function that one channel alone declares. -/
theorem valueOf_append {ahead behind : List (Descriptor × Int)} {d : Descriptor} {v : Int} {f : Function}
    (alone : ∀ p ∈ ahead ++ behind, p.1.function ≠ d.function) (hf : functionOf d.function = some f) :
    valueOf f (ahead ++ (d, v) :: behind) = v := by
  have before : ∀ p ∈ ahead, ¬ (functionOf p.1.function == some f) = true := fun p hp same =>
    alone p (List.mem_append_left _ hp) (functionOf_inj (beq_iff_eq.1 same) hf)
  rw [valueOf, List.find?_append, List.find?_eq_none.2 before, Option.none_or, List.find?_cons_of_pos (by simp [hf])]

theorem phase_of_value {v : Int} (h : 0 ≤ v) : ((((phaseOf v.toNat).getD 7 : Fin 8).val : Nat) : Int) = min v 7 := by
  unfold phaseOf
  split
  · simp only [Option.getD_some]; omega
  · simp only [Option.getD_none]
    have : 7 ≤ v := by omega
    rw [min_eq_right this]
    rfl

theorem isAux_iff (b : Byte) : functionOf b = some .aux ↔ b = 13#8 :=
  ⟨fun h => functionOf_inj h rfl, fun h => h ▸ rfl⟩

theorem bit_eq_getLsbD {w : Nat} (b : BitVec w) {n : Nat} (h : n < w) : (b &&& BitVec.twoPow w n != 0#w) = b.getLsbD n := by
  rw [BitVec.and_twoPow]
  cases hb : b.getLsbD n with
  | false => simp
  | true =>
    have bit : (BitVec.twoPow w n).getLsbD n = true := by simp [h]
    have nonzero : BitVec.twoPow w n ≠ 0#w := fun zero => by rw [zero] at bit; simp at bit
    simpa using nonzero

theorem ofInt_toNat {w : Nat} {v : Int} (h : 0 ≤ v) (small : v < 2 ^ w) : ((BitVec.ofInt w v).toNat : Int) = v := by
  rw [BitVec.toNat_ofInt, Int.toNat_of_nonneg (Int.emod_nonneg _ (by positivity))]
  exact Int.emod_eq_of_lt h (by exact_mod_cast small)

/-! ### The status of each function -/

theorem statusOf_fields {ahead behind : List (Descriptor × Int)} {d : Descriptor} {v : Int}
    (alone : ∀ p ∈ ahead ++ behind, p.1.function ≠ d.function) :
    let vs := ahead ++ (d, v) :: behind
    (d.function = 8#8 → valueOf .phase vs = v) ∧ (d.function = 9#8 → valueOf .flags vs = v) ∧
    (d.function = 10#8 → valueOf .speed vs = v) ∧ (d.function = 11#8 → valueOf .zone vs = v) ∧
    (d.function = 12#8 → valueOf .faults vs = v) := by
  refine ⟨fun h => ?_, fun h => ?_, fun h => ?_, fun h => ?_, fun h => ?_⟩
  all_goals exact valueOf_append alone (by rw [h]; rfl)

/-! ### Entries no chair holds -/

theorem leave_of_free (h : (s.entry i).state = .free) (free : (s.entry i).handover = none) (cause : Code) (lost : Option Code)
    (f : Entry → Entry) : leave i cause lost f s = s.modEntry i f := by
  rw [leave_eq, abandon_of_none _ free, autoCallRemoved, if_neg (by rw [h]; decide), releaseHolder, h]

theorem completeDiscovery_of_sound {ls : LoaderStatus} (sound : ls.trips = false) (s : State) :
    completeDiscovery i ls s = settledIn i ls.zone s := if_neg (by simp [sound])

theorem returnFromLoss_of_sound {ls : LoaderStatus} (sound : ls.trips = false) (s : State) :
    returnFromLoss i ls s =
      (s.modFleetSlot i fun x => { x with forget := none }).modEntry i (Entry.vacate (stateInZone (s.zone ls.zone))) :=
  if_neg (by simp [sound])

end Sys2Proof.Machine

namespace Sys2Proof.Settled

open Sys2Proof.Machine

/-- Settles O38: the fields of the status, and each state's way with a TELEMETRY that shows no trip. -/
theorem telemetryCompletesAndReturns : Obligations.TelemetryCompletesAndReturns := by
  refine ⟨fun vs ahead behind d v hvs alone => ?_, fun vs => ?_, fun ls => ⟨?_, ?_, ?_, ?_⟩, fun s u i payload a hq hu ha length => ?_⟩
  · subst hvs
    obtain ⟨phase, flags, speed, zone, faults⟩ := statusOf_fields (v := v) alone
    intro ls
    refine ⟨fun h nonneg => ?_, fun h nonneg => ?_, fun h nonneg => ?_, fun h => ⟨zone h, ?_⟩, fun h nonneg small => ?_⟩
    · show (((phaseOf (valueOf .phase _).toNat).getD 7 : Fin 8).val : Int) = _
      rw [phase h, phase_of_value nonneg]
    · show ((BitVec.ofInt 8 (valueOf .flags _)).toNat : Int) = _
      rw [flags h, BitVec.toNat_ofInt, Int.toNat_of_nonneg (Int.emod_nonneg _ (by decide))]
      rfl
    · show ((min 400 (valueOf .speed _).toNat : Nat) : Int) = _
      rw [speed h]
      omega
    · show ((zoneReported (valueOf .zone _)).val : Int) = _
      rw [zone h]
      split
      next inside => exact zoneReported_of_inside (by omega)
      next outside => rw [zoneReported_of_outside (by omega)]; rfl
    · show ((BitVec.ofInt 16 (valueOf .faults _)).toNat : Int) = _
      rw [faults h, ofInt_toNat nonneg (by omega)]
  · show ((vs.filter fun p => functionOf p.1.function == some .aux).map (·.2)) = _
    congr 2
    funext p
    rw [Bool.eq_iff_iff]
    simp [isAux_iff]
  · exact bit_eq_getLsbD (n := 0) _ (by decide)
  · exact bit_eq_getLsbD (n := 1) _ (by decide)
  · exact congrArg₂ (· || ·) (bit_eq_getLsbD (n := 0) _ (by decide)) (bit_eq_getLsbD (n := 1) _ (by decide))
  · exact bit_eq_getLsbD (n := 0) _ (by decide)
  · intro e x vs ls f bound settled heard
    let v := s.stored i vs
    have entry : v.entry i = bound := State.entry_setEntry_self ..
    obtain ⟨-, -, contexts, zones, -, -, due⟩ := stored_frame s i vs
    have written (d : Entry) : v.setEntry i d = (heard.setEntry i d).setFleetSlot i { f with heard := true, misses := 0 } := by
      rw [← State.setEntry_setEntry heard i bound d]
      rfl
    have zone (n : ZoneId) : v.zone n = s.zone n := congrArg (Vector.get · n) zones
    have quiet : v.Quiet := due.trans hq
    have place : stateInZone (v.zone ls.zone) = if (s.zone ls.zone).state = .closed then .locked else .free := by
      rw [stateInZone_eq, zone]
    have run (hear : listens e x = true) : exec (.telemetry u payload) s = .next (finish (takenIn i e ls v)) :=
      exec_telemetry hq hu ha length hear
    have examined (linked : e.state.carries = true ∨ e.state = .locked) :
        exec (.telemetry u payload) s = .next (finish (examine i e ls v)) := by
      rw [run ((listens_iff ..).2 (linked.imp_right .inl)), takenIn_of_examined linked]
    have sameZone (sound : ls.trips = false) (linked : e.state.carries = true ∨ e.state = .locked) (still : e.zone? = some ls.zone) :
        exec (.telemetry u payload) s = .next (finish (zoneDropAt i e.zoneDrop ls (evaluateGate i v))) := by
      rw [examined linked, examine_of_sameZone sound still]
    have newZone (sound : ls.trips = false) (linked : e.state.carries = true ∨ e.state = .locked) (new : e.zone? ≠ some ls.zone) :
        exec (.telemetry u payload) s = .next (finish (zoneDropAt i e.zoneDrop ls (evaluateGate i (zoneChanged i ls.zone v)))) := by
      rw [examined linked, examine_of_newZone sound new]
    refine ⟨fun sound ⟨discovering, stage⟩ => ?_, fun sound lost => ?_, fun tripped => ?_, fun sound linked still apart => ?_,
      fun sound new linked => ?_, fun sound new free n cases => ?_⟩
    · have done : completeDiscovery i ls v = (((heard.setEntry i settled).setFleetSlot i { f with heard := true, misses := 0 }).setContext i
          { x with stage := none, read := none, answerTimer := none }) := by
        have context : v.context i = x := congrArg (Vector.get · i) contexts
        have entry' : (v.modContext i fun x => { x with stage := none, read := none, answerTimer := none }).entry i = bound := entry
        rw [completeDiscovery_of_sound sound, settledIn, place, State.modEntry, entry', State.modContext, context]
        exact congrArg (State.setContext · i _) (written settled)
      rw [run ((listens_iff ..).2 (.inr (.inr (.inr (.inr ⟨discovering, stage⟩))))), takenIn_of_discovering discovering, done]
      refine congrArg _ (finish_of_quiet ?_)
      exact quiet
    · have done : returnFromLoss i ls v =
          (heard.setEntry i settled).setFleetSlot i { f with heard := true, misses := 0, forget := none } := by
        have slot : v.fleetSlot i = { f with heard := true, misses := 0 } := State.fleetSlot_setFleetSlot_self ..
        have entry' : (v.modFleetSlot i fun x => { x with forget := none }).entry i = bound := entry
        rw [returnFromLoss_of_sound sound, place, State.modEntry, entry', State.modFleetSlot, slot]
        refine (congrArg (State.setFleetSlot · i _) (written settled)).trans ?_
        rw [setFleetSlot_setFleetSlot]
      rw [run ((listens_iff ..).2 (.inr (.inr (.inl lost)))), takenIn_of_lost lost, done]
      refine congrArg _ (finish_of_quiet ?_)
      exact quiet
    · rw [run ((listens_iff ..).2 (.inr (.inr (.inr (.inl tripped))))), takenIn_of_tripped tripped, finish_of_quiet quiet]
      rfl
    · intro v'
      have kept : zoneDropAt i e.zoneDrop ls v = v := by
        rcases apart with apart | clear
        · exact zoneDropAt_of_apart (ne_of_eq_of_ne (congrArg Entry.state entry) apart) _ _
        · exact zoneDropAt_of_kept (by simp [clear])
      refine ⟨fun free => ?_, fun h hh => ?_⟩
      · rw [sameZone sound linked still, evaluateGate_of_none ((congrArg Entry.handover entry).trans free), kept, finish_of_quiet quiet]
        rfl
      · rw [sameZone sound linked still, evaluateGate_of_some ((congrArg Entry.handover entry).trans hh)]
        by_cases passes : h.phase = .gating ∧ gatePasses i h v = true
        · rw [if_pos passes, zoneDropAt_of_kept (by rw [transfer_zoneDrop]; simp)]
          exact congrArg _ (if_pos passes).symm
        · rw [if_neg passes, kept, finish_of_quiet quiet]
          exact congrArg _ (if_neg passes).symm
    · intro z w
      have carries : (v.entry i).state.carries = true := by
        rw [entry]
        rcases linked with free | auto
        · exact congrArg EntryState.carries free
        · exact congrArg EntryState.carries auto
      have apart : (v.entry i).state ≠ .held := by
        rw [entry]
        rcases linked with free | auto
        · exact ne_of_eq_of_ne free (by decide)
        · exact ne_of_eq_of_ne auto (by decide)
      have begun : changeBegun i v = w := by
        rw [changeBegun_eq i v quiet, entry]
        rfl
      have linked' : e.state.carries = true ∨ e.state = .locked := .inl (by rw [entry] at carries; exact carries)
      have wEntry : w.entry i = bound := entry
      have wApart : (w.entry i).state ≠ .held := apart
      have opens (opened : z.state = .opened) : exec (.telemetry u payload) s =
          .next (finish (zoneDropAt i e.zoneDrop ls (evaluateGate i (testHolderAtChange i ls.zone (testTarget i w))))) := by
        rw [newZone sound linked' new, zoneChanged_of_opened carries ((congrArg Zone.state (zone _)).trans opened), begun]
      have allowedAt (d : ChairId) : w.allowedAt i d = hasChair z.allowed d := by
        have zone' : (w.entry i).zone? = some ls.zone := by rw [wEntry]; rfl
        rw [State.allowedAt, zone']
        exact congrArg (fun r => hasChair (Zone.allowed r) d) (zone _)
      refine ⟨fun closed => ?_, fun opened free => ?_, fun opened h hh => ⟨?_, fun allowed => ?_⟩⟩
      · have locked : (lock i w).entry i = Entry.vacate .locked { w.entry i with handover := none } := (leave_entry ..).trans (if_pos rfl)
        rw [newZone sound linked' new, zoneChanged_of_closed carries ((congrArg Zone.state (zone _)).trans closed), begun,
          evaluateGate_of_none (by rw [locked]; rfl), zoneDropAt_of_apart (by rw [locked]; simp [Entry.vacate])]
        rfl
      · have free' : (w.entry i).handover = none := (congrArg Entry.handover wEntry).trans free
        rw [opens opened, testTarget_of_none free', testHolderAtChange_of_apart wApart, evaluateGate_of_none free', zoneDropAt_of_apart wApart]
      · rintro ⟨d, target, barred⟩
        have ended : (abandon i .notPermitted w).entry i = { w.entry i with handover := none } := abandon_entry_self ..
        have apart' : ((abandon i .notPermitted w).entry i).state ≠ .held := by rw [ended]; exact apart
        rw [opens opened, testTarget_of_barred (s := w) ((congrArg Entry.handover wEntry).trans hh) target ((allowedAt d).trans barred),
          testHolderAtChange_of_apart apart', evaluateGate_of_none (by rw [ended]), zoneDropAt_of_apart apart']
      · have hh' : (w.entry i).handover = some h := (congrArg Entry.handover wEntry).trans hh
        rw [opens opened, testTarget_of_allowed hh' fun d target => (allowedAt d).trans (allowed d target),
          testHolderAtChange_of_apart wApart, evaluateGate_of_some hh']
        by_cases passes : h.phase = .gating ∧ gatePasses i h w = true
        · rw [if_pos passes, zoneDropAt_of_kept (by rw [transfer_zoneDrop]; simp)]
        · rw [if_neg passes, zoneDropAt_of_apart wApart]
    · have free' : (v.entry i).handover = none := (congrArg Entry.handover entry).trans free
      have ended (linked : e.state.carries = true ∨ e.state = .locked) {d : Entry} (none : d.handover = none) (apart : d.state ≠ .held)
          (changed : zoneChanged i ls.zone v = v.setEntry i d) :
          exec (.telemetry u payload) s =
            .next ((heard.setEntry i d).setFleetSlot i { f with heard := true, misses := 0 }) := by
        have entry' : (v.setEntry i d).entry i = d := State.entry_setEntry_self ..
        rw [newZone sound linked new, changed, evaluateGate_of_none (by rw [entry', none]), zoneDropAt_of_apart (by rw [entry']; exact apart),
          finish_of_quiet (by exact quiet), written]
      have still : v = v.setEntry i bound := by rw [← entry, setEntry_entry_self]
      have zoneState : (v.zone ls.zone).state = (s.zone ls.zone).state := congrArg Zone.state (zone _)
      have vState : (v.entry i).state = e.state := by rw [entry]
      rcases cases with ⟨state, closed, rfl⟩ | ⟨state, opened, rfl⟩ | ⟨state, opened, rfl⟩ | ⟨state, closed, rfl⟩
      · rw [if_neg (by rw [state]; decide)]
        refine ended (.inl (by rw [state]; rfl)) free (by simp) ?_
        rw [zoneChanged_of_closed (by rw [vState, state]; rfl) (zoneState.trans closed),
          changeBegun_of_apart (by rw [vState, state]; decide), lock, leave_of_free (vState.trans state) free', State.modEntry, entry]
        rfl
      · rw [if_pos state.symm]
        refine ended (.inl (by rw [state]; rfl)) free (by rw [show bound.state = e.state from rfl, state]; decide) ?_
        rw [zoneChanged_of_opened (by rw [vState, state]; rfl) (zoneState.trans opened),
          changeBegun_of_apart (by rw [vState, state]; decide), testTarget_of_none free',
          testHolderAtChange_of_apart (by rw [vState, state]; decide), ← still]
      · rw [if_neg (by rw [state]; decide)]
        refine ended (.inr state) free (by simp) ?_
        rw [zoneChanged_of_locked (vState.trans state), if_pos (zoneState.trans opened), State.modEntry, entry]
        rfl
      · rw [if_pos state.symm]
        refine ended (.inr state) free (by rw [show bound.state = e.state from rfl, state]; decide) ?_
        rw [zoneChanged_of_locked (vState.trans state), if_neg (by rw [zoneState, closed]; decide), ← still]

end Sys2Proof.Settled
end


section
/-! SUPPORT. Validation of a descriptor list by the numbers of its bytes (R139, R140). -/

namespace Sys2Proof.Machine

/-! ### The numbers of the functions and the kinds (R139) -/

/-- The number of a function in a descriptor. -/
def Function.code : Function → Nat
  | .steer => 0 | .travel => 1 | .boom => 2 | .bucket => 3 | .gear => 4 | .parkBrake => 5 | .horn => 6 | .lights => 7
  | .phase => 8 | .flags => 9 | .speed => 10 | .zone => 11 | .faults => 12 | .aux => 13

/-- The number of a kind in a descriptor. -/
def ChannelKind.code : ChannelKind → Nat
  | .signed => 0 | .unsigned => 1 | .discrete => 2

theorem Function.code_le (f : Function) : f.code ≤ 13 := by cases f <;> decide

theorem functionOf_iff {b : Byte} {f : Function} : functionOf b = some f ↔ b.toNat = f.code := by
  have spelled : functionOf (BitVec.ofNat 8 f.code) = some f := by cases f <;> rfl
  have number : (BitVec.ofNat 8 f.code).toNat = f.code := by cases f <;> rfl
  constructor
  · intro h
    rw [functionOf_inj h spelled, number]
  · intro h
    rw [← BitVec.eq_of_toNat_eq (number.trans h.symm), spelled]

theorem exists_functionOf {b : Byte} (h : b.toNat ≤ 13) : ∃ f, functionOf b = some f :=
  ⟨functions[b.toNat]'(Nat.lt_succ_of_le h), List.getElem?_eq_getElem _⟩

theorem kindOf_iff {b : Byte} {k : ChannelKind} : kindOf b = some k ↔ b.toNat = k.code := by
  unfold kindOf
  match b.toNat with
  | 0 | 1 | 2 => cases k <;> decide
  | n + 3 => cases k <;> simp [ChannelKind.code]

theorem directionOf_iff {b : Byte} {f : Function} : directionOf b = some f.direction ↔ b.toNat = if f.code < 8 then 0 else 1 := by
  have number : (if f.code < 8 then 0 else 1) = if f.direction = .out then 0 else 1 := by cases f <;> rfl
  rw [number]
  unfold directionOf
  match b.toNat with
  | 0 | 1 => cases f.direction <;> decide
  | n + 2 => cases f.direction <;> simp

theorem allows_iff (f : Function) (k : ChannelKind) :
    f.allows k = true ↔ (f.code < 4 → k.code ≠ 2) ∧ (4 ≤ f.code → f.code < 8 → k.code = 2) ∧
      (f.code ∈ [8, 9, 10, 12] → k.code ≠ 0) := by
  cases f <;> cases k <;> decide

theorem minSize_eq (f : Function) : f.minSize = [1, 1, 1, 1, 2, 1, 1, 1, 3, 8, 9, 3, 2, 1].getD f.code 0 := by cases f <;> rfl

theorem minSize_pos (f : Function) : 1 ≤ f.minSize := by cases f <;> decide

theorem analog_iff (f : Function) : f.analog = true ↔ f.code < 4 := by cases f <;> decide

theorem analogRangeValid_iff (d : Descriptor) {k : ChannelKind} (h : k.code ≠ 2) : analogRangeValid d k = true ↔
    d.rawMin.toInt ≤ d.rawNeutral.toInt ∧ d.rawNeutral.toInt ≤ d.rawMax.toInt ∧
      (k.code = 0 → -(2 ^ (d.size.toNat - 1) : Int) ≤ d.rawMin.toInt ∧ d.rawMax.toInt < (2 ^ (d.size.toNat - 1) : Int)) ∧
      (k.code = 1 → 0 ≤ d.rawMin.toInt ∧ d.rawMax.toInt < (2 ^ d.size.toNat : Int)) := by
  unfold analogRangeValid bitsOf
  simp only [Bool.and_eq_true, decide_eq_true_eq, and_assoc]
  cases k with
  | signed => simp [lowest, highest, ChannelKind.code]
  | unsigned => simp [lowest, highest, ChannelKind.code]
  | discrete => exact absurd rfl h

/-! ### One descriptor (R139, R140) -/

/-- A descriptor that is valid by itself, by its numbers. -/
def WellFormed (d : Descriptor) : Prop :=
  let f := d.function.toNat
  let size := d.size.toNat
  let least := [1, 1, 1, 1, 2, 1, 1, 1, 3, 8, 9, 3, 2, 1].getD f 0
  f ≤ 13 ∧ d.direction.toNat = (if f < 8 then 0 else 1) ∧ d.kind.toNat ≤ 2 ∧ least ≤ size ∧ size ≤ 16 ∧
  (f < 4 → d.kind ≠ 2#8) ∧ (4 ≤ f → f < 8 → d.kind = 2#8) ∧ (f ∈ [8, 9, 10, 12] → d.kind ≠ 0#8) ∧
  (f < 4 →
    d.rawMin.toInt ≤ d.rawNeutral.toInt ∧ d.rawNeutral.toInt ≤ d.rawMax.toInt ∧
    (d.kind = 0#8 → -(2 ^ (size - 1) : Int) ≤ d.rawMin.toInt ∧ d.rawMax.toInt < (2 ^ (size - 1) : Int)) ∧
    (d.kind = 1#8 → 0 ≤ d.rawMin.toInt ∧ d.rawMax.toInt < (2 ^ size : Int)))

theorem descriptorValid_of_none {d : Descriptor} (h : functionOf d.function = none ∨ kindOf d.kind = none) : descriptorValid d = false := by
  unfold descriptorValid
  split
  next hf _ hk => rcases h with h | h <;> simp_all
  next => rfl

theorem descriptorValid_of_some {d : Descriptor} {f : Function} {k : ChannelKind} (hf : functionOf d.function = some f)
    (hk : kindOf d.kind = some k) : descriptorValid d = true ↔
      directionOf d.direction = some f.direction ∧ f.allows k = true ∧ f.minSize ≤ bitsOf d ∧ bitsOf d ≤ 16 ∧
        (f.analog = true → analogRangeValid d k = true) := by
  have pos := minSize_pos f
  unfold descriptorValid
  rw [hf, hk]
  cases directionOf d.direction with
  | none => simp
  | some dir =>
    simp only [Bool.and_eq_true, Bool.or_eq_true, Bool.not_eq_true', decide_eq_true_eq, beq_iff_eq, Option.some.injEq]
    constructor
    · rintro ⟨⟨⟨⟨⟨-, small⟩, direction⟩, allowed⟩, least⟩, range⟩
      exact ⟨direction, allowed, least, small, fun analog => range.resolve_left (by simp [analog])⟩
    · rintro ⟨direction, allowed, least, small, range⟩
      refine ⟨⟨⟨⟨⟨pos.trans least, small⟩, direction⟩, allowed⟩, least⟩, ?_⟩
      cases analog : f.analog
      · exact .inl rfl
      · exact .inr (range analog)

theorem descriptorValid_iff (d : Descriptor) : descriptorValid d = true ↔ WellFormed d := by
  have kind (n : Nat) (h : n < 256) : d.kind = BitVec.ofNat 8 n ↔ d.kind.toNat = n := by
    rw [← BitVec.toNat_inj, BitVec.toNat_ofNat, Nat.mod_eq_of_lt h]
  unfold WellFormed
  rw [ne_eq, ne_eq, kind 0 (by decide), kind 1 (by decide), kind 2 (by decide)]
  by_cases named : d.function.toNat ≤ 13 ∧ d.kind.toNat ≤ 2
  · obtain ⟨f, hf⟩ := exists_functionOf named.1
    obtain ⟨k, hk⟩ : ∃ k, kindOf d.kind = some k := ⟨_, List.getElem?_eq_getElem (Nat.lt_succ_of_le named.2)⟩
    have code : d.function.toNat = f.code := functionOf_iff.1 hf
    have kcode : d.kind.toNat = k.code := kindOf_iff.1 hk
    rw [descriptorValid_of_some hf hk, directionOf_iff, allows_iff, minSize_eq, analog_iff, code, kcode, bitsOf]
    constructor
    · rintro ⟨direction, ⟨analog, discrete, unsigned⟩, least, small, range⟩
      exact ⟨f.code_le, direction, by omega, least, small, analog, discrete, unsigned,
        fun h => (analogRangeValid_iff d (analog h)).1 (range h)⟩
    · rintro ⟨-, direction, -, least, small, analog, discrete, unsigned, range⟩
      exact ⟨direction, ⟨analog, discrete, unsigned⟩, least, small, fun h => (analogRangeValid_iff d (analog h)).2 (range h)⟩
  · have unnamed : functionOf d.function = none ∨ kindOf d.kind = none := by
      rcases not_and_or.1 named with h | h
      · exact .inl (List.getElem?_eq_none (Nat.lt_of_not_le h))
      · exact .inr (List.getElem?_eq_none (Nat.lt_of_not_le h))
    rw [descriptorValid_of_none unnamed]
    constructor
    · exact fun h => absurd h (by decide)
    · rintro ⟨function, -, kind, -⟩
      exact absurd ⟨function, kind⟩ named

/-! ### The list (R140) -/

/-- How many descriptors of a list declare the function of a number. -/
abbrev countOf (ds : List Descriptor) (f : Nat) : Nat := ds.countP fun d => d.function.toNat = f

theorem declared_eq (f : Function) (ds : List Descriptor) : declared f ds = countOf ds f.code := by
  refine List.countP_congr fun d _ => ?_
  rw [beq_iff_eq, functionOf_iff, decide_eq_true_eq]

theorem exists_function {n : Nat} (h : n ≤ 13) : ∃ f : Function, f.code = n := by
  have all : ∀ n : Fin 14, ∃ f ∈ functions, f.code = n.val := by decide
  obtain ⟨f, -, hf⟩ := all ⟨n, Nat.lt_succ_of_le h⟩
  exact ⟨f, hf⟩

theorem mem_functions (f : Function) : f ∈ functions := by cases f <;> decide

theorem repeatsValid_iff (ds : List Descriptor) :
    repeatsValid ds = true ↔ (∀ f, f < 13 → countOf ds f ≤ 1) ∧ countOf ds 13 ≤ 2 := by
  have limit (f : Function) : (if f = .aux then 2 else 1) = if f.code = 13 then 2 else 1 := by cases f <;> rfl
  simp only [repeatsValid, List.all_eq_true, decide_eq_true_eq, declared_eq, limit]
  constructor
  · refine fun h => ⟨fun n hn => ?_, ?_⟩
    · obtain ⟨f, rfl⟩ := exists_function (Nat.le_of_lt hn)
      simpa [Nat.ne_of_lt hn] using h f (mem_functions f)
    · exact h .aux (mem_functions _)
  · rintro ⟨once, twice⟩ f -
    split
    next aux => rw [aux]; exact twice
    next other => exact once _ (Nat.lt_of_le_of_ne f.code_le other)

theorem complete_iff (ds : List Descriptor) : (functions.all fun f => !f.required || decide (1 ≤ declared f ds)) = true ↔
    ∀ f ∈ [0, 1, 2, 3, 4, 5, 8, 9, 10, 11, 12], 1 ≤ countOf ds f := by
  have required (f : Function) : f.required = true ↔ f.code ∈ [0, 1, 2, 3, 4, 5, 8, 9, 10, 11, 12] := by cases f <;> decide
  have numbers : ∀ n ∈ [0, 1, 2, 3, 4, 5, 8, 9, 10, 11, 12], n ≤ 13 := by decide
  simp only [List.all_eq_true, Bool.or_eq_true, Bool.not_eq_true', decide_eq_true_eq, declared_eq]
  constructor
  · intro h n hn
    obtain ⟨f, rfl⟩ := exists_function (numbers n hn)
    exact (h f (mem_functions f)).resolve_left (by simp [(required f).2 hn])
  · intro h f _
    cases needed : f.required with
    | false => exact .inl rfl
    | true => exact .inr (h _ ((required f).1 needed))

theorem totalBits_out (ds : List Descriptor) :
    totalBits (outChannels ds) = ((ds.filter fun d => d.direction = 0#8).map fun d => d.size.toNat).sum := by
  have outs : outChannels ds = ds.filter fun d => d.direction = 0#8 := List.filter_congr fun d _ => (isOut_isIn_eq d).1
  rw [totalBits, outs]
  rfl

theorem totalBits_in (ds : List Descriptor) :
    totalBits (inChannels ds) = ((ds.filter fun d => d.direction = 1#8).map fun d => d.size.toNat).sum := by
  have ins : inChannels ds = ds.filter fun d => d.direction = 1#8 := List.filter_congr fun d _ => (isOut_isIn_eq d).2
  rw [totalBits, ins]
  rfl

/-! ### The gains (R108) -/

theorem find?_of_alone {α : Type} {p : α → Bool} {l : List α} {a : α} (mem : a ∈ l) (pa : p a = true) (alone : l.countP p ≤ 1) :
    l.find? p = some a := by
  obtain ⟨ahead, behind, rfl⟩ := List.append_of_mem mem
  have none : ahead.countP p = 0 := by
    rw [List.countP_append, List.countP_cons_of_pos pa] at alone
    omega
  rw [List.find?_append, List.find?_eq_none.2 (by simpa using List.countP_eq_zero.1 none), Option.none_or, List.find?_cons_of_pos pa]

theorem gainsFor_of_mem {f : Function} {ds : List Descriptor} {d : Descriptor} (mem : d ∈ ds) (function : d.function.toNat = f.code)
    (alone : countOf ds f.code ≤ 1) : gainsFor f ds = gainsOf d.rawMin.toInt d.rawNeutral.toInt d.rawMax.toInt := by
  have found : findFunction f ds = some d :=
    find?_of_alone mem (beq_iff_eq.2 (functionOf_iff.2 function)) (by rw [← declared_eq] at alone; exact alone)
  rw [gainsFor, found]

end Sys2Proof.Machine

namespace Sys2Proof.Settled

open Sys2Proof.Machine

/-- Settles O35: each step of the validation by the numbers of the descriptors, and the gains of the one descriptor of a function. -/
theorem validationAdmitsOnlyUsableLists : Obligations.ValidationAdmitsOnlyUsableLists := by
  intro ds period watchdog bits count oversize valid usable complete
  have large : (128 < totalBits (outChannels ds) || 128 < totalBits (inChannels ds)) = true ↔ oversize := by
    rw [Bool.or_eq_true, decide_eq_true_eq, decide_eq_true_eq, totalBits_out, totalBits_in]
  have invalid : (!ds.all descriptorValid || !repeatsValid ds || watchdog < 2 * period) = true ↔ ¬ usable := by
    have all : ds.all descriptorValid = true ↔ ∀ d ∈ ds, valid d := by
      simp only [List.all_eq_true, descriptorValid_iff]
      rfl
    have sound : (!ds.all descriptorValid || !repeatsValid ds || watchdog < 2 * period) = false ↔ usable := by
      simp only [Bool.or_eq_false_iff, Bool.not_eq_false', decide_eq_false_iff_not, Nat.not_lt, all, repeatsValid_iff, and_assoc]
      rfl
    rw [← sound, Bool.not_eq_false]
  have completed := complete_iff ds
  have run (small : ¬ oversize) (good : usable) : validate ds period watchdog =
      if !functions.all (fun f => !f.required || decide (1 ≤ declared f ds)) then some .descriptorIncomplete else none := by
    rw [validate, if_neg (mt large.1 small), if_neg (mt invalid.1 (not_not.2 good))]
  refine ⟨fun h => ?_, fun small bad => ?_, fun small good lacks => ?_, fun small good full => ⟨?_, ?_, ?_, fun d hd => ?_⟩⟩
  · rw [validate, if_pos (large.2 h)]
  · rw [validate, if_neg (mt large.1 small), if_pos (invalid.2 bad)]
  · rw [run small good, if_pos]
    rw [Bool.not_eq_true', Bool.eq_false_iff]
    exact mt completed.1 lacks
  · rw [run small good, if_neg]
    rw [Bool.not_eq_true', completed.2 full]
    decide
  · exact congrArg (fun n => (n + 7) / 8) (totalBits_out ds)
  · exact congrArg (fun n => (n + 7) / 8) (totalBits_in ds)
  · have once := good.2.1
    intro gain
    exact ⟨fun h => gainsFor_of_mem (f := .steer) hd h (once 0 (by decide)), fun h => gainsFor_of_mem (f := .travel) hd h (once 1 (by decide)),
      fun h => gainsFor_of_mem (f := .boom) hd h (once 2 (by decide)), fun h => gainsFor_of_mem (f := .bucket) hd h (once 3 (by decide))⟩

end Sys2Proof.Settled
end


section
/-! SUPPORT. Packing and unpacking bit by bit, and what a frame puts into each OUT channel (R108 to R111, R155). -/

namespace Sys2Proof.Machine

/-! ### The bits of a payload (R111) -/

/-- Bit `k` of a payload, the least significant bit of its first byte first. -/
abbrev payloadBit (p : List Byte) (k : Nat) : Bool := (p.getD (k / 8) 0#8).getLsbD (k % 8)

theorem payloadBit_payloadOf (n x k : Nat) : payloadBit (payloadOf n x) k = (decide (k / 8 < n) && x.testBit k) := by
  induction n generalizing x k with
  | zero => simp [payloadOf, payloadBit]
  | succ n ih =>
    unfold payloadBit payloadOf
    by_cases first : k < 8
    · have zero : k / 8 = 0 := Nat.div_eq_of_lt first
      rw [zero, Nat.mod_eq_of_lt first, List.getD_cons_zero, BitVec.getLsbD_ofNat]
      simp [first]
    · obtain ⟨m, rfl⟩ : ∃ m, k = m + 8 := ⟨k - 8, by omega⟩
      have rest := ih (x / 256) m
      rw [payloadBit] at rest
      rw [Nat.add_div_right m (by decide), List.getD_cons_succ, Nat.add_mod_right, rest, Nat.testBit_add]
      simp

theorem fieldBits_eq (size : Nat) (v : Int) : fieldBits size v = (BitVec.ofInt size v).toNat := (BitVec.toNat_ofInt ..).symm

theorem packNumber_append (ahead rest : List (Nat × Int)) :
    packNumber (ahead ++ rest) / 2 ^ (ahead.map (·.1)).sum = packNumber rest := by
  induction ahead with
  | nil => simp
  | cons f ahead ih =>
    obtain ⟨size, v⟩ := f
    rw [List.cons_append, List.map_cons, List.sum_cons, pow_add, ← Nat.div_div_eq_div_mul, (packNumber_split size v _).2, ih]

/-- A value stands behind those before it, its least significant bit first. -/
theorem packNumber_testBit (ahead behind : List (Nat × Int)) {size : Nat} (v : Int) {j : Nat} (h : j < size) :
    (packNumber (ahead ++ (size, v) :: behind)).testBit ((ahead.map (·.1)).sum + j) = (BitVec.ofInt size v).getLsbD j := by
  have own := (packNumber_split size v behind).1
  have bit : (packNumber ((size, v) :: behind)).testBit j = (packNumber ((size, v) :: behind) % 2 ^ size).testBit j := by
    simp [Nat.testBit_mod_two_pow, h]
  rw [Nat.add_comm, Nat.testBit_add, packNumber_append, bit, own, fieldBits_eq]
  rfl

/-! ### Unpacking (R155) -/

/-- A channel and a value that its size and kind represent. -/
abbrev Represents (p : Descriptor × Int) : Prop :=
  1 ≤ p.1.size.toNat ∧
    (if p.1.kind = 0#8 then -(2 ^ (p.1.size.toNat - 1) : Int) ≤ p.2 ∧ p.2 < (2 ^ (p.1.size.toNat - 1) : Int)
      else 0 ≤ p.2 ∧ p.2 < (2 ^ p.1.size.toNat : Int))

theorem kindOf_eq_signed (d : Descriptor) : (kindOf d.kind = some .signed) ↔ d.kind = 0#8 := by
  rw [kindOf_iff, ← BitVec.toNat_inj]
  rfl

theorem fieldBits_of_nonneg {size : Nat} {v : Int} (h : 0 ≤ v) (small : v < 2 ^ size) : (fieldBits size v : Int) = v := by
  rw [fieldBits, Int.emod_eq_of_lt h (by exact_mod_cast small), Int.toNat_of_nonneg h]

theorem fieldBits_of_neg {size : Nat} {v : Int} (h : v < 0) (large : -(2 ^ size) ≤ v) : (fieldBits size v : Int) = v + 2 ^ size := by
  have whole : ((2 ^ size : Nat) : Int) = 2 ^ size := by push_cast; rfl
  rw [fieldBits, whole, ← Int.add_emod_right, Int.emod_eq_of_lt (by omega) (by omega), Int.toNat_of_nonneg (by omega)]

/-- The bits of a value read back by its kind. -/
theorem value_of_fieldBits {d : Descriptor} {v : Int} (h : Represents (d, v)) :
    (if kindOf d.kind = some .signed && 2 ^ (bitsOf d - 1) ≤ fieldBits (bitsOf d) v then
      (fieldBits (bitsOf d) v : Int) - (2 ^ bitsOf d : Nat) else fieldBits (bitsOf d) v) = v := by
  obtain ⟨pos, range⟩ := h
  obtain ⟨n, hn⟩ : ∃ n, bitsOf d = n + 1 := ⟨bitsOf d - 1, by unfold bitsOf; dsimp only at pos; omega⟩
  have double : (2 : Int) ^ (n + 1) = 2 * 2 ^ n := by ring
  have positive : (0 : Int) < 2 ^ n := by positivity
  have whole : ((2 ^ (n + 1) : Nat) : Int) = 2 ^ (n + 1) := by push_cast; rfl
  have half (m : Nat) : 2 ^ n ≤ m ↔ (2 : Int) ^ n ≤ m := by exact_mod_cast Iff.rfl
  rw [show d.size.toNat = n + 1 from hn] at range
  dsimp only at range
  rw [hn, whole]
  simp only [Nat.add_sub_cancel, kindOf_eq_signed, Bool.and_eq_true, decide_eq_true_eq, half] at range ⊢
  by_cases signed : d.kind = 0#8
  · rw [if_pos signed] at range
    rcases lt_or_ge v 0 with neg | nonneg
    · rw [fieldBits_of_neg neg (by omega), if_pos ⟨signed, by omega⟩]
      omega
    · rw [fieldBits_of_nonneg nonneg (by omega), if_neg (by omega)]
  · rw [if_neg signed] at range
    rw [fieldBits_of_nonneg range.1 range.2, if_neg (fun h => signed h.1)]

theorem unpack_packNumber {cs : List (Descriptor × Int)} (h : ∀ p ∈ cs, Represents p) :
    unpack (cs.map (·.1)) (packNumber (cs.map fun p => (p.1.size.toNat, p.2))) = cs := by
  induction cs with
  | nil => rfl
  | cons p cs ih =>
    obtain ⟨d, v⟩ := p
    obtain ⟨own, rest⟩ := packNumber_split d.size.toNat v (cs.map fun p => (p.1.size.toNat, p.2))
    have value := value_of_fieldBits (h (d, v) List.mem_cons_self)
    rw [List.map_cons, List.map_cons, unpack, bitsOf, own, rest, ih fun p hp => h p (List.mem_cons_of_mem _ hp)]
    rw [bitsOf] at value
    simp only [value]

/-- The payload of a list of channels and their values. -/
abbrev packed (cs : List (Descriptor × Int)) : List Byte :=
  payloadOf (payloadBytes (cs.map (·.1))) (packNumber (cs.map fun p => (p.1.size.toNat, p.2)))

/-- The total of the sizes. -/
abbrev sizes (cs : List (Descriptor × Int)) : Nat := (cs.map fun p => p.1.size.toNat).sum

theorem payloadBytes_eq (cs : List (Descriptor × Int)) : payloadBytes (cs.map (·.1)) = (sizes cs + 7) / 8 := by
  rw [payloadBytes, totalBits, List.map_map]
  rfl

theorem packNumber_lt_sizes (cs : List (Descriptor × Int)) :
    packNumber (cs.map fun p => (p.1.size.toNat, p.2)) < 2 ^ sizes cs := by
  have small := packNumber_lt (cs.map fun p => (p.1.size.toNat, p.2))
  rwa [List.map_map] at small

theorem numberOf_packed (cs : List (Descriptor × Int)) :
    numberOf (packed cs) = packNumber (cs.map fun p => (p.1.size.toNat, p.2)) := by
  rw [numberOf_payloadOf, payloadBytes_eq]
  refine Nat.mod_eq_of_lt ((packNumber_lt_sizes cs).trans_le ?_)
  rw [show 256 = 2 ^ 8 from rfl, ← pow_mul]
  exact Nat.pow_le_pow_right (by decide) (by omega)

/-! ### OUT channels (R108, R110) -/

theorem rawOf_eq {d : Descriptor} (low : d.rawMin.toInt ≤ d.rawNeutral.toInt) (high : d.rawNeutral.toInt ≤ d.rawMax.toInt) (n : Int) :
    rawOf d n = scale (gainsOf d.rawMin.toInt d.rawNeutral.toInt d.rawMax.toInt) d.rawNeutral.toInt n := by
  obtain ⟨up, hup⟩ := Int.eq_ofNat_of_zero_le (sub_nonneg.2 high)
  obtain ⟨down, hdown⟩ := Int.eq_ofNat_of_zero_le (sub_nonneg.2 low)
  have side : down * 65536 / 2048 = down * 32 := by omega
  unfold rawOf
  rw [gainsOf, hup, hdown, Int.toNat_natCast, Int.toNat_natCast, side]
  rcases le_or_gt 0 n with h | h
  · obtain ⟨m, rfl⟩ := Int.eq_ofNat_of_zero_le h
    rw [scale_of_nonneg _ _ h, if_pos h, Int.natAbs_natCast]
    push_cast
    rfl
  · obtain ⟨m, hm⟩ := Int.eq_ofNat_of_zero_le (show 0 ≤ -n by omega)
    obtain rfl : n = -m := by omega
    rw [scale_of_neg _ _ h, if_neg (by omega), Int.natAbs_neg, Int.natAbs_natCast, neg_neg]
    push_cast
    rfl

/-- A valid analog channel represents each axis value. -/
theorem rawOf_represents {d : Descriptor} (valid : WellFormed d) (analog : d.function.toNat < 4) {n : Int} (counts : IsCounts n) :
    Represents (d, rawOf d n) := by
  obtain ⟨-, -, kinds, least, -, smooth, -, -, range⟩ := valid
  obtain ⟨low, high, signed, unsigned⟩ := range analog
  have size : 1 ≤ d.size.toNat := by
    interval_cases d.function.toNat <;> exact least
  obtain ⟨above, below, -⟩ := Settled.scalingStaysInRange d.rawMin.toInt d.rawNeutral.toInt d.rawMax.toInt n
    (BitVec.le_toInt d.rawMin) low high (Int.le_of_lt_add_one (BitVec.toInt_lt (x := d.rawMax))) counts
  rw [← rawOf_eq low high] at above below
  refine ⟨size, ?_⟩
  by_cases kind : d.kind = 0#8
  · rw [if_pos kind]
    exact ⟨(signed kind).1.trans above, below.trans_lt (signed kind).2⟩
  · have one : d.kind = 1#8 := by
      have two := smooth analog
      simp only [ne_eq, ← BitVec.toNat_inj, BitVec.toNat_ofNat] at kind two ⊢
      omega
    rw [if_neg kind]
    exact ⟨(unsigned one).1.trans above, below.trans_lt (unsigned one).2⟩

/-- A valid discrete channel represents each number below that of its least size. -/
theorem represents_of_discrete {d : Descriptor} (kind : d.kind = 2#8) {least : Nat} (pos : 1 ≤ least) (size : least ≤ d.size.toNat) {v : Int}
    (nonneg : 0 ≤ v) (small : v < 2 ^ least) : Represents (d, v) := by
  refine ⟨pos.trans size, ?_⟩
  rw [if_neg (by rw [kind]; decide)]
  exact ⟨nonneg, small.trans_le (pow_le_pow_right₀ (by decide) size)⟩

theorem function_of_out {d : Descriptor} (valid : WellFormed d) (out : d.direction = 0#8) : d.function.toNat < 8 := by
  obtain ⟨-, direction, -⟩ := valid
  by_contra inward
  rw [out, if_neg inward] at direction
  cases direction

/-- What a frame puts into a valid OUT channel, the channel represents. -/
theorem outValue_represents {d : Descriptor} (valid : WellFormed d) (out : d.direction = 0#8) {axes : Axes} (counts : axes.InCounts)
    (src : FrameSource) : Represents (d, outValue axes src d) := by
  obtain ⟨steer, travel, boom, bucket⟩ := counts
  have bound := function_of_out valid out
  have smooth {n : Int} (h : IsCounts n) (analog : d.function.toNat < 4) : Represents (d, rawOf d n) := rawOf_represents valid analog h
  obtain ⟨-, -, -, least, -, -, discrete, -⟩ := valid
  have flag {b : Bool} (above : 4 ≤ d.function.toNat) (size : 1 ≤ d.size.toNat) : Represents (d, if b then 1 else 0) :=
    represents_of_discrete (discrete above bound) (le_refl 1) size (by split <;> decide) (by split <;> decide)
  unfold outValue
  match code : d.function.toNat with
  | 0 => exact smooth steer (by omega)
  | 1 => exact smooth travel (by omega)
  | 2 => exact smooth boom (by omega)
  | 3 => exact smooth bucket (by omega)
  | 4 =>
    rw [code] at least
    have size : 2 ≤ d.size.toNat := least
    have gear := discrete (by omega) bound
    have number {v : Int} (nonneg : 0 ≤ v) (small : v < 2 ^ 2) : Represents (d, v) :=
      represents_of_discrete gear (by decide) size nonneg small
    cases src.gear
    · exact number (v := 0) (by decide) (by decide)
    · exact number (v := 1) (by decide) (by decide)
    · exact number (v := 2) (by decide) (by decide)
  | 5 => rw [code] at least; exact flag (by omega) least
  | 6 => rw [code] at least; exact flag (by omega) least
  | 7 => rw [code] at least; exact flag (by omega) least
  | n + 8 => omega

/-- The model's value of an OUT channel is that of the channel's function and raw range. -/
theorem channelValue_eq {ds : List Descriptor} {d : Descriptor} (mem : d ∈ ds) (valid : WellFormed d)
    (once : ∀ f, f < 13 → countOf ds f ≤ 1) (out : d.direction = 0#8) (axes : Axes) (src : FrameSource) :
    channelValue (admissionOf ds) axes src d = outValue axes src d := by
  have bound := function_of_out valid out
  obtain ⟨f, hf⟩ := exists_functionOf valid.1
  have code := functionOf_iff.1 hf
  obtain ⟨-, -, -, -, -, -, -, -, range⟩ := valid
  have gain (analog : f.code < 4) (n : Int) : scale (gainsFor f ds) d.rawNeutral.toInt n = rawOf d n := by
    obtain ⟨low, high, -⟩ := range (code ▸ analog)
    rw [gainsFor_of_mem mem code (once _ (by omega)), rawOf_eq low high]
  unfold channelValue outValue
  rw [hf, code]
  rw [code] at bound
  cases f with
  | steer | travel | boom | bucket => exact gain (by decide) _
  | gear | parkBrake | horn | lights => rfl
  | _ => exact absurd bound (by decide)

/-! ### A list that validation passes -/

theorem usable_of_validated {ds : List Descriptor} {period watchdog : Nat} (h : validate ds period watchdog = none) :
    (∀ d ∈ ds, WellFormed d) ∧ ∀ f, f < 13 → countOf ds f ≤ 1 := by
  unfold validate at h
  split at h
  · cases h
  · split at h
    · cases h
    next sound =>
      simp only [Bool.or_eq_true, Bool.not_eq_true', not_or, Bool.not_eq_false, decide_eq_true_eq, List.all_eq_true,
        descriptorValid_iff, repeatsValid_iff] at sound
      exact ⟨sound.1.1, sound.1.2.1⟩

end Sys2Proof.Machine

namespace Sys2Proof.Settled

open Sys2Proof.Machine

/-- Settles O49: a payload is a number written in bits, each channel behind those before it. -/
theorem unpackingReadsWhatPackingWrote : Obligations.UnpackingReadsWhatPackingWrote := by
  refine ⟨fun cs fits => ⟨?_, ?_, fun n beyond => ?_, ?_⟩, fun x period watchdog axes src valid admitted counts => ?_⟩
  · rw [payloadOf_length, payloadBytes_eq]
  · rw [numberOf_packed, unpack_packNumber fits]
  · refine (payloadBit_payloadOf ..).trans ?_
    rw [Nat.testBit_lt_two_pow ((packNumber_lt_sizes cs).trans_le (Nat.pow_le_pow_right (by decide) beyond)), Bool.and_false]
  · rintro ahead behind p rfl j below n
    have reach : n / 8 < payloadBytes ((ahead ++ p :: behind).map (·.1)) := by
      have total : sizes (ahead ++ p :: behind) = sizes ahead + (p.1.size.toNat + sizes behind) := by
        rw [sizes, List.map_append, List.map_cons, List.sum_append, List.sum_cons]
      have place : n = sizes ahead + j := rfl
      rw [payloadBytes_eq, total, place]
      omega
    refine (payloadBit_payloadOf ..).trans ?_
    rw [decide_eq_true reach, Bool.true_and, List.map_append, List.map_cons]
    have placed := packNumber_testBit (ahead.map fun p => (p.1.size.toNat, p.2)) (behind.map fun p => (p.1.size.toNat, p.2)) p.2 below
    rwa [List.map_map] at placed
  · obtain ⟨sound, once⟩ := usable_of_validated valid
    intro cs
    have outs : outChannels x.descriptors = x.descriptors.filter fun d => d.direction = 0#8 :=
      List.filter_congr fun d _ => (isOut_isIn_eq d).1
    have channel {d : Descriptor} (hd : d ∈ x.descriptors.filter fun d => d.direction = 0#8) :
        d ∈ x.descriptors ∧ d.direction = 0#8 :=
      ⟨(List.mem_filter.1 hd).1, of_decide_eq_true (List.mem_filter.1 hd).2⟩
    have firsts : cs.map (·.1) = x.descriptors.filter fun d => d.direction = 0#8 := by
      rw [List.map_map]
      exact List.map_id _
    refine ⟨fun p hp => ?_, ?_⟩
    · obtain ⟨d, hd, rfl⟩ := List.mem_map.1 hp
      exact outValue_represents (sound d (channel hd).1) (channel hd).2 counts src
    · rw [packFrame, admitted, outs]
      refine congrArg₂ payloadOf ?_ (congrArg packNumber ?_)
      · rw [firsts, ← outs]
        rfl
      · rw [List.map_map]
        refine List.map_congr_left fun d hd => ?_
        rw [channelValue_eq (channel hd).1 (sound d (channel hd).1) once (channel hd).2]
        rfl

end Sys2Proof.Settled
end


section
/-! SUPPORT. The receivers: the checks of a run in their order, and each layout read back (R154, R180 to R186). -/

namespace Sys2Proof.Machine

variable {p : Port}

/-! ### The checks in their order (R184) -/

theorem splitRun_eq_none {run : List Byte} (h : run.length < 5 ∨ run.head? ≠ some 0xA5#8) : splitRun run = none := by
  unfold splitRun
  split
  next sync kind len rest =>
    split
    next synced =>
      split
      next lo hi payload shape =>
        have length : rest.length = payload.length + 2 := by rw [← List.length_reverse, shape]; rfl
        rcases h with short | unsynced
        · simp [length] at short
          omega
        · simp [synced, syncByte] at unsynced
      next => rfl
    next => rfl
  next => rfl

/-- The content of a frame that passes the framing, the CRC and the length check. -/
def readKind (p : Port) (kind : Byte) (payload : List Byte) : Instr :=
  if !receivesKind p kind then .badFrame p .kind
  else
    match readContent p kind payload with
    | some c => c
    | none => .badFrame p .content

theorem readKind_of_some {kind : Byte} {payload : List Byte} {c : Instr} (taken : receivesKind p kind = true)
    (h : readContent p kind payload = some c) : readKind p kind payload = c := by
  rw [readKind, taken, h]
  rfl

theorem readKind_of_none {kind : Byte} {payload : List Byte} (taken : receivesKind p kind = true)
    (h : readContent p kind payload = none) : readKind p kind payload = .badFrame p .content := by
  rw [readKind, taken, h]
  rfl

theorem readKind_of_refused {kind : Byte} (refused : receivesKind p kind = false) (payload : List Byte) :
    readKind p kind payload = .badFrame p .kind := by
  rw [readKind, refused]
  rfl

theorem receive_run (p : Port) (kind len : Byte) (payload : List Byte) (sent : Half) :
    receive p (0xA5#8 :: kind :: len :: (payload ++ bytesOfHalf sent)) =
      if crc (kind :: len :: payload) ≠ sent then .badFrame p .crc
      else if 48 < len.toNat ∨ len.toNat ≠ payload.length then .badFrame p .length
      else readKind p kind payload := by
  rw [receive, show (0xA5#8 : Byte) = syncByte from rfl, splitRun_frame]
  rfl

/-- The content of a fleet frame that passes the framing and the CRC check, and whose length byte is right. -/
def readUnit (kind : Byte) (payload : List Byte) : Instr :=
  match payload with
  | a :: b :: c :: d :: rest => (readFleet kind (wordOf a b c d) rest).getD (.badFleetFrame .format)
  | _ => .badFleetFrame .format

theorem receiveFleet_run (kind len : Byte) (payload : List Byte) (sent : Half) :
    receiveFleet (0xA5#8 :: kind :: len :: (payload ++ bytesOfHalf sent)) =
      if crc (kind :: len :: payload) ≠ sent then .badFleetFrame .crc
      else if len.toNat ≠ payload.length then .badFleetFrame .format
      else readUnit kind payload := by
  rw [receiveFleet, show (0xA5#8 : Byte) = syncByte from rfl, splitRun_frame]
  rfl

theorem receivesKind_iff (p : Port) (kind : Byte) :
    receivesKind p kind = true ↔ kind = 0x00#8 ∨ kind = 0x02#8 ∨ (kind = 0x01#8 ∧ p ≠ .service) := by
  simp only [← BitVec.toNat_inj, BitVec.toNat_ofNat]
  unfold receivesKind
  match kind.toNat with
  | 0 | 2 => simp
  | 1 => cases p <;> simp
  | n + 3 => cases p <;> simp

/-! ### Frames as they are written (R180) -/

theorem natByte_toNat {n : Nat} (h : n < 256) : (natByte n).toNat = n := by
  rw [natByte, BitVec.toNat_ofNat, Nat.mod_eq_of_lt h]

theorem receive_frameBytes (p : Port) (kind : Byte) {payload : List Byte} (h : payload.length ≤ 48) :
    receive p (frameBytes kind payload) = readKind p kind payload := by
  have length := natByte_toNat (n := payload.length) (by omega)
  refine (receive_run p kind (natByte payload.length) payload _).trans ?_
  rw [if_neg (by simp), if_neg (by omega)]

theorem receiveFleet_frameBytes (kind : Byte) {payload : List Byte} (h : payload.length ≤ 255) :
    receiveFleet (frameBytes kind payload) = readUnit kind payload := by
  have length := natByte_toNat (n := payload.length) (by omega)
  refine (receiveFleet_run kind (natByte payload.length) payload _).trans ?_
  rw [if_neg (by simp), if_neg (by omega)]

/-! ### Bytes read back (R180, R186) -/

theorem wordOf_bytesOfUnit (x : UnitNumber) :
    wordOf (x.extractLsb' 24 8) (x.extractLsb' 16 8) (x.extractLsb' 8 8) (x.extractLsb' 0 8) = x := by
  unfold wordOf
  rw [BitVec.extractLsb'_append_extractLsb'_eq_extractLsb' (by rfl), BitVec.extractLsb'_append_extractLsb'_eq_extractLsb' (by rfl),
    BitVec.extractLsb'_append_extractLsb'_eq_extractLsb' (by rfl)]
  exact BitVec.extractLsb'_eq_self ..

theorem readUnit_bytesOfUnit (kind : Byte) (u : UnitNumber) (rest : List Byte) :
    readUnit kind (bytesOfUnit u ++ rest) = (readFleet kind u rest).getD (.badFleetFrame .format) := by
  show (readFleet kind (wordOf _ _ _ _) rest).getD _ = _
  rw [wordOf_bytesOfUnit]

/-- The bits a byte shares with a mask stay out of the bits below it. -/
theorem getLsbD_masked (spare x : Byte) {m : Byte} {k : Nat} (h : m.getLsbD k = false) :
    ((spare &&& m) ||| x).getLsbD k = x.getLsbD k := by
  rw [BitVec.getLsbD_or, BitVec.getLsbD_and, h, Bool.and_false, Bool.false_or]

theorem extract_masked (spare x : Byte) {m : Byte} {start len : Nat} (h : ∀ k < len, m.getLsbD (start + k) = false) :
    ((spare &&& m) ||| x).extractLsb' start len = x.extractLsb' start len := by
  apply BitVec.eq_of_getLsbD_eq
  intro k hk
  rw [BitVec.getLsbD_extractLsb', BitVec.getLsbD_extractLsb', getLsbD_masked _ _ (h k hk)]

theorem toInt_intHalf {n : Int} (h : IsCounts n) : (BitVec.ofInt 16 n).toInt = n := by
  obtain ⟨low, high⟩ := h
  rw [BitVec.toInt_ofInt, Int.bmod_def]
  split <;> omega

/-! ### AXIS frames (R186) -/

/-- The number of the discrete inputs in an AXIS frame. -/
def discreteNumber (f : AxisFrame) : Nat :=
  let bit (b : Bool) : Nat := if b then 1 else 0
  bit f.enable + 2 * bit f.brakeReq + 4 * bit f.horn + 8 * bit f.lights + 16 * f.gear.toNat

theorem discrete_bits (f : AxisFrame) : let d := BitVec.ofNat 8 (discreteNumber f)
    d.getLsbD 0 = f.enable ∧ d.getLsbD 1 = f.brakeReq ∧ d.getLsbD 2 = f.horn ∧ d.getLsbD 3 = f.lights ∧ d.extractLsb' 4 2 = f.gear := by
  have all : ∀ (a b c d : Bool) (g : Fin 4), let n := BitVec.ofNat 8 ((if a then 1 else 0) + 2 * (if b then 1 else 0) +
      4 * (if c then 1 else 0) + 8 * (if d then 1 else 0) + 16 * g.val)
      n.getLsbD 0 = a ∧ n.getLsbD 1 = b ∧ n.getLsbD 2 = c ∧ n.getLsbD 3 = d ∧ n.extractLsb' 4 2 = BitVec.ofFin g := by decide
  exact all f.enable f.brakeReq f.horn f.lights f.gear.toFin

/-- The payload of an AXIS frame, `spare` in the bits that are not read. -/
def axisPayload (f : AxisFrame) (spare : Byte) : List Byte :=
  intHalf f.steer ++ intHalf f.travel ++ intHalf f.boom ++ intHalf f.bucket ++ [(spare &&& 0xC0#8) ||| BitVec.ofNat 8 (discreteNumber f)]

theorem axisInRange_iff (f : AxisFrame) : axisInRange f = true ↔ f.WellFormed := by
  simp [axisInRange, inCounts, and_assoc]

theorem readAxis_axisPayload {f : AxisFrame} (h : f.WellFormed) (spare : Byte) : readAxis (axisPayload f spare) = some f := by
  obtain ⟨steer, travel, boom, bucket⟩ := h
  obtain ⟨enable, brakeReq, horn, lights, gear⟩ := discrete_bits f
  have low (k : Nat) (hk : k < 6) : ((spare &&& 0xC0#8) ||| BitVec.ofNat 8 (discreteNumber f)).getLsbD k =
      (BitVec.ofNat 8 (discreteNumber f)).getLsbD k := by
    refine getLsbD_masked spare _ ?_
    interval_cases k <;> rfl
  have high : ((spare &&& 0xC0#8) ||| BitVec.ofNat 8 (discreteNumber f)).extractLsb' 4 2 = f.gear := by
    rw [extract_masked spare _ (by decide), gear]
  simp only [readAxis, axisPayload, intHalf, bytesOfHalf, List.cons_append, List.nil_append, halfOf_bytesOfHalf, toInt_intHalf steer,
    toInt_intHalf travel, toInt_intHalf boom, toInt_intHalf bucket, low 0 (by decide), low 1 (by decide), low 2 (by decide), low 3 (by decide),
    high, enable, brakeReq, horn, lights]
  exact if_pos ((axisInRange_iff f).2 ⟨steer, travel, boom, bucket⟩)

theorem readAxis_of_length {payload : List Byte} (h : payload.length ≠ 9) : readAxis payload = none := by
  unfold readAxis
  split
  · exact absurd rfl h
  · rfl

/-- Axis values outside the counts are bad content. -/
theorem readAxis_of_beyond {steer travel boom bucket : Half} (h : ¬ (IsCounts steer.toInt ∧ IsCounts travel.toInt ∧
    IsCounts boom.toInt ∧ IsCounts bucket.toInt)) (d : Byte) :
    readAxis (bytesOfHalf steer ++ bytesOfHalf travel ++ bytesOfHalf boom ++ bytesOfHalf bucket ++ [d]) = none := by
  simp only [readAxis, bytesOfHalf, List.cons_append, List.nil_append, halfOf_bytesOfHalf]
  exact if_neg (mt (axisInRange_iff _).1 h)

/-! ### REQUEST frames (R185, R186) -/

theorem readOptionalGate_gatePayload {g : Option GateIn} (h : gateOperandWellFormed g) (spare : Byte) :
    readOptionalGate (gatePayload spare g) = some g := by
  cases g with
  | none => rfl
  | some g =>
    obtain ⟨phase, mask, value, sense, wait⟩ := g
    have control : readGate (phase.getD 0xFF#8) mask value
        ((spare &&& 0xFC#8) ||| (if sense = .differ then 1#8 else 0#8) ||| (if wait then 2#8 else 0#8)) =
        { phase := phase, mask := mask, value := value, sense := sense, wait := wait } := by
      have phaseRead : (if phase.getD 0xFF#8 = 0xFF#8 then none else some (phase.getD 0xFF#8)) = phase := by
        cases phase with
        | none => rfl
        | some b => exact if_neg fun same => h (congrArg some same)
      rw [readGate, phaseRead, BitVec.or_assoc, getLsbD_masked _ _ (by rfl), getLsbD_masked _ _ (by rfl)]
      cases sense <;> cases wait <;> rfl
    exact congrArg (some ∘ some) control

theorem tag_of_byte (spare : Byte) (tag : Tag) :
    (((spare &&& 0xF0#8) ||| BitVec.ofNat 8 tag.val).extractLsb' 0 4).toFin = tag := by
  rw [extract_masked spare _ (by decide)]
  revert tag
  decide

theorem readOptionalGate_length {g : List Byte} {o : Option GateIn} (h : readOptionalGate g = some o) : g.length = 0 ∨ g.length = 4 := by
  unfold readOptionalGate at h
  split at h
  · exact .inl rfl
  · exact .inr rfl
  · cases h

/-- A code that no row of the request table gives is not read. -/
theorem readRequest_of_unlisted {code : Byte} (h : code.toNat ∉ [1, 2, 3, 4, 5, 6, 7, 8, 9, 10, 11, 12, 32, 33, 34, 35, 36, 37])
    (tag : Byte) (ps : List Byte) : readRequest p (code :: tag :: ps) = none := by
  unfold readRequest
  dsimp only
  generalize code.toNat = n at h ⊢
  match n, h with
  | 0, _ | 13, _ | 14, _ | 15, _ | 16, _ | 17, _ | 18, _ | 19, _ | 20, _ | 21, _ | 22, _ | 23, _ | 24, _ | 25, _ | 26, _ | 27, _ | 28, _
  | 29, _ | 30, _ | 31, _ => rfl
  | n + 38, _ => rfl
  | 1, h | 2, h | 3, h | 4, h | 5, h | 6, h | 7, h | 8, h | 9, h | 10, h | 11, h | 12, h | 32, h | 33, h | 34, h | 35, h | 36, h | 37, h =>
    exact absurd (by decide) h

/-- A REQUEST that is read has a code and a length of the request table. -/
theorem shape_of_readRequest {payload : List Byte} {c : Instr} (h : readRequest p payload = some c) :
    ∃ code ∈ payload.head?, (code.toNat, payload.length) ∈ requestShapes := by
  match payload, h with
  | [], h | [_], h => exact nomatch (show none = some c from h)
  | code :: tag :: ps, h =>
    refine ⟨code, rfl, ?_⟩
    by_cases listed : code.toNat ∈ [1, 2, 3, 4, 5, 6, 7, 8, 9, 10, 11, 12, 32, 33, 34, 35, 36, 37]
    swap
    · rw [readRequest_of_unlisted listed] at h
      cases h
    have gated {n m : Nat} {g : List Byte} {f : Option GateIn → Instr} (hg : (readOptionalGate g).map f = some c)
        (short : (n, m) ∈ requestShapes) (long : (n, m + 4) ∈ requestShapes) : (n, g.length + m) ∈ requestShapes := by
      obtain ⟨o, ho, -⟩ := Option.map_eq_some_iff.1 hg
      rcases readOptionalGate_length ho with none | four
      · rwa [none, Nat.zero_add]
      · rwa [four, Nat.add_comm]
    unfold readRequest at h
    dsimp only at h
    rw [List.length_cons, List.length_cons]
    generalize code.toNat = n at h listed ⊢
    have unread {α : Prop} (h : (none : Option Instr) = some c) : α := nomatch h
    simp only [List.mem_cons, List.not_mem_nil, or_false] at listed
    rcases listed with rfl | rfl | rfl | rfl | rfl | rfl | rfl | rfl | rfl | rfl | rfl | rfl | rfl | rfl | rfl | rfl | rfl | rfl
    · match ps, h with
      | [], h => exact unread h
      | _ :: g, h => exact gated (m := 3) h (by decide) (by decide)
    · match ps, h with
      | [], h | [_], h => exact unread h
      | _ :: _ :: g, h => exact gated (m := 4) h (by decide) (by decide)
    · match ps, h with
      | [], h => exact unread h
      | _ :: g, h => exact gated (m := 3) h (by decide) (by decide)
    · match ps, h with
      | [], h => exact unread h
      | _ :: g, h => exact gated (m := 3) h (by decide) (by decide)
    · match ps, h with
      | [_], _ => exact of_decide_eq_true rfl
      | [], h | _ :: _ :: _, h => exact unread h
    · match ps, h with
      | [_], _ => exact of_decide_eq_true rfl
      | [], h | _ :: _ :: _, h => exact unread h
    · match ps, h with
      | [], _ => exact of_decide_eq_true rfl
      | _ :: _, h => exact unread h
    · match ps, h with
      | [], _ => exact of_decide_eq_true rfl
      | _ :: _, h => exact unread h
    · match ps, h with
      | [_], _ => exact of_decide_eq_true rfl
      | [], h | _ :: _ :: _, h => exact unread h
    · match ps, h with
      | [], _ => exact of_decide_eq_true rfl
      | _ :: _, h => exact unread h
    · match ps, h with
      | [_, _, _, _], _ => exact of_decide_eq_true rfl
      | [], h | [_], h | [_, _], h | [_, _, _], h | _ :: _ :: _ :: _ :: _ :: _, h => exact unread h
    · match ps, h with
      | [_, _, _], _ => exact of_decide_eq_true rfl
      | [], h | [_], h | [_, _], h | _ :: _ :: _ :: _ :: _, h => exact unread h
    · match ps, h with
      | [_, _, _, _, _, _, _], _ => exact of_decide_eq_true rfl
      | [], h | [_], h | [_, _], h | [_, _, _], h | [_, _, _, _], h | [_, _, _, _, _], h | [_, _, _, _, _, _], h | _ :: _ :: _ :: _ :: _ :: _ :: _ :: _ :: _, h => exact unread h
    · match ps, h with
      | [_, _, _], _ | [_, _, _, _, _], _ => exact of_decide_eq_true rfl
      | [], h | [_], h | [_, _], h | [_, _, _, _], h | _ :: _ :: _ :: _ :: _ :: _ :: _, h => exact unread h
    · match ps, h with
      | [_], _ => exact of_decide_eq_true rfl
      | [], h | _ :: _ :: _, h => exact unread h
    · match ps, h with
      | [_], _ => exact of_decide_eq_true rfl
      | [], h | _ :: _ :: _, h => exact unread h
    · match ps, h with
      | [], _ => exact of_decide_eq_true rfl
      | _ :: _, h => exact unread h
    · match ps, h with
      | [], _ => exact of_decide_eq_true rfl
      | _ :: _, h => exact unread h

theorem receive_request {payload : List Byte} {cmd : Instr} (h : readRequest p payload = some cmd) :
    receive p (frameBytes 0x02#8 payload) = cmd := by
  obtain ⟨code, -, shape⟩ := shape_of_readRequest h
  have bounded : ∀ q ∈ requestShapes, q.2 ≤ 48 := by decide
  rw [receive_frameBytes p 0x02#8 (bounded _ shape), readKind_of_some (by rfl)]
  cases p <;> exact h

theorem sender_of_byte (b : Sender) (spare : Byte) :
    ({ port := b.port, tag := (((spare &&& 0xF0#8) ||| BitVec.ofNat 8 b.tag.val).extractLsb' 0 4).toFin } : Sender) = b := by
  rw [tag_of_byte]

theorem extract_allowed (spare : Byte) (allowed : ChairSet) :
    ((spare &&& 0xC0#8) ||| allowed.zeroExtend 8).extractLsb' 0 6 = allowed := by
  rw [extract_masked spare _ (by decide)]
  apply BitVec.eq_of_getLsbD_eq
  intro k hk
  simp [hk, show k < 8 by omega]

/-- Each request reads back as it is spelled. -/
theorem readRequest_requestPayload {spare : Byte} {cmd : Instr} {payload : List Byte} (valid : cmd.WellFormed)
    (spelled : requestPayload spare cmd = some (p, payload)) : readRequest p payload = some cmd := by
  have gated {g : Option GateIn} {f : Option GateIn → Instr} (h : gateOperandWellFormed g) :
      (readOptionalGate (gatePayload spare g)).map f = some (f g) := by
    rw [readOptionalGate_gatePayload h]
    rfl
  have sender (b : Sender) : ({ port := b.port, tag := (((spare &&& 0xF0#8) ||| BitVec.ofNat 8 b.tag.val).extractLsb' 0 4).toFin } :
      Sender) = b := sender_of_byte b spare
  cases cmd with
  | take b slot g =>
    obtain ⟨rfl, rfl⟩ := Prod.mk.inj (Option.some.inj spelled)
    exact (gated (f := fun g => .take _ slot g) valid).trans (congrArg (fun b => some (Instr.take b slot g)) (sender b))
  | pass b slot target g =>
    obtain ⟨rfl, rfl⟩ := Prod.mk.inj (Option.some.inj spelled)
    exact (gated (f := fun g => .pass _ slot target g) valid).trans (congrArg (fun b => some (Instr.pass b slot target g)) (sender b))
  | returnLoader b slot g =>
    obtain ⟨rfl, rfl⟩ := Prod.mk.inj (Option.some.inj spelled)
    exact (gated (f := fun g => .returnLoader _ slot g) valid).trans (congrArg (fun b => some (Instr.returnLoader b slot g)) (sender b))
  | resume b slot g =>
    obtain ⟨rfl, rfl⟩ := Prod.mk.inj (Option.some.inj spelled)
    exact (gated (f := fun g => .resume _ slot g) valid).trans (congrArg (fun b => some (Instr.resume b slot g)) (sender b))
  | accept b slot =>
    obtain ⟨rfl, rfl⟩ := Prod.mk.inj (Option.some.inj spelled)
    exact congrArg (fun b => some (Instr.accept b slot)) (sender b)
  | decline b slot =>
    obtain ⟨rfl, rfl⟩ := Prod.mk.inj (Option.some.inj spelled)
    exact congrArg (fun b => some (Instr.decline b slot)) (sender b)
  | ready b =>
    obtain ⟨rfl, rfl⟩ := Prod.mk.inj (Option.some.inj spelled)
    exact congrArg (fun b => some (Instr.ready b)) (sender b)
  | unready b =>
    obtain ⟨rfl, rfl⟩ := Prod.mk.inj (Option.some.inj spelled)
    exact congrArg (fun b => some (Instr.unready b)) (sender b)
  | park b slot =>
    obtain ⟨rfl, rfl⟩ := Prod.mk.inj (Option.some.inj spelled)
    exact congrArg (fun b => some (Instr.park b slot)) (sender b)
  | cancel b =>
    obtain ⟨rfl, rfl⟩ := Prod.mk.inj (Option.some.inj spelled)
    exact congrArg (fun b => some (Instr.cancel b)) (sender b)
  | query b target number field index =>
    obtain ⟨rfl, rfl⟩ := Prod.mk.inj (Option.some.inj spelled)
    exact congrArg (fun b => some (Instr.query b target number field index)) (sender b)
  | forceFree b slot =>
    obtain ⟨rfl, rfl⟩ := Prod.mk.inj (Option.some.inj spelled)
    exact congrArg (fun b => some (Instr.forceFree b slot)) (sender b)
  | loaderRestart b slot =>
    obtain ⟨rfl, rfl⟩ := Prod.mk.inj (Option.some.inj spelled)
    exact congrArg (fun b => some (Instr.loaderRestart b slot)) (sender b)
  | resetAll b =>
    obtain ⟨rfl, rfl⟩ := Prod.mk.inj (Option.some.inj spelled)
    exact congrArg (fun b => some (Instr.resetAll b)) (sender b)
  | resetKeep b =>
    obtain ⟨rfl, rfl⟩ := Prod.mk.inj (Option.some.inj spelled)
    exact congrArg (fun b => some (Instr.resetKeep b)) (sender b)
  | ack b flags clear =>
    obtain ⟨rfl, rfl⟩ := Prod.mk.inj (Option.some.inj spelled)
    have choice : ((spare &&& 0x7F#8) ||| (if clear then 0x80#8 else 0#8)).getLsbD 7 = clear := by
      rw [getLsbD_masked _ _ (by rfl)]
      cases clear <;> rfl
    show some (Instr.ack _ (halfOf _ _) _) = _
    rw [sender, halfOf_bytesOfHalf, choice]
  | zoneSet b zone st cap backoff allowed =>
    obtain ⟨rfl, rfl⟩ := Prod.mk.inj (Option.some.inj spelled)
    have state : readZoneState (if st = .opened then 0#8 else 1#8) = st := by cases st <;> rfl
    show some (Instr.zoneSet _ zone (readZoneState _) (halfOf _ _) (halfOf _ _) _) = _
    rw [sender, state, halfOf_bytesOfHalf, halfOf_bytesOfHalf, extract_allowed]
  | policySet b field value =>
    cases value with
    | number v =>
      obtain ⟨rfl, rfl⟩ := Prod.mk.inj (Option.some.inj spelled)
      show some (Instr.policySet _ field (.number (halfOf _ _))) = _
      rw [sender, halfOf_bytesOfHalf]
    | gate g =>
      obtain ⟨rfl, rfl⟩ := Prod.mk.inj (Option.some.inj spelled)
      have read := readOptionalGate_gatePayload (g := some g) valid spare
      have gate : readGate _ _ _ _ = g := Option.some.inj (Option.some.inj read)
      show some (Instr.policySet _ field (.gate (readGate _ _ _ _))) = _
      rw [sender, gate]
  | _ => exact nomatch (show none = some _ from spelled)

/-! ### Fleet frames (R154, R186) -/

theorem readDescriptor_bytes (d : Descriptor) : readDescriptor ([d.function, d.direction, d.size, d.kind] ++ bytesOfHalf d.rawMin ++
    bytesOfHalf d.rawNeutral ++ bytesOfHalf d.rawMax) = some d := by
  simp [readDescriptor, bytesOfHalf]

/-- Each frame of a loader reads back as it is spelled. -/
theorem readFleet_fleetContent {cmd : Instr} {kind : Byte} {u : UnitNumber} {rest : List Byte} (spelled : fleetContent cmd = some (kind, u, rest)) :
    readFleet kind u rest = some cmd := by
  have spells {k : Byte} {v : UnitNumber} {l : List Byte} (h : some (k, v, l) = some (kind, u, rest)) : kind = k ∧ u = v ∧ rest = l := by
    simpa [eq_comm] using h
  cases cmd with
  | hello v => obtain ⟨rfl, rfl, rfl⟩ := spells spelled; rfl
  | telemetry v payload => obtain ⟨rfl, rfl, rfl⟩ := spells spelled; rfl
  | call v reason => cases reason <;> (obtain ⟨rfl, rfl, rfl⟩ := spells spelled; rfl)
  | callClear v => obtain ⟨rfl, rfl, rfl⟩ := spells spelled; rfl
  | idAnswer v name period watchdog =>
    obtain ⟨rfl, rfl, rfl⟩ := spells spelled
    show some (Instr.idAnswer u ⟨_, _, _, _⟩ (halfOf _ _) (halfOf _ _)) = _
    rw [halfOf_bytesOfHalf, halfOf_bytesOfHalf]
  | entryAnswer v index d =>
    cases d with
    | none => obtain ⟨rfl, rfl, rfl⟩ := spells spelled; rfl
    | some d =>
      obtain ⟨rfl, rfl, rfl⟩ := spells spelled
      exact congrArg (Option.map fun d => Instr.entryAnswer u index (some d)) (readDescriptor_bytes d)
  | _ => exact nomatch (show none = some _ from spelled)

theorem fleetContent_length {cmd : Instr} {kind : Byte} {u : UnitNumber} {rest : List Byte} (valid : cmd.WellFormed)
    (spelled : fleetContent cmd = some (kind, u, rest)) : rest.length ≤ 251 := by
  have spells {k : Byte} {v : UnitNumber} {l : List Byte} (h : some (k, v, l) = some (kind, u, rest)) (short : l.length ≤ 251) :
      rest.length ≤ 251 := by
    simp only [Option.some.injEq, Prod.mk.injEq] at h
    exact h.2.2 ▸ short
  cases cmd with
  | telemetry v payload => exact spells spelled valid
  | call v reason => cases reason <;> exact spells spelled (of_decide_eq_true rfl)
  | hello v => exact spells spelled (of_decide_eq_true rfl)
  | callClear v => exact spells spelled (of_decide_eq_true rfl)
  | idAnswer v name period watchdog => exact spells spelled (of_decide_eq_true rfl)
  | entryAnswer v index d => cases d <;> exact spells spelled (of_decide_eq_true rfl)
  | _ => exact nomatch (show none = some _ from spelled)

theorem readFleet_of_unlisted {kind : Byte} (h : kind.toNat ∉ [16, 17, 18, 19, 20]) (u : UnitNumber) (rest : List Byte) :
    readFleet kind u rest = none := by
  unfold readFleet
  generalize kind.toNat = n at h ⊢
  match n, h with
  | 0, _ | 1, _ | 2, _ | 3, _ | 4, _ | 5, _ | 6, _ | 7, _ | 8, _ | 9, _ | 10, _ | 11, _ | 12, _ | 13, _ | 14, _ | 15, _ => rfl
  | n + 21, _ => rfl
  | 16, h | 17, h | 18, h | 19, h | 20, h => exact absurd (by decide) h

theorem readDescriptor_length {bytes : List Byte} {d : Descriptor} (h : readDescriptor bytes = some d) : bytes.length = 10 := by
  unfold readDescriptor at h
  split at h
  · rfl
  · cases h

/-- The ENTRY answer by its marker. -/
def entryOf (u : UnitNumber) (index : Byte) (bytes : List Byte) (marker : Nat) : Option Instr :=
  match marker with
  | 0 => (readDescriptor bytes).map fun d => .entryAnswer u index (some d)
  | 1 => if bytes = [] then some (.entryAnswer u index none) else none
  | _ => none

/-- A fleet frame that is read has a length, and an ENTRY a marker, that suits its kind. -/
theorem fleetShape_of_readFleet {kind : Byte} {u : UnitNumber} {a b d e : Byte} {rest : List Byte} {c : Instr}
    (h : readFleet kind u rest = some c) : fleetShape kind (a :: b :: d :: e :: rest) := by
  have number (n : Nat) (small : n < 256) : kind = BitVec.ofNat 8 n ↔ kind.toNat = n := by
    rw [← BitVec.toNat_inj, BitVec.toNat_ofNat, Nat.mod_eq_of_lt small]
  have unread {α : Prop} (h : (none : Option Instr) = some c) : α := nomatch h
  unfold fleetShape
  dsimp only
  rw [number 16 (by decide), number 17 (by decide), number 18 (by decide), number 19 (by decide), number 20 (by decide)]
  by_cases listed : kind.toNat ∈ [16, 17, 18, 19, 20]
  swap
  · rw [readFleet_of_unlisted listed] at h
    cases h
  unfold readFleet at h
  generalize kind.toNat = n at h listed ⊢
  simp only [List.mem_cons, List.not_mem_nil, or_false] at listed
  rcases listed with rfl | rfl | rfl | rfl | rfl
  · match rest, h with
    | [], _ => simp
    | _ :: _, h => exact unread h
  · simp
  · match rest, h with
    | [_], _ => simp
    | [], h | _ :: _ :: _, h => exact unread h
  · match rest, h with
    | [_, _, _, _, _, _, _, _], _ => simp
    | [], h | [_], h | [_, _], h | [_, _, _], h | [_, _, _, _], h | [_, _, _, _, _], h | [_, _, _, _, _, _], h | [_, _, _, _, _, _, _], h
    | _ :: _ :: _ :: _ :: _ :: _ :: _ :: _ :: _ :: _, h => exact unread h
  · match rest, h with
    | [], h | [_], h => exact unread h
    | index :: marker :: bytes, h =>
      have spelled (m : Nat) (small : m < 256) : marker.toNat = m → marker = BitVec.ofNat 8 m := fun h =>
        BitVec.eq_of_toNat_eq (by rw [h, BitVec.toNat_ofNat, Nat.mod_eq_of_lt small])
      replace h : entryOf u index bytes marker.toNat = some c := h
      generalize number : marker.toNat = m at h
      match m, number, h with
      | 0, zero, h =>
        obtain ⟨desc, read, -⟩ := Option.map_eq_some_iff.1 h
        have length := readDescriptor_length read
        simp [spelled 0 (by decide) zero, length]
      | 1, one, h =>
        by_cases empty : bytes = []
        · simp [spelled 1 (by decide) one, empty]
        · exact unread ((if_neg empty).symm.trans h)
      | n + 2, _, h => exact unread h

theorem readUnit_of_misshapen {kind : Byte} {payload : List Byte} (h : ¬ fleetShape kind payload) :
    readUnit kind payload = .badFleetFrame .format := by
  unfold readUnit
  split
  next a b c d rest =>
    cases read : readFleet kind (wordOf a b c d) rest with
    | none => rfl
    | some i => exact absurd (fleetShape_of_readFleet read) h
  next => rfl

theorem readRequest_of_misshapen {payload : List Byte} (h : ∀ code ∈ payload.head?, (code.toNat, payload.length) ∉ requestShapes) :
    readRequest p payload = none := by
  by_contra read
  obtain ⟨c, hc⟩ := Option.ne_none_iff_exists'.1 read
  obtain ⟨code, head, shape⟩ := shape_of_readRequest hc
  exact h code head shape

end Sys2Proof.Machine

namespace Sys2Proof.Settled

open Sys2Proof.Machine

/-- Settles O50: the checks of a run one behind the other, and each layout read back. -/
theorem axisFramesAreReceived : Obligations.AxisFramesAreReceived := by
  refine ⟨fun p run bad => ?_, fun p kind len payload sent => ?_, fun c f spare valid => ?_, fun c steer travel boom bucket d beyond => ?_,
    fun spare cmd p payload valid spelled => ?_, fun cmd kind u rest valid spelled => ?_, fun u reason beyond => ?_⟩
  · rw [receive, receiveFleet, splitRun_eq_none bad]
    exact ⟨rfl, rfl⟩
  · intro run sum short taken
    have port : receive p run = if sum ≠ sent then .badFrame p .crc
        else if 48 < len.toNat ∨ len.toNat ≠ payload.length then .badFrame p .length else readKind p kind payload := receive_run ..
    have fleet : receiveFleet run = if sum ≠ sent then .badFleetFrame .crc
        else if len.toNat ≠ payload.length then .badFleetFrame .format else readUnit kind payload := receiveFleet_run ..
    have passed (right : sent = sum) (fits : short) : receive p run = readKind p kind payload := by
      rw [port, if_neg (not_not.2 right.symm), if_neg]
      rintro (long | other)
      · exact absurd fits.1 (Nat.not_le.2 long)
      · exact other fits.2
    refine ⟨fun wrong => ?_, fun right long => ?_, fun right fits refused => ?_, fun right fits accepted => ⟨fun idle => ?_, fun axis length => ?_,
      fun request shapes => ?_⟩, fun right bad => ?_⟩
    · rw [port, fleet, if_pos (Ne.symm wrong), if_pos (Ne.symm wrong)]
      exact ⟨rfl, rfl⟩
    · rw [port, if_neg (not_not.2 right.symm), if_pos]
      by_contra fits
      rw [not_or, Nat.not_lt, not_not] at fits
      exact long fits
    · rw [passed right fits, readKind_of_refused (Bool.eq_false_iff.2 (mt (receivesKind_iff p kind).1 refused))]
    · subst idle
      rw [passed right fits]
      split
      next empty => exact readKind_of_some ((receivesKind_iff ..).2 accepted) (if_pos empty)
      next full => exact readKind_of_none ((receivesKind_iff ..).2 accepted) (if_neg full)
    · subst axis
      rw [passed right fits]
      refine readKind_of_none ((receivesKind_iff ..).2 accepted) ?_
      cases p with
      | chair c => exact congrArg (Option.map _) (readAxis_of_length length)
      | service => simp [taken] at accepted
    · subst request
      rw [passed right fits]
      refine readKind_of_none ((receivesKind_iff ..).2 accepted) ?_
      cases p <;> exact readRequest_of_misshapen shapes
    · rw [fleet, if_neg (not_not.2 right.symm)]
      by_cases length : len.toNat = payload.length
      · rw [if_neg (not_not.2 length), readUnit_of_misshapen (bad.resolve_left (not_not.2 length))]
      · rw [if_pos length]
  · intro bit payload body
    refine ⟨?_, ?_, fun k => ?_⟩
    · rw [receive_frameBytes (.chair c) 0x01#8 (by exact (by decide : 9 ≤ 48))]
      exact readKind_of_some (by rfl) (congrArg (Option.map _) (readAxis_axisPayload valid spare))
    · rw [receive_frameBytes .service 0x01#8 (by exact (by decide : 9 ≤ 48))]
      exact readKind_of_refused (by rfl) _
    · refine (receive_run (.chair c) 0x01#8 0x09#8 payload _).trans (if_pos fun same => ?_)
      have flipped : (1#16 <<< k.val) = 0#16 := by
        have cancel := congrArg (crc body ^^^ ·) same
        simpa [← BitVec.xor_assoc, body] using cancel.symm
      have nonzero : ∀ k : Fin 16, (1#16 <<< k.val) ≠ 0#16 := by decide
      exact nonzero k flipped
  · rw [receive_frameBytes (.chair c) 0x01#8 (by exact (by decide : 9 ≤ 48)), readKind_of_none (by rfl)]
    exact congrArg (Option.map _) (readAxis_of_beyond beyond d)
  · exact receive_request (readRequest_requestPayload valid spelled)
  · have length := fleetContent_length valid spelled
    rw [receiveFleet_frameBytes kind (by rw [List.length_append]; exact Nat.add_le_add_left length 4), readUnit_bytesOfUnit, readFleet_fleetContent spelled]
    rfl
  · rw [receiveFleet_frameBytes 0x12#8 (by exact (by decide : 5 ≤ 255)), readUnit_bytesOfUnit]
    show readCall u reason = _
    unfold readCall
    match reason.toNat, beyond with
    | n + 4, _ => rfl

end Sys2Proof.Settled
end


section
/-! SUPPORT. The bytes of a sent frame: which bytes spell which written bits, field by field, and the departures from the queues. -/

namespace Sys2Proof.Machine

/-! ### Bytes that spell what a layout writes -/

/-- The bytes carry, in the bits that a rule names, what is written of them. -/
def Spells (ws : List Written) (bs : List Byte) : Prop := List.Forall₂ (fun w b => b &&& w.named = w.value) ws bs

@[simp] theorem spells_nil : Spells [] [] := List.Forall₂.nil

theorem Spells.append {ws vs : List Written} {bs cs : List Byte} (h : Spells ws bs) (k : Spells vs cs) : Spells (ws ++ vs) (bs ++ cs) :=
  List.rel_append h k

/-- What is spelled already can be taken off the front. -/
@[simp] theorem spells_append {ws vs : List Written} {bs cs : List Byte} (h : Spells ws bs) : Spells (ws ++ vs) (bs ++ cs) ↔ Spells vs cs := by
  induction h with
  | nil => rfl
  | cons hb _ ih => exact List.forall₂_cons.trans ⟨fun k => ih.1 k.2, fun k => ⟨hb, ih.2 k⟩⟩

theorem Spells.flatMap {α : Type} {f : α → List Written} {g : α → List Byte} (h : ∀ x, Spells (f x) (g x)) :
    ∀ l : List α, Spells (l.flatMap f) (l.flatMap g)
  | [] => spells_nil
  | x :: l => (h x).append (Spells.flatMap h l)

/-- A masked byte is right once its named bits are, whatever the free ones. -/
@[simp] theorem spells_bits {m v : Nat} {ws : List Written} {b : Byte} {bs : List Byte} :
    Spells (bitsAs m v ++ ws) (b :: bs) ↔ b &&& BitVec.ofNat 8 m = BitVec.ofNat 8 v ∧ Spells ws bs :=
  List.forall₂_cons

@[simp] theorem spells_last_bits {m v : Nat} {b : Byte} :
    Spells (bitsAs m v) [b] ↔ b &&& BitVec.ofNat 8 m = BitVec.ofNat 8 v := by
  simpa using spells_bits (m := m) (v := v) (ws := []) (b := b) (bs := [])

theorem and_byte (b : Byte) : b &&& BitVec.ofNat 8 0xFF = b := BitVec.and_allOnes (x := b)

@[simp] theorem spells_byte {n : Nat} {ws : List Written} {b : Byte} {bs : List Byte} :
    Spells (byteAs n ++ ws) (b :: bs) ↔ b = BitVec.ofNat 8 n ∧ Spells ws bs := by
  rw [byteAs, spells_bits, and_byte]

@[simp] theorem spells_last_byte {n : Nat} {b : Byte} : Spells (byteAs n) [b] ↔ b = BitVec.ofNat 8 n := by
  rw [byteAs, spells_last_bits, and_byte]

theorem withSpare_and (site : Config.SpareSite) (m b : Byte) : withSpare site m b &&& m = b &&& m := by
  ext k
  cases hm : m[k] <;> simp [withSpare, hm]

/-! ### The numbers -/

theorem natByte_eq (n : Nat) : natByte n = BitVec.ofNat 8 n := rfl

theorem bytesOfHalf_eq (x : Half) : bytesOfHalf x = [BitVec.ofNat 8 (x.toNat / 256), BitVec.ofNat 8 x.toNat] := by
  simp [bytesOfHalf, BitVec.extractLsb', Nat.shiftRight_eq_div_pow]

theorem bytesOfUnit_eq (x : UnitNumber) :
    bytesOfUnit x = [BitVec.ofNat 8 (x.toNat / 16777216), BitVec.ofNat 8 (x.toNat / 65536), BitVec.ofNat 8 (x.toNat / 256),
      BitVec.ofNat 8 x.toNat] := by
  simp [bytesOfUnit, BitVec.extractLsb', Nat.shiftRight_eq_div_pow]

@[simp] theorem spells_half (n : Int) : Spells (halfAs n) (bytesOfHalf (BitVec.ofInt 16 n)) := by
  rw [bytesOfHalf_eq, BitVec.toNat_ofInt, halfAs, spells_byte, spells_last_byte]
  refine ⟨rfl, BitVec.eq_of_toNat_eq ?_⟩
  simp only [BitVec.toNat_ofNat]
  omega

@[simp] theorem spells_natHalf (n : Nat) : Spells (halfAs n) (natHalf n) := spells_half n

@[simp] theorem spells_intHalf (n : Int) : Spells (halfAs n) (intHalf n) := spells_half n

@[simp] theorem spells_bytesOfHalf (x : Half) : Spells (halfAs x.toNat) (bytesOfHalf x) := by
  simpa only [natHalf, BitVec.ofNat_toNat, BitVec.setWidth_eq] using spells_natHalf x.toNat

@[simp] theorem spells_toInt (x : Half) : Spells (halfAs x.toInt) (bytesOfHalf x) := by
  simpa only [BitVec.ofInt_toInt] using spells_half x.toInt

@[simp] theorem spells_unit (u : UnitNumber) : Spells (wordAs u.toNat) (bytesOfUnit u) := by
  simp [bytesOfUnit_eq, wordAs]

@[simp] theorem spells_natWord (n : Nat) : Spells (wordAs n) (natWord n) := by
  simp only [natWord, bytesOfUnit_eq, wordAs, List.append_assoc, spells_byte, spells_last_byte, BitVec.toNat_ofNat]
  refine ⟨?_, ?_, ?_, ?_⟩ <;> apply BitVec.eq_of_toNat_eq <;> simp only [BitVec.toNat_ofNat] <;> omega

/-! ### The enumerated values -/

@[simp] theorem entryStateByte_eq (x : EntryState) : entryStateByte x = BitVec.ofNat 8 (entryStateNumber x) := by cases x <;> rfl
@[simp] theorem chairStateByte_eq (x : ChairState) : chairStateByte x = BitVec.ofNat 8 (chairStateNumber x) := by cases x <;> rfl
@[simp] theorem presenceByte_eq (x : Presence) : presenceByte x = BitVec.ofNat 8 (presenceNumber x) := by cases x <;> rfl
@[simp] theorem kindByte_eq (x : HandoverKind) : kindByte x = BitVec.ofNat 8 (kindNumber x) := by cases x <;> rfl
@[simp] theorem phaseByte_eq (x : HandoverPhase) : phaseByte x = BitVec.ofNat 8 (phaseNumber x) := by cases x <;> rfl
@[simp] theorem purposeByte_eq (x : RampPurpose) : purposeByte x = BitVec.ofNat 8 (purposeNumber x) := by cases x <;> rfl
@[simp] theorem stageByte_eq (x : Stage) : stageByte x = BitVec.ofNat 8 (stageNumber x) := by cases x <;> rfl
@[simp] theorem modeByte_eq (x : Mode) : modeByte x = BitVec.ofNat 8 (modeNumber x) := by cases x <;> rfl
@[simp] theorem reasonByte_eq (x : CallReason) : reasonByte x = BitVec.ofNat 8 (reasonNumber x) := by cases x <;> rfl
@[simp] theorem zoneStateByte_eq (x : ZoneState) : zoneStateByte x = BitVec.ofNat 8 (zoneStateNumber x) := by cases x <;> rfl
@[simp] theorem requestCode_eq (x : RequestKind) : requestCode x = BitVec.ofNat 8 (requestNumber x) := by cases x <;> rfl
@[simp] theorem codeByte_eq (x : Code) : codeByte x = BitVec.ofNat 8 (codeNumber x) := by cases x <;> rfl
@[simp] theorem flagByte_eq (b : Bool) : flagByte b = BitVec.ofNat 8 (yes b) := by cases b <;> rfl

@[simp] theorem partyByte_eq (p : Option Party) : partyByte p = BitVec.ofNat 8 (partyNumber p) := by
  match p with
  | none | some .auto | some (.chair _) => rfl

@[simp] theorem readByte_eq (r : Option Read) : readByte r = BitVec.ofNat 8 (readNumber r) := by
  match r with
  | none | some .readId => rfl
  | some (.readEntry n) => simp [readByte, readNumber]

@[simp] theorem policyFieldByte_eq (f : PolicyField) : policyFieldByte f = BitVec.ofNat 8 (fieldNumber f) := by
  match f with
  | .number f => cases f <;> rfl
  | .gate k => cases k <;> rfl
  | .writeCount => rfl

@[simp] theorem slotByte_eq (i : Slot) : slotByte i = BitVec.ofNat 8 i.val := rfl

/-! ### The parts of the payloads -/

@[simp] theorem spells_axes (a : Axes) : Spells (axesAs a) (axesBytes a) := by simp [axesAs, axesBytes]

@[simp] theorem spells_zone (z : Zone) : Spells (zoneAs z) (zoneBytes z) := by
  simp [zoneAs, zoneBytes, chairSetByte]

@[simp] theorem spells_gate (g : Gate) : Spells (gateAs g) (gateBytes g) := by
  have control : withSpare .gateControl 3#8 ((if g.sense = .differ then 1#8 else 0#8) ||| (if g.wait then 2#8 else 0#8)) &&& 3#8 =
      BitVec.ofNat 8 (yes (g.sense == .differ) + 2 * yes g.wait) := by
    rw [withSpare_and]
    generalize g.sense = sense, g.wait = wait
    cases sense <;> cases wait <;> decide
  cases hp : g.phase <;> simp [gateAs, gateBytes, hp, control, natByte_eq]

@[simp] theorem spells_fieldValue (v : FieldValue) : Spells (valueAs v) (fieldValueBytes v) := by
  cases v <;> simp [valueAs, fieldValueBytes]

@[simp] theorem spells_aux (aux : List Int) : Spells (aux.flatMap halfAs) (auxBytes aux) := Spells.flatMap spells_intHalf aux

theorem sampleDiscretes_and (m : Sample) :
    withSpare .axisDiscretes 0x3F#8
      ((if m.enable then 1#8 else 0#8) ||| (if m.brakeReq then 2#8 else 0#8) ||| (if m.horn then 4#8 else 0#8) |||
        (if m.lights then 8#8 else 0#8) ||| (natByte (gearValue m.gear) <<< 4)) &&& 0x3F#8 =
      BitVec.ofNat 8 (yes m.enable + 2 * yes m.brakeReq + 4 * yes m.horn + 8 * yes m.lights + 16 * gearNumber m.gear) := by
  rw [withSpare_and]
  generalize m.enable = enable, m.brakeReq = brake, m.horn = horn, m.lights = lights, m.gear = gear
  cases gear <;> revert enable brake horn lights <;> decide

@[simp] theorem spells_sample (m : Sample) :
    Spells (axesAs m.axes ++ bitsAs 0x3F (yes m.enable + 2 * yes m.brakeReq + 4 * yes m.horn + 8 * yes m.lights + 16 * gearNumber m.gear))
      (sampleBytes m) := by
  simp [sampleBytes, sampleDiscretes_and]

theorem callItem_and (c : Call) :
    callItemByte c &&& 0xBF#8 = BitVec.ofNat 8 (c.slot.val + 16 * reasonNumber c.reason + 128 * yes c.reserved) := by
  rw [callItemByte, withSpare_and]
  generalize c.slot = i, c.reason = r, c.reserved = b
  cases r <;> cases b <;> revert i <;> decide

@[simp] theorem spells_callItems (calls : List Call) :
    Spells
      (calls.flatMap fun k =>
        bitsAs 0xBF (k.slot.val + 16 * reasonNumber k.reason + 128 * yes k.reserved) ++ byteAs k.declined.toNat)
      (calls.flatMap fun c => [callItemByte c, chairSetByte c.declined]) :=
  Spells.flatMap (fun c => by simp [callItem_and, chairSetByte]) calls

theorem zoneItem_slot (i : Slot) (x : EntryState) :
    (slotByte i <<< 4) ||| entryStateByte x = BitVec.ofNat 8 (16 * i.val + entryStateNumber x) := by
  cases x <;> revert i <;> decide

theorem zoneItem_and (p : Option Party) (b : Bool) :
    withSpare .zoneItem 0x87#8 (partyByte p ||| (if b then 0x80#8 else 0#8)) &&& 0x87#8 = BitVec.ofNat 8 (partyNumber p + 128 * yes b) := by
  rw [withSpare_and]
  match p with
  | none | some .auto => cases b <;> rfl
  | some (.chair c) => cases b <;> revert c <;> decide

@[simp] theorem spells_zoneItems (items : List ZoneItem) :
    Spells
      (items.flatMap fun z =>
        byteAs (16 * z.slot.val + entryStateNumber z.state) ++ bitsAs 0x87 (partyNumber z.holder + 128 * yes z.zoneDrop))
      (items.flatMap zoneItemBytes) :=
  Spells.flatMap (fun z => by rw [zoneItemBytes, zoneItem_slot]; simp [-partyByte_eq, zoneItem_and]) items

@[simp] theorem spells_stack (st : List Party) :
    Spells
      ([0, 1, 2, 3].flatMap fun k =>
        byteAs (match st[k]? with
          | some p => partyNumber (some p)
          | none => 0xFF))
      (stackBytes st) := by
  have byte (k : Nat) :
      Spells (byteAs (match st[k]? with
          | some p => partyNumber (some p)
          | none => 0xFF))
        [match st[k]? with
          | some p => partyByte (some p)
          | none => 0xFF#8] := by
    cases st[k]? <;> simp
  exact (byte 0).append ((byte 1).append ((byte 2).append ((byte 3).append spells_nil)))

/-! ### The payloads -/

theorem spells_content (x : Content) : Spells (contentAs x) (contentBytes x) := by
  match x with
  | .nothing => exact spells_nil
  | .slot b => simp [contentAs, contentBytes]
  | .zoneStored z r => simp [contentAs, contentBytes, natByte_eq]
  | .policyStored f v n => simp [contentAs, contentBytes]
  | .acknowledged fl n => simp [contentAs, contentBytes, natByte_eq]
  | .entryState st halted drop => simp [contentAs, contentBytes, yesAs]
  | .holder p => simp [contentAs, contentBytes]
  | .handover none | .handover (some h) => simp [contentAs, contentBytes, presentAs, handoverBytes, yesAs]
  | .stack st => exact spells_stack st
  | .status none | .status (some ls) => simp [contentAs, contentBytes, presentAs, statusBytes, natByte_eq]
  | .applied a lights none | .applied a lights (some r) => simp [contentAs, contentBytes, presentAs, rampBytes, natByte_eq, yesAs]
  | .callOf n none | .callOf n (some (pos, c)) => simp [contentAs, contentBytes, presentAs, natByte_eq, yesAs, chairSetByte]
  | .unit u used stage rd refusal =>
    cases stage <;> cases refusal <;> simp [contentAs, contentBytes, refusalBytes, yesAs]
  | .name none | .name (some (n, period, wd)) => simp [contentAs, contentBytes, presentAs, nameBytes]
  | .descriptor none | .descriptor (some (d, none)) | .descriptor (some (d, some g)) =>
    simp [contentAs, contentBytes, presentAs, descriptorBytes, gainBytes]
  | .chairState st latch => simp [contentAs, contentBytes, yesAs]
  | .presence p grace m => simp [contentAs, contentBytes, yesAs]
  | .loader .none | .loader (.driving i halted) | .loader (.target i k p) => simp [contentAs, contentBytes, chairLoaderBytes, yesAs]
  | .flags fl => simp [contentAs, contentBytes]
  | .errorCount n => simp [contentAs, contentBytes, natByte_eq]
  | .queue p calls => simp [contentAs, contentBytes, natByte_eq]
  | .zone r items => simp [contentAs, contentBytes, natByte_eq]
  | .policy f v => simp [contentAs, contentBytes]

theorem spells_answer (a : Answer) :
    Spells (byteAs (requestNumber a.kind) ++ byteAs a.tag.val ++ byteAs (codeNumber a.code) ++ contentAs a.content) (answerPayload a) := by
  simp [answerPayload, natByte_eq, spells_content]

theorem tripFaults_and (watchdog estop : Bool) :
    withSpare .tripFaults 0x03#8 ((if watchdog then 1#8 else 0#8) ||| (if estop then 2#8 else 0#8)) &&& 0x03#8 =
      BitVec.ofNat 8 (yes watchdog + 2 * yes estop) := by
  rw [withSpare_and]
  cases watchdog <;> cases estop <;> decide

theorem spells_notice (n : Notice) : Spells (noticeAs n) (noticePayload n) := by
  match n with
  | .offer i u z p k (.call r) => simp [noticeAs, noticePayload, natByte_eq, originByte]
  | .offer i u z p k (.chair c) => simp [noticeAs, noticePayload, natByte_eq, originByte]
  | .offerWithdrawn i c | .abandoned i c | .lost i c => simp [noticeAs, noticePayload]
  | .holding i k src => simp [noticeAs, noticePayload]
  | .zone i z b => simp [noticeAs, noticePayload, natByte_eq, yesAs]
  | .unserved i r z n => simp [noticeAs, noticePayload, natByte_eq]
  | .tripped i u wd es left h => simp [noticeAs, noticePayload, tripFaults_and]
  | .linkLost i u left h => simp [noticeAs, noticePayload]
  | .refused i u r => simp [noticeAs, noticePayload]
  | .rebound i old new => simp [noticeAs, noticePayload]
  | .slotsFull u => simp [noticeAs, noticePayload]
  | .zoneDrop i c z => simp [noticeAs, noticePayload, natByte_eq]

theorem indicators_and (f : StatusFrame) :
    withSpare .statusIndicators 0x03#8 ((if f.capped then 1#8 else 0#8) ||| (if f.rampActive then 2#8 else 0#8)) &&& 0x03#8 =
      BitVec.ofNat 8 (yes f.capped + 2 * yes f.rampActive) := by
  rw [withSpare_and]
  cases f.capped <;> cases f.rampActive <;> decide

theorem spells_status (f : StatusFrame) :
    Spells
      (byteAs f.slot.val ++ byteAs f.status.phase.val ++ byteAs f.status.flags.toNat ++ halfAs f.status.speed ++ byteAs f.status.zone.val ++
        axesAs f.applied ++ bitsAs 0x03 (yes f.capped + 2 * yes f.rampActive) ++ f.status.aux.flatMap halfAs)
      (statusPayload f) := by
  simp [statusPayload, natByte_eq, indicators_and]

theorem spells_bytes (payload : List Byte) : Spells (payload.flatMap fun b => byteAs b.toNat) payload := by
  have each := Spells.flatMap (f := fun b : Byte => byteAs b.toNat) (g := fun b => [b]) (fun b => by simp) payload
  rwa [List.flatMap_singleton'] at each

/-! ### The frames -/

theorem sends_of_spells {kind : Byte} {ws : List Written} {payload : List Byte} (h : Spells ws payload) :
    Sends (kind, ws) (frameBytes kind payload) :=
  ⟨payload, h, by rw [frameBytes, bytesOfHalf_eq, crc_eq_crcOfBits]; rfl⟩

theorem sends_portFrame (f : PortFrame) : Sends (portFrameAs f) (portFrameBytes f) :=
  match f with
  | .answer a => sends_of_spells (spells_answer a)
  | .notice n => sends_of_spells (spells_notice n)
  | .status f => sends_of_spells (spells_status f)

theorem sends_fleetFrame (f : FleetFrame) : Sends (fleetFrameAs f) (fleetFrameBytes f) :=
  match f with
  | .command _ u mode payload => sends_of_spells (by simp [spells_bytes])
  | .read _ u .readId => sends_of_spells (spells_unit u)
  | .read _ u (.readEntry n) => sends_of_spells (by simp)

/-! ### Departures -/

theorem exec_fleetFrameDepart_of_unready {s : State} (hq : s.Quiet) (h : s.gatewayReady = false) :
    exec .fleetFrameDepart s = .next s := by
  have kept := event_eq_of_quiet hq (f := fun s =>
    match s.gatewayReady, s.fleetQueue with
    | true, f :: q => fleetDeparted f { s with fleetQueue := q, fleetSending := fleetFrameBytes f }
    | _, _ => s) (by simp [h])
  exact congrArg Host.Outcome.next (kept.trans (by simp [h]))

theorem fleetDeparted_dispatchDue (f : FleetFrame) (s : State) : (fleetDeparted f s).dispatchDue = s.dispatchDue := by
  unfold fleetDeparted
  split
  · rfl
  · split <;> rfl

theorem exec_fleetFrameDepart_of_ready {s : State} {f : FleetFrame} {q : List FleetFrame} (hq : s.Quiet) (h : s.gatewayReady = true)
    (waiting : s.fleetQueue = f :: q) :
    exec .fleetFrameDepart s = .next (fleetDeparted f { s with fleetQueue := q, fleetSending := fleetFrameBytes f }) := by
  have kept := event_eq_of_quiet hq (f := fun s =>
    match s.gatewayReady, s.fleetQueue with
    | true, f :: q => fleetDeparted f { s with fleetQueue := q, fleetSending := fleetFrameBytes f }
    | _, _ => s) (by simp [h, waiting, fleetDeparted_dispatchDue])
  exact congrArg Host.Outcome.next (kept.trans (by simp [h, waiting]))

theorem exec_portFrameDepart {s : State} {p : Port} {f : PortFrame} {q : List PortFrame} (hq : s.Quiet)
    (waiting : (s.port p).queue = f :: q) :
    exec (.portFrameDepart p) s = .next (s.setPort p { s.port p with queue := q, sending := portFrameBytes f }) := by
  have kept := event_eq_of_quiet hq (f := fun s =>
    match (s.port p).queue with
    | [] => s
    | f :: q => s.modPort p fun r => { r with queue := q, sending := portFrameBytes f })
    (by simp [waiting, State.modPort, setPort_dispatchDue])
  exact congrArg Host.Outcome.next (kept.trans (by simp [waiting, State.modPort]))

end Sys2Proof.Machine

namespace Sys2Proof.Settled
open Sys2Proof.Machine

/-- Settles O41: each departure is one event that leaves the dispatcher's flag clear, and each payload is read against its layout field by
field. -/
theorem framesDepart : Obligations.FramesDepart := by
  refine ⟨fun s b hq => ?ready, fun s f q hq waiting => ⟨exec_fleetFrameDepart_of_unready hq, fun asserted => ?fleet⟩,
    fun s p f q hq waiting => exec_portFrameDepart hq waiting, sends_portFrame, sends_fleetFrame⟩
  case ready => exact congrArg Host.Outcome.next (event_eq_of_quiet hq (f := fun s => { s with gatewayReady := b }) rfl)
  case fleet =>
    rw [exec_fleetFrameDepart_of_ready hq asserted waiting]
    cases f <;> rfl

end Sys2Proof.Settled
end


section
/-! SUPPORT. A link that goes OFFLINE: what its chair loses, the frames the other chairs receive, and the call that stays (R89, R91). -/

namespace Sys2Proof.Machine

variable {s u t : State} {c : ChairId} {i j : Slot}

/-! ### What the chair's own port takes meanwhile (R89) -/

/-- A port that has only taken frames: its flags, its count and the frame being sent stand, and at most `n` answers and notices wait. -/
structure PortRegs.Unmarked (n : Nat) (p q : PortRegs) : Prop where
  flags : q.flags = p.flags
  errors : q.errors = p.errors
  sending : q.sending = p.sending
  outstanding : q.outstanding = none
  waiting : waitingAnswers q.queue ≤ n

theorem PortRegs.Unmarked.weaken {n m : Nat} {p q : PortRegs} (h : p.Unmarked n q) (le : n ≤ m) : p.Unmarked m q :=
  { h with waiting := h.waiting.trans le }

theorem PortRegs.Unmarked.enqueue {n : Nat} {p q : PortRegs} (h : p.Unmarked n q) (room : n < 15) {f : PortFrame}
    (reports : f.isStatus = false) : p.Unmarked (n + 1) (q.enqueue f) := by
  rw [enqueue_answerOrNotice f q reports, if_pos (h.waiting.trans_lt room)]
  refine ⟨h.flags, h.errors, h.sending, h.outstanding, ?_⟩
  rw [waitingAnswers_append]
  refine Nat.add_le_add h.waiting ?_
  cases f <;> simp [waitingAnswers, PortFrame.isStatus]

theorem abandon_unmarked {n : Nat} {p : PortRegs} (h : p.Unmarked n (s.chair c).port) (room : n < 15) (i : Slot) (cause : Code) :
    p.Unmarked (n + 1) ((abandon i cause s).chair c).port := by
  cases hh : (s.entry i).handover with
  | none =>
    rw [abandon_of_none cause hh]
    exact h.weaken (Nat.le_succ n)
  | some r =>
    rw [abandon_chair cause hh]
    have settled : (if r.target = .chair c then (s.chair c).settled else s.chair c).port = (s.chair c).port := by split <;> rfl
    have answered (x : Chair) (silent : x.port.outstanding = none) : (if r.requester = some c then x.answered cause else x) = x := by
      rw [Chair.answered, silent]
      exact ite_id _
    unfold Chair.abandoned
    dsimp only
    rw [answered _ (by rw [settled]; exact h.outstanding)]
    split
    · exact PortRegs.Unmarked.enqueue (q := (if r.target = .chair c then (s.chair c).settled else s.chair c).port) (settled.symm ▸ h) room
        (f := .notice _) rfl
    · exact (settled.symm ▸ h).weaken (Nat.le_succ n)

theorem leave_unmarked {n : Nat} {p : PortRegs} (h : p.Unmarked n (s.chair c).port) (room : n + 1 < 15) (i : Slot) (cause lost : Code)
    (f : Entry → Entry) : p.Unmarked (n + 2) ((leave i cause (some lost) f s).chair c).port := by
  have ended := abandon_unmarked h (Nat.lt_of_succ_lt room) i cause
  rw [leave_chair]
  split
  · exact ended.enqueue room (f := .notice (.lost i lost)) rfl
  · exact ended.weaken (Nat.le_succ _)

/-! ### What a chair loses -/

/-- The chair's loader dropped, then the handover that targets it abandoned. -/
def untied (c : ChairId) (s : State) : State := targetingAbandoned c (holdingDropped c s)

/-- An entry whose holder is lost with its link. -/
def Entry.freed (e : Entry) : Entry := { e with state := .free, holder := none, ramp := none, zoneDrop := false }

theorem holdingDropped_of_held (held : s.heldSlot c = some i) : holdingDropped c s = dropHolder i .link s := by
  rw [holdingDropped, held]

theorem holdingDropped_of_none (held : s.heldSlot c = none) : holdingDropped c s = s := by
  rw [holdingDropped, held]

theorem targetingAbandoned_of_target (target : s.targetSlot c = some i) : targetingAbandoned c s = abandon i .targetOffline s := by
  rw [targetingAbandoned, target]

theorem targetingAbandoned_of_none (target : s.targetSlot c = none) : targetingAbandoned c s = s := by
  rw [targetingAbandoned, target]

theorem holdingDropped_entry (c : ChairId) (s : State) (j : Slot) :
    (holdingDropped c s).entry j = if s.heldSlot c = some j then { (s.entry j).freed with handover := none } else s.entry j := by
  cases held : s.heldSlot c with
  | none => rw [holdingDropped_of_none held, if_neg nofun]
  | some i =>
    rw [holdingDropped_of_held held, dropHolder, leave_entry]
    simp only [Option.some.injEq]
    rfl

/-- An abandonment takes a record at most. -/
theorem targetingAbandoned_entry (c : ChairId) (s : State) (j : Slot) :
    (targetingAbandoned c s).entry j = if s.targetSlot c = some j then { s.entry j with handover := none } else s.entry j := by
  cases target : s.targetSlot c with
  | none => rw [targetingAbandoned_of_none target, if_neg nofun]
  | some i =>
    rw [targetingAbandoned_of_target target, abandon_entry]
    simp only [Option.some.injEq]

theorem targetingAbandoned_sameButRecord (c : ChairId) (s : State) (j : Slot) :
    SameButRecord (s.entry j) ((targetingAbandoned c s).entry j) := by
  rw [targetingAbandoned_entry]
  split <;> rfl

theorem untied_of_held (held : s.heldSlot c = some i) : SameButRecord (s.entry i).freed ((untied c s).entry i) := by
  have ended := targetingAbandoned_sameButRecord c (holdingDropped c s) i
  rw [holdingDropped_entry, if_pos held] at ended
  exact ended

theorem untied_of_not_held (held : s.heldSlot c ≠ some i) : SameButRecord (s.entry i) ((untied c s).entry i) := by
  have ended := targetingAbandoned_sameButRecord c (holdingDropped c s) i
  rw [holdingDropped_entry, if_neg held] at ended
  exact ended

/-- The first that passes a test stays the first where fewer pass. -/
theorem find?_of_fewer {α : Type} {p q : α → Bool} {l : List α} {a : α} (found : l.find? p = some a) (passes : q a = true)
    (fewer : ∀ b, q b = true → p b = true) : l.find? q = some a := by
  obtain ⟨-, front, back, split, none⟩ := List.find?_eq_some_iff_append.1 found
  refine List.find?_eq_some_iff_append.2 ⟨passes, front, back, split, fun b hb => ?_⟩
  have fails := none b hb
  rw [Bool.not_eq_true'] at fails ⊢
  exact Bool.eq_false_iff.2 fun h => Bool.eq_false_iff.1 fails (fewer b h)

/-- The record that targets the chair is gone, with the chair's loader or by itself. -/
theorem untied_handover (target : s.targetSlot c = some i) : ((untied c s).entry i).handover = none := by
  rw [untied, targetingAbandoned_entry]
  have targets (j : Slot) (h : ((holdingDropped c s).entry j).targets c = true) : (s.entry j).targets c = true := by
    rw [holdingDropped_entry] at h
    split at h
    · cases h
    · exact h
  by_cases held : s.heldSlot c = some i
  · rw [holdingDropped_entry, if_pos held]
    split <;> rfl
  · have stands : ((holdingDropped c s).entry i).targets c = true := by
      rw [holdingDropped_entry, if_neg held]
      exact targets_of_targetSlot target
    have still : (holdingDropped c s).targetSlot c = some i := find?_of_fewer target stands targets
    rw [if_pos still]

theorem untied_port {p : PortRegs} (h : p.Unmarked 0 (s.chair c).port) : p.Unmarked 3 ((untied c s).chair c).port := by
  have dropped : p.Unmarked 2 ((holdingDropped c s).chair c).port := by
    unfold holdingDropped
    split
    · exact leave_unmarked h (by decide) ..
    · exact h.weaken (by decide)
  unfold untied targetingAbandoned
  split
  · exact abandon_unmarked dropped (by decide) ..
  · exact dropped.weaken (by decide)

theorem untied_elsewhere (c : ChairId) (s : State) : SameElsewhere s (untied c s) := by
  have dropped : SameElsewhere s (holdingDropped c s) := by
    unfold holdingDropped
    split
    · exact dropHolder_elsewhere ..
    · exact .refl s
  refine dropped.trans ?_
  unfold untied targetingAbandoned
  split
  · exact abandon_elsewhere ..
  · exact .refl _

theorem leave_sameButOffer (i : Slot) (cause lost : Code) (f : Entry → Entry) (s : State) (d : ChairId) :
    SameButOffer (s.chair d) ((leave i cause (some lost) f s).chair d) := by
  rw [leave_chair]
  exact sameButOffer_ite (sameButOffer_trans (abandon_sameButOffer ..) rfl) (abandon_sameButOffer ..)

theorem untied_sameButOffer (c : ChairId) (s : State) (d : ChairId) : SameButOffer (s.chair d) ((untied c s).chair d) := by
  have dropped : SameButOffer (s.chair d) ((holdingDropped c s).chair d) := by
    unfold holdingDropped
    split
    · exact leave_sameButOffer ..
    · rfl
  refine sameButOffer_trans dropped ?_
  unfold untied targetingAbandoned
  split
  · exact abandon_sameButOffer ..
  · rfl

/-! ### One holder -/

/-- A chair that holds a loader is no target. -/
theorem State.Tied.untied_of_held (tied : s.Tied c) (held : s.heldSlot c = some i) : untied c s = dropHolder i .link s := by
  have free : (holdingDropped c s).targetSlot c = none := by
    cases before : s.targetSlot c with
    | some j => rw [tied.heldSlot_none before] at held; cases held
    | none =>
      refine targetSlot_none_of_records before fun j => ?_
      rw [holdingDropped_entry]
      split
      · exact .inr rfl
      · exact .inl rfl
  rw [untied, targetingAbandoned_of_none free, holdingDropped_of_held held]

theorem State.Tied.untied_of_target (tied : s.Tied c) (target : s.targetSlot c = some i) : untied c s = abandon i .targetOffline s := by
  rw [untied, holdingDropped_of_none (tied.heldSlot_none target), targetingAbandoned_of_target target]

/-- The frames of the others at the loss of a holder are those of the ending. -/
theorem queue_dropHolder {d : ChairId} (held : (s.entry i).heldBy c = true) (other : d ≠ c) (lost : Code)
    (up : (s.chair d).state ≠ .offline)
    (room : waitingAnswers (s.chair d).port.queue + (s.endFrames i .sourceLost d).length ≤ 15) :
    ((dropHolder i lost s).chair d).port.queue = (s.chair d).port.queue ++ s.endFrames i .sourceLost d := by
  have holder : (s.entry i).holder = some (.chair c) := ((heldBy_iff _ _).1 held).2
  rw [dropHolder, leave_chair, if_neg fun h => other (Party.chair.inj (Option.some.inj (h.2.symm.trans holder)))]
  exact queue_abandon nofun up room

/-! ### The event -/

/-- The part after a chair's link has gone down: the chair untied and cut off, then the dispatcher. -/
def wentOffline (c : ChairId) (s : State) : State := finish ((untied c s).setChair c ((untied c s).chair c).cutOff).due

theorem finish_chairOffline (c : ChairId) (s : State) : finish (chairOffline c s) = wentOffline c (portWiped c s) := by
  rw [chairOffline_eq]
  rfl

theorem wentOffline_dispatched (c : ChairId) (s : State) :
    Dispatched { (untied c s).setChair c ((untied c s).chair c).cutOff with dispatchDue := false } (wentOffline c s) :=
  finish_dispatched ((untied c s).setChair c ((untied c s).chair c).cutOff).due

/-- The chair that went OFFLINE gets no offer. -/
theorem wentOffline_chair_self (c : ChairId) (s : State) : (wentOffline c s).chair c = ((untied c s).chair c).cutOff := by
  have cut : ((untied c s).setChair c ((untied c s).chair c).cutOff).chair c = ((untied c s).chair c).cutOff := State.chair_setChair_self ..
  rcases (wentOffline_dispatched c s).chair c with same | ⟨ready, -⟩
  · exact same.trans cut
  · have offline := (congrArg Chair.state cut).symm.trans ready
    cases offline

theorem wentOffline_chair_gone {p : PortRegs} (h : p.Unmarked 0 (s.chair c).port) :
    (wentOffline c s).chair c = Chair.gone p.flags p.errors p.sending := by
  have port := untied_port h
  rw [wentOffline_chair_self, ← port.flags, ← port.errors, ← port.sending]
  rfl

theorem wentOffline_sameButRecord (c : ChairId) (s : State) (i : Slot) :
    SameButRecord ((untied c s).entry i) ((wentOffline c s).entry i) := (wentOffline_dispatched c s).sameButRecord i

theorem wentOffline_sameButOffer {d : ChairId} (other : d ≠ c) : SameButOffer (s.chair d) ((wentOffline c s).chair d) := by
  have offered := (wentOffline_dispatched c s).sameButOffer d
  have kept : ((untied c s).setChair c ((untied c s).chair c).cutOff).chair d = (untied c s).chair d :=
    State.chair_setChair_of_ne _ _ other.symm
  exact sameButOffer_trans (untied_sameButOffer c s d) (kept ▸ offered)

theorem wentOffline_elsewhere (c : ChairId) (s : State) : SameElsewhere s (wentOffline c s) :=
  (untied_elsewhere c s).trans (wentOffline_dispatched c s).elsewhere

/-- A chair's loader has no record after the event: its call, if it had one, would be another's. -/
theorem wentOffline_free (tied : s.Tied c) (held : s.heldSlot c = some i) (uncalled : i ∉ s.callers) :
    ((wentOffline c s).entry i).handover = none := by
  have dropped := tied.untied_of_held held
  have free : ((untied c s).entry i).handover = none := by
    rw [dropped, dropHolder, leave_entry, if_pos rfl]
    rfl
  have absent : i ∉ (untied c s).callers := by
    rw [dropped]
    exact fun called => uncalled (mem_callers_leave called).1
  rcases (wentOffline_dispatched c s).entry i with same | ⟨called, -⟩
  · rw [same]
    exact free
  · exact absurd called absent

/-- A record that is new after the event is an offer of the dispatcher to another chair. -/
theorem wentOffline_handover (free : ((untied c s).entry i).handover = none) {h : Handover}
    (record : ((wentOffline c s).entry i).handover = some h) : h.kind = .claim ∧ h.phase = .offering ∧ h.target ≠ .chair c := by
  rcases (wentOffline_dispatched c s).entry i with same | ⟨-, -, r, d, placed, kind, phase, target, -, ready⟩
  · rw [same] at record
    cases free.symm.trans record
  · rw [placed] at record
    cases record
    refine ⟨kind, phase, fun aimed => ?_⟩
    have same : d = c := Party.chair.inj (target.symm.trans aimed)
    have offline : (((untied c s).setChair c ((untied c s).chair c).cutOff).chair d).state = .offline := by
      rw [same, State.chair_setChair_self]
      rfl
    cases offline.symm.trans ready

theorem wentOffline_untargeted (free : ((untied c s).entry i).handover = none) : ((wentOffline c s).entry i).targets c = false := by
  unfold Entry.targets
  cases record : ((wentOffline c s).entry i).handover with
  | none => rfl
  | some h => exact beq_eq_false_iff_ne.2 (wentOffline_handover free record).2.2

/-- Frames that are in an untied state's queue of another chair wait there after the event. -/
theorem queue_wentOffline {d : ChairId} (other : d ≠ c) {q : List PortFrame} (h : ((untied c s).chair d).port.queue = q) :
    q <+: ((wentOffline c s).chair d).port.queue := by
  have kept : ((untied c s).setChair c ((untied c s).chair c).cutOff).chair d = (untied c s).chair d :=
    State.chair_setChair_of_ne _ _ other.symm
  rw [← h, ← kept]
  rcases (wentOffline_dispatched c s).chair d with same | ⟨-, -, n, offered⟩
  · rw [same]
    exact List.prefix_rfl
  · rw [offered]
    exact queue_isPrefix_enqueue _ _ rfl

/-- The call of a handover that ends with TARGET_OFFLINE is released where it stands. -/
theorem wentOffline_call (tied : s.Tied c) (target : s.targetSlot c = some i) {h : Handover} (record : (s.entry i).handover = some h)
    (attached : h.callAttached = true) {k : Call} (hk : k ∈ s.calls) (slot : k.slot = i) :
    ∃ k' ∈ (wentOffline c s).calls, k'.slot = i ∧ k'.reason = k.reason ∧
      (((wentOffline c s).entry i).handover = none → k'.reserved = false) ∧
      (hasChair k'.declined c = true → hasChair k.declined c = true) := by
  have released : k.released h .targetOffline ∈ (untied c s).calls := by
    rw [tied.untied_of_target target, abandon_calls_eq record, if_pos ⟨attached, rfl⟩]
    exact List.mem_map.2 ⟨k, hk, if_pos slot⟩
  have declined : (k.released h .targetOffline).declined = k.declined := by
    unfold Call.released
    dsimp only
    split <;> rfl
  obtain ⟨g, calls, revisited⟩ := (wentOffline_dispatched c s).calls
  obtain ⟨visit, reserved⟩ := revisited (k.released h .targetOffline)
  refine ⟨g (k.released h .targetOffline), calls ▸ List.mem_map_of_mem released, visit.slot.trans slot, visit.reason,
    fun free => ?_, fun joined => ?_⟩
  · exact reserved.elim id fun placed => absurd (slot ▸ free) placed
  · rcases visit.declined with same | emptied
    · rwa [same, declined] at joined
    · rw [emptied] at joined
      simp [hasChair] at joined

/-- Other than its own port the event sees the part as it was. -/
structure Emptied (s w : State) (c : ChairId) (p : PortRegs) : Prop where
  port : p.Unmarked 0 (w.chair c).port
  alone : ∃ x : Chair, x.state = (s.chair c).state ∧ w = s.setChair c x

theorem portWiped_emptied (s : State) (c : ChairId) : Emptied s (portWiped c s) c (s.chair c).port where
  port := by
    rw [portWiped, State.modPort, setPort_chair, State.chair_setChair_self]
    exact ⟨rfl, rfl, rfl, rfl, Nat.le_refl 0⟩
  alone := ⟨{ s.chair c with port := { (s.chair c).port with outstanding := none, queue := [] } }, rfl, rfl⟩

theorem portWiped_raise_emptied (s : State) (c : ChairId) (f : Sticky) :
    Emptied s (portWiped c (s.raise (.chair c) f)) c ((s.raise (.chair c) f).chair c).port where
  port := (portWiped_emptied (s.raise (.chair c) f) c).port
  alone := by
    have wiped : portWiped c (s.setChair c { s.chair c with port := (s.chair c).port.raise f }) =
        s.setChair c { s.chair c with port := { (s.chair c).port.raise f with outstanding := none, queue := [] } } := by
      rw [portWiped, State.modPort, setPort_chair, State.setChair_setChair]
      simp only [State.port, State.chair_setChair_self]
    exact ⟨{ s.chair c with port := { (s.chair c).port.raise f with outstanding := none, queue := [] } }, rfl, wiped⟩

theorem Emptied.entry {w : State} {p : PortRegs} (h : Emptied s w c p) (i : Slot) : w.entry i = s.entry i := by
  obtain ⟨x, -, rfl⟩ := h.alone
  rfl

theorem Emptied.calls {w : State} {p : PortRegs} (h : Emptied s w c p) : w.calls = s.calls := by
  obtain ⟨x, -, rfl⟩ := h.alone
  rfl

theorem Emptied.chair {w : State} {p : PortRegs} (h : Emptied s w c p) {d : ChairId} (other : d ≠ c) : w.chair d = s.chair d := by
  obtain ⟨x, -, rfl⟩ := h.alone
  exact State.chair_setChair_of_ne _ _ other.symm

theorem Emptied.elsewhere {w : State} {p : PortRegs} (h : Emptied s w c p) : SameElsewhere s w := by
  obtain ⟨x, -, rfl⟩ := h.alone
  exact setChair_elsewhere ..

theorem Emptied.tied {w : State} {p : PortRegs} (h : Emptied s w c p) (tied : s.Tied c) : w.Tied c := by
  obtain ⟨x, state, rfl⟩ := h.alone
  have same : ((s.setChair c x).chair c).state = (s.chair c).state := by rw [State.chair_setChair_self, state]
  exact ⟨fun ties => same.trans (tied.told ties), tied.once, fun loose => same ▸ tied.tied (same ▸ loose)⟩

theorem Emptied.heldSlot {w : State} {p : PortRegs} (h : Emptied s w c p) : w.heldSlot c = s.heldSlot c := by
  obtain ⟨x, -, rfl⟩ := h.alone
  rfl

theorem Emptied.targetSlot {w : State} {p : PortRegs} (h : Emptied s w c p) : w.targetSlot c = s.targetSlot c := by
  obtain ⟨x, -, rfl⟩ := h.alone
  rfl

theorem Emptied.endFrames {w : State} {p : PortRegs} (h : Emptied s w c p) (i : Slot) (cause : Code) {d : ChairId} (other : d ≠ c) :
    w.endFrames i cause d = s.endFrames i cause d := by
  unfold State.endFrames
  rw [h.entry, h.chair other]

/-- Silence, or the fourth bad frame in a row, takes the chair OFFLINE. -/
theorem exec_offline {cmd : Instr} (hq : s.Quiet)
    (ends : (cmd = .silenceExpiry (.chair c) ∧ (s.chair c).port.silence ≠ none ∧ u = s) ∨
      ∃ why, cmd = .badFrame (.chair c) why ∧ (s.chair c).state ≠ .offline ∧ (s.chair c).port.badRun = 3 ∧
        u = s.raise (.chair c) (badFrameFlag why)) :
    exec cmd s = .next (wentOffline c (portWiped c u)) ∧ Emptied s (portWiped c u) c (u.chair c).port ∧
      (u.chair c).port.sending = (s.chair c).port.sending := by
  rcases ends with ⟨rfl, running, rfl⟩ | ⟨why, rfl, up, run, rfl⟩
  · refine ⟨congrArg Host.Outcome.next ((event_of_quiet hq _).trans ?_), portWiped_emptied u c, rfl⟩
    rw [show u.port (.chair c) = (u.chair c).port from rfl, if_pos (Option.isSome_iff_ne_none.2 running)]
    exact finish_chairOffline c u
  · have port : ((s.raise (.chair c) (badFrameFlag why)).chair c).port = (s.chair c).port.raise (badFrameFlag why) := by
      rw [State.raise, State.modPort, setPort_chair, State.chair_setChair_self]
      rfl
    have online : (s.raise (.chair c) (badFrameFlag why)).online (.chair c) = true := by
      rw [online_raise]
      exact bne_iff_ne.2 up
    have fourth : ¬ ((s.raise (.chair c) (badFrameFlag why)).port (.chair c)).badRun + 1 < Config.badRunLimit := by
      rw [show (s.raise (.chair c) (badFrameFlag why)).port (.chair c) = (s.chair c).port.raise (badFrameFlag why) from port]
      show ¬ (s.chair c).port.badRun + 1 < 4
      rw [run]
      decide
    refine ⟨congrArg Host.Outcome.next ((event_of_quiet hq _).trans ?_), portWiped_raise_emptied s c _, by rw [port]; rfl⟩
    rw [takeBadFrame, if_pos online, if_neg fourth]
    exact finish_chairOffline c _

/-- Silence, or the fourth bad frame in a row, takes the service port OFFLINE. -/
theorem exec_serviceOffline {cmd : Instr} {r : PortRegs} (hq : s.Quiet)
    (ends : (cmd = .silenceExpiry .service ∧ s.service.port.silence ≠ none ∧ r = s.service.port) ∨
      ∃ why, cmd = .badFrame .service why ∧ s.service.online = true ∧ s.service.port.badRun = 3 ∧
        r = s.service.port.raise (badFrameFlag why)) :
    exec cmd s =
      .next { s with service := { online := false, port := { r with silence := none, badRun := 0, outstanding := none, queue := [] } } } := by
  rcases ends with ⟨rfl, running, rfl⟩ | ⟨why, rfl, up, run, rfl⟩
  · refine congrArg Host.Outcome.next ((event_of_quiet hq _).trans ?_)
    rw [show s.port .service = s.service.port from rfl, if_pos (Option.isSome_iff_ne_none.2 running)]
    exact finish_of_quiet hq
  · have online : (s.raise .service (badFrameFlag why)).online .service = true := by
      rw [online_raise]
      exact up
    have fourth : ¬ ((s.raise .service (badFrameFlag why)).port .service).badRun + 1 < Config.badRunLimit := by
      show ¬ s.service.port.badRun + 1 < 4
      rw [run]
      decide
    refine congrArg Host.Outcome.next ((event_of_quiet hq _).trans ?_)
    rw [takeBadFrame, if_pos online, if_neg fourth]
    exact finish_of_quiet hq

end Sys2Proof.Machine

namespace Sys2Proof.Settled
open Sys2Proof.Machine

/-- Settles O9: the chair with its port emptied first, untied and cut off; then what each other block sees of that. -/
theorem linksGoOffline : Obligations.LinksGoOffline := by
  refine ⟨fun s u c cmd hq ends => ?_, fun s cmd r hq ends => exec_serviceOffline hq ends⟩
  obtain ⟨run, emptied, sending⟩ := exec_offline hq ends
  generalize portWiped c u = w at run emptied
  refine ⟨wentOffline c w, run, ?gone, fun i held => ?freed, fun i target => ?untargeted, fun i held => ?others,
    fun callers one => ?lawful, fun d other => ?chairs, emptied.elsewhere.trans (wentOffline_elsewhere c w)⟩
  case gone => rw [wentOffline_chair_gone emptied.port, sending]
  case freed =>
    have ended := (untied_of_held (emptied.heldSlot.trans held)).trans (wentOffline_sameButRecord c w i)
    rwa [emptied.entry] at ended
  case untargeted => exact wentOffline_untargeted (untied_handover (emptied.targetSlot.trans target))
  case others =>
    have ended := (untied_of_not_held (emptied.heldSlot ▸ held)).trans (wentOffline_sameButRecord c w i)
    rwa [emptied.entry] at ended
  case chairs => exact emptied.chair other ▸ wentOffline_sameButOffer other
  case lawful =>
    have tied : w.Tied c := emptied.tied ((chairFits_iff_tied s c).1 (one c))
    refine ⟨fun i held => ⟨?record, fun d other up room => ?dropped⟩, fun i target => ⟨fun d other up room => ?abandoned,
      fun h record => ?offer, fun h record attached k hk slot => ?call⟩⟩
    case record =>
      have before := emptied.heldSlot.trans held
      refine wentOffline_free tied before fun called => ?_
      obtain ⟨k, hk, slot⟩ := List.mem_map.1 called
      have auto := callers k (emptied.calls ▸ hk)
      rw [slot, held_of_heldSlot held] at auto
      cases auto
    case dropped =>
      have before := emptied.heldSlot.trans held
      have queue := queue_dropHolder (heldBy_of_heldSlot before) other .link (d := d)
      rw [emptied.chair other, emptied.endFrames i _ other] at queue
      exact queue_wentOffline other (tied.untied_of_held before ▸ queue up room)
    case abandoned =>
      have before := emptied.targetSlot.trans target
      have queue := queue_abandon (s := w) (i := i) (cause := .targetOffline) (d := d) nofun
      rw [emptied.chair other, emptied.endFrames i _ other] at queue
      exact queue_wentOffline other (tied.untied_of_target before ▸ queue up room)
    case offer => exact wentOffline_handover (untied_handover (emptied.targetSlot.trans target)) record
    case call =>
      exact wentOffline_call tied (emptied.targetSlot.trans target) ((congrArg _ (emptied.entry i)).trans record) attached
        (emptied.calls ▸ hk) slot

end Sys2Proof.Settled
end


section
/-! SUPPORT. One entry at a ZONE_SET: what the write makes of the entry, of its call and of each chair (R118, R121). -/

namespace Sys2Proof.Machine

variable {s v : State} {i : Slot} {z : ZoneId} {m : Zone} {d : ChairId} {e : Entry} {x : Chair} {n : Nat}

/-! ### What the write makes of an entry and of a chair -/

/-- A handover of the entry has a chair target that the zone does not allow (R53). -/
def Entry.barred (m : Zone) (e : Entry) : Bool :=
  match e.handover with
  | some h =>
    match h.target with
    | .chair t => !hasChair m.allowed t
    | .auto => false
  | none => false

/-- The zone does not allow the chair that holds the entry (R121). -/
def Entry.excluded (m : Zone) (e : Entry) : Bool :=
  match e.state, e.holder with
  | .held, some (.chair h) => !hasChair m.allowed h
  | _, _ => false

/-- The write ends the handover of an entry whose loader is in the zone. -/
def Entry.endsBy (m : Zone) (e : Entry) : Bool :=
  e.state.carries &&
    match m.state with
    | .closed => true
    | .opened => e.barred m

/-- The cause with which a zone's write ends handovers. -/
def Zone.cause (m : Zone) : Code :=
  match m.state with
  | .opened => .notPermitted
  | .closed => .zoneClosed

theorem Zone.cause_ne (m : Zone) : m.cause ≠ .declined := by
  unfold Zone.cause
  split <;> nofun

/-- An entry of the zone after the write. -/
def Entry.written (m : Zone) (e : Entry) : Entry :=
  match e.state.carries, m.state with
  | true, .closed => { e with state := .locked, holder := none, handover := none, ramp := none, zoneDrop := false }
  | true, .opened => { e with handover := if e.barred m then none else e.handover, zoneDrop := e.zoneDrop || e.excluded m }
  | false, .opened => if e.state = .locked then { e with state := .free, holder := none, ramp := none, zoneDrop := false } else e
  | false, .closed => e

/-- A chair after the end of a handover that the write ends. -/
def Chair.endedBy (m : Zone) (i : Slot) (e : Entry) (d : ChairId) (x : Chair) : Chair :=
  match e.handover with
  | some h => if e.endsBy m then x.abandoned i h m.cause d else x
  | none => x

/-- A holder after the write of its loader's zone: LOST from a closed one, the flag's notice from one that newly excludes it. -/
def Chair.heldIn (m : Zone) (z : ZoneId) (i : Slot) (e : Entry) (x : Chair) : Chair :=
  match m.state with
  | .closed => x.settled.queued (.notice (.lost i .zoneClosed))
  | .opened => if e.excluded m && !e.zoneDrop && x.state != .offline then x.queued (.notice (.zone i z true)) else x

/-- A chair after the write at one entry of the zone. -/
def Chair.written (m : Zone) (z : ZoneId) (i : Slot) (e : Entry) (d : ChairId) (x : Chair) : Chair :=
  if e.heldBy d then (x.endedBy m i e d).heldIn m z i e else x.endedBy m i e d

/-! ### The effect of the write at one entry -/

/-- The write at one entry of the zone, by the entry's state and the zone's. -/
theorem zoneWritten_of_apart (h : (s.entry i).zone? ≠ some z) : zoneWritten z s i = s := if_neg h

theorem zoneWritten_of_closed (hz : (s.entry i).zone? = some z) (carries : (s.entry i).state.carries = true)
    (closed : (s.zone z).state = .closed) : zoneWritten z s i = lock i s := by
  rw [zoneWritten, if_pos hz, closed]
  cases state : (s.entry i).state with
  | free | auto | held => rfl
  | _ => rw [state] at carries; cases carries

theorem zoneWritten_of_opened (hz : (s.entry i).zone? = some z) (carries : (s.entry i).state.carries = true)
    (opened : (s.zone z).state = .opened) : zoneWritten z s i = testHolderAtWrite i z (testTarget i s) := by
  rw [zoneWritten, if_pos hz, opened]
  cases state : (s.entry i).state with
  | free | auto | held => rfl
  | _ => rw [state] at carries; cases carries

theorem zoneWritten_of_locked (hz : (s.entry i).zone? = some z) (locked : (s.entry i).state = .locked)
    (opened : (s.zone z).state = .opened) : zoneWritten z s i = unlock i s := by
  rw [zoneWritten, if_pos hz, opened, locked]

theorem zoneWritten_of_idle (carries : (s.entry i).state.carries = false) (h : (s.entry i).state ≠ .locked ∨ (s.zone z).state = .closed) :
    zoneWritten z s i = s := by
  unfold zoneWritten
  split
  · cases state : (s.entry i).state with
    | free | auto | held => rw [state] at carries; cases carries
    | locked => rw [h.resolve_left (not_not_intro state)]
    | _ => cases (s.zone z).state <;> rfl
  · rfl

theorem allowedAt_of_zone (hz : (s.entry i).zone? = some z) (c : ChairId) : s.allowedAt i c = hasChair (s.zone z).allowed c := by
  rw [State.allowedAt, hz]

theorem testTarget_eq (hz : (s.entry i).zone? = some z) :
    testTarget i s = if (s.entry i).barred (s.zone z) then abandon i .notPermitted s else s := by
  unfold testTarget Entry.barred
  cases (s.entry i).handover with
  | none => rfl
  | some h =>
    cases target : h.target with
    | auto => simp [target]
    | chair t =>
      simp only [target, allowedAt_of_zone hz]
      cases hasChair (s.zone z).allowed t <;> rfl

theorem testHolderAtWrite_eq (hz : (s.entry i).zone? = some z) :
    testHolderAtWrite i z s =
      match (s.entry i).holder with
      | some (.chair c) => if (s.entry i).excluded (s.zone z) && !(s.entry i).zoneDrop then setZoneDrop i c z true s else s
      | _ => s := by
  unfold testHolderAtWrite Entry.excluded
  cases state : (s.entry i).state with
  | held =>
    rcases (s.entry i).holder with _ | ⟨_ | c⟩
    · rfl
    · simp only [allowedAt_of_zone hz]
    · rfl
  | _ =>
    rcases (s.entry i).holder with _ | ⟨_ | c⟩ <;> rfl

theorem excluded_of_held (held : e.heldBy d = true) : e.excluded m = !hasChair m.allowed d := by
  obtain ⟨state, holder⟩ := (heldBy_iff _ _).1 held
  rw [Entry.excluded, state, holder]

theorem excluded_of_unheld (unheld : ∀ c, e.heldBy c = false) : e.excluded m = false := by
  unfold Entry.excluded
  split
  next c state holder => cases (unheld c).symm.trans ((heldBy_iff e c).2 ⟨state, holder⟩)
  next => rfl

theorem testHolderAtWrite_of_excluded (hz : (s.entry i).zone? = some z) (held : (s.entry i).heldBy d = true)
    (newly : ((s.entry i).excluded (s.zone z) && !(s.entry i).zoneDrop) = true) :
    testHolderAtWrite i z s = setZoneDrop i d z true s := by
  rw [testHolderAtWrite_eq hz, ((heldBy_iff _ _).1 held).2]
  exact if_pos newly

theorem testHolderAtWrite_of_kept (hz : (s.entry i).zone? = some z)
    (kept : ((s.entry i).excluded (s.zone z) && !(s.entry i).zoneDrop) = false) : testHolderAtWrite i z s = s := by
  rw [testHolderAtWrite_eq hz]
  split
  · exact if_neg (by rw [kept]; exact Bool.false_ne_true)
  · rfl

theorem holder_of_excluded (h : e.excluded m = true) : ∃ c, e.heldBy c = true := by
  by_contra unheld
  cases h.symm.trans (excluded_of_unheld fun c => Bool.eq_false_iff.2 fun held => unheld ⟨c, held⟩)

/-- The test of the holder writes the flag and tells the holder. -/
theorem testHolderAtWrite_entry (hz : (s.entry i).zone? = some z) (j : Slot) :
    (testHolderAtWrite i z s).entry j =
      if i = j then { s.entry j with zoneDrop := (s.entry j).zoneDrop || (s.entry j).excluded (s.zone z) } else s.entry j := by
  cases newly : (s.entry i).excluded (s.zone z) && !(s.entry i).zoneDrop with
  | true =>
    obtain ⟨excluded, clear⟩ := Bool.and_eq_true_iff.1 newly
    obtain ⟨c, held⟩ := holder_of_excluded excluded
    rw [testHolderAtWrite_of_excluded hz held newly, setZoneDrop, State.notify, (send_table ..).entry, State.modEntry, State.entry_setEntry]
    split
    next same => rw [← same, excluded, Bool.or_true]
    next => rfl
  | false =>
    rw [testHolderAtWrite_of_kept hz newly]
    split
    next same =>
      have kept : ((s.entry i).zoneDrop || (s.entry i).excluded (s.zone z)) = (s.entry i).zoneDrop := by
        cases drop : (s.entry i).zoneDrop
        · simpa [drop] using newly
        · rfl
      rw [← same, kept]
    next => rfl

theorem testHolderAtWrite_chair (hz : (s.entry i).zone? = some z) (d : ChairId) :
    (testHolderAtWrite i z s).chair d =
      if (s.entry i).heldBy d ∧ ((s.entry i).excluded (s.zone z) && !(s.entry i).zoneDrop) = true ∧ (s.chair d).state ≠ .offline then
        (s.chair d).queued (.notice (.zone i z true))
      else s.chair d := by
  cases newly : (s.entry i).excluded (s.zone z) && !(s.entry i).zoneDrop with
  | true =>
    obtain ⟨c, held⟩ := holder_of_excluded (Bool.and_eq_true_iff.1 newly).1
    rw [testHolderAtWrite_of_excluded hz held newly, setZoneDrop, State.notify, chair_send_chair]
    by_cases same : c = d
    · subst same
      simp [held]
      rfl
    · have other : (s.entry i).heldBy d = false := Bool.eq_false_iff.2 fun also =>
        same (Party.chair.inj (Option.some.inj (((heldBy_iff _ _).1 held).2.symm.trans ((heldBy_iff _ _).1 also).2)))
      rw [if_neg (same ·.1), other, if_neg (Bool.false_ne_true ·.1)]
      rfl
  | false =>
    rw [testHolderAtWrite_of_kept hz newly, if_neg fun h => Bool.false_ne_true h.2.1]

theorem zoneWritten_entry (hm : s.zone z = m) (hz : (s.entry i).zone? = some z) :
    (zoneWritten z s i).entry i = (s.entry i).written m := by
  unfold Entry.written
  cases carries : (s.entry i).state.carries <;> cases mode : m.state
  case true.closed =>
    rw [zoneWritten_of_closed hz carries (hm ▸ mode), lock, leave_entry, if_pos rfl]
    rfl
  case true.opened =>
    rw [zoneWritten_of_opened hz carries (hm ▸ mode), testTarget_eq hz, hm]
    cases barred : (s.entry i).barred m with
    | true =>
      have entry := abandon_entry_self i .notPermitted s
      have zone : ((abandon i .notPermitted s).entry i).zone? = some z := by rw [entry]; exact hz
      rw [if_pos rfl, testHolderAtWrite_entry zone, if_pos rfl, entry, State.zone, (abandon_elsewhere ..).1]
      exact congrArg (fun m => { s.entry i with handover := none, zoneDrop := (s.entry i).zoneDrop || (s.entry i).excluded m }) hm
    | false =>
      rw [if_neg Bool.false_ne_true, testHolderAtWrite_entry hz, if_pos rfl, hm]
      rfl
  case false.opened =>
    by_cases locked : (s.entry i).state = .locked
    · rw [zoneWritten_of_locked hz locked (hm ▸ mode), unlock, State.modEntry, State.entry_setEntry, if_pos rfl, if_pos locked]
      rfl
    · rw [zoneWritten_of_idle carries (.inl locked), if_neg locked]
  case false.closed => rw [zoneWritten_of_idle carries (.inr (hm ▸ mode))]

theorem zoneWritten_entry_of_ne {j : Slot} (other : j ≠ i) (z : ZoneId) (s : State) : (zoneWritten z s i).entry j = s.entry j := by
  by_cases hz : (s.entry i).zone? = some z
  · cases carries : (s.entry i).state.carries <;> cases mode : (s.zone z).state
    case true.closed => rw [zoneWritten_of_closed hz carries mode, lock, leave_entry_of_ne other]
    case true.opened =>
      rw [zoneWritten_of_opened hz carries mode, testTarget_eq hz]
      split
      · have zone : ((abandon i .notPermitted s).entry i).zone? = some z := by rw [abandon_entry_self]; exact hz
        rw [testHolderAtWrite_entry zone, if_neg other.symm, abandon_entry_of_ne other]
      · rw [testHolderAtWrite_entry hz, if_neg other.symm]
    case false.opened =>
      by_cases locked : (s.entry i).state = .locked
      · rw [zoneWritten_of_locked hz locked mode, unlock, State.modEntry, State.entry_setEntry, if_neg other.symm]
      · rw [zoneWritten_of_idle carries (.inl locked)]
    case false.closed => rw [zoneWritten_of_idle carries (.inr mode)]
  · rw [zoneWritten_of_apart hz]

theorem endedBy_eq (m : Zone) (i : Slot) (s : State) (d : ChairId) :
    (s.chair d).endedBy m i (s.entry i) d = if (s.entry i).endsBy m then (abandon i m.cause s).chair d else s.chair d := by
  unfold Chair.endedBy
  cases hh : (s.entry i).handover with
  | none =>
    rw [abandon_of_none _ hh]
    exact (ite_id _).symm
  | some h => rw [abandon_chair _ hh]

theorem zoneWritten_chair (hm : s.zone z = m) (hz : (s.entry i).zone? = some z) (d : ChairId) :
    (zoneWritten z s i).chair d = (s.chair d).written m z i (s.entry i) d := by
  unfold Chair.written
  rw [endedBy_eq]
  cases carries : (s.entry i).state.carries with
  | true =>
    cases mode : m.state with
    | closed =>
      have ends : (s.entry i).endsBy m = true := by rw [Entry.endsBy, carries, mode]; rfl
      have cause : m.cause = .zoneClosed := by rw [Zone.cause, mode]
      rw [zoneWritten_of_closed hz carries (hm ▸ mode), lock, leave_chair, if_pos ends, cause, Chair.heldIn, mode]
      simp only [heldBy_iff]
    | opened =>
      have ends : (s.entry i).endsBy m = (s.entry i).barred m := by rw [Entry.endsBy, carries, mode]; rfl
      have cause : m.cause = .notPermitted := by rw [Zone.cause, mode]
      rw [zoneWritten_of_opened hz carries (hm ▸ mode), testTarget_eq hz, hm, ends, cause]
      have tested (u : State) (zone : (u.entry i).zone? = some z) (plan : u.zone z = m)
          (entry : ∃ r, u.entry i = { s.entry i with handover := r }) :
          (testHolderAtWrite i z u).chair d = if (s.entry i).heldBy d then (u.chair d).heldIn m z i (s.entry i) else u.chair d := by
        obtain ⟨r, entry⟩ := entry
        have held : (u.entry i).heldBy d = (s.entry i).heldBy d := by rw [entry]; rfl
        have excluded : (u.entry i).excluded m = (s.entry i).excluded m := by rw [entry]; rfl
        have drop : (u.entry i).zoneDrop = (s.entry i).zoneDrop := by rw [entry]
        rw [testHolderAtWrite_chair zone, plan, held, excluded, drop, Chair.heldIn, mode]
        cases (s.entry i).heldBy d
        · simp
        · simp [and_assoc]
      cases barred : (s.entry i).barred m with
      | true =>
        have entry := abandon_entry_self i .notPermitted s
        refine tested (abandon i .notPermitted s) (by rw [entry]; exact hz) ?_ ⟨none, entry⟩
        rw [State.zone, (abandon_elsewhere ..).1]
        exact hm
      | false => exact tested s hz hm ⟨_, rfl⟩
  | false =>
    have unheld : (s.entry i).heldBy d = false := Bool.eq_false_iff.2 fun held => Bool.false_ne_true (carries ▸ carries_of_heldBy held)
    have stays : (s.entry i).endsBy m = false := by rw [Entry.endsBy, carries]; rfl
    rw [unheld, stays, if_neg Bool.false_ne_true, if_neg Bool.false_ne_true]
    by_cases unlocks : (s.entry i).state = .locked ∧ m.state = .opened
    · rw [zoneWritten_of_locked hz unlocks.1 (hm ▸ unlocks.2)]
      rfl
    · rw [zoneWritten_of_idle carries]
      rw [hm]
      by_cases locked : (s.entry i).state = .locked
      · cases mode : m.state with
        | opened => exact absurd ⟨locked, mode⟩ unlocks
        | closed => exact .inr rfl
      · exact .inl locked

/-! ### What else the write leaves -/

theorem testTarget_elsewhere (i : Slot) (s : State) : SameElsewhere s (testTarget i s) := by
  unfold testTarget
  split
  · split
    · split
      · exact .refl s
      · exact abandon_elsewhere ..
    · exact .refl s
  · exact .refl s

theorem testHolderAtWrite_elsewhere (i : Slot) (z : ZoneId) (s : State) : SameElsewhere s (testHolderAtWrite i z s) := by
  unfold testHolderAtWrite
  split
  · split
    · exact notify_elsewhere ..
    · exact .refl s
  · exact .refl s

theorem zoneWritten_elsewhere (z : ZoneId) (s : State) (i : Slot) : SameElsewhere s (zoneWritten z s i) := by
  unfold zoneWritten
  split
  · split
    · exact lock_elsewhere ..
    · exact lock_elsewhere ..
    · exact lock_elsewhere ..
    · exact unlock_elsewhere ..
    · exact (testTarget_elsewhere i s).trans (testHolderAtWrite_elsewhere ..)
    · exact (testTarget_elsewhere i s).trans (testHolderAtWrite_elsewhere ..)
    · exact (testTarget_elsewhere i s).trans (testHolderAtWrite_elsewhere ..)
    · exact .refl s
  · exact .refl s

theorem zoneWritten_service (z : ZoneId) (s : State) (i : Slot) : (zoneWritten z s i).service = s.service := by
  have tested : (testHolderAtWrite i z (testTarget i s)).service = s.service := by
    have target : (testTarget i s).service = s.service := by
      unfold testTarget
      split
      · split
        · split
          · rfl
          · exact (abandon_service ..).2
        · rfl
      · rfl
    rw [← target]
    unfold testHolderAtWrite
    split
    · split
      · exact service_send_chair ..
      · rfl
    · rfl
  unfold zoneWritten
  split
  · split
    · exact leave_service ..
    · exact leave_service ..
    · exact leave_service ..
    · rfl
    · exact tested
    · exact tested
    · exact tested
    · rfl
  · rfl

/-- No call is new, and a closed zone's write leaves no call of the entry. -/
theorem zoneWritten_callers (z : ZoneId) (s : State) (i : Slot) {j : Slot} (called : j ∈ (zoneWritten z s i).callers) :
    j ∈ s.callers ∧ ((s.entry i).zone? = some z → (s.zone z).state = .closed → (s.entry i).state = .auto → j ≠ i) := by
  by_cases hz : (s.entry i).zone? = some z
  · cases carries : (s.entry i).state.carries <;> cases mode : (s.zone z).state
    case true.closed =>
      rw [zoneWritten_of_closed hz carries mode] at called
      obtain ⟨before, gone⟩ := mem_callers_leave called
      exact ⟨before, fun _ _ => gone⟩
    case true.opened =>
      rw [zoneWritten_of_opened hz carries mode] at called
      exact ⟨((testTarget_easesAt i s j).trans (testHolderAtWrite_easesAt ..)).caller called, fun _ closed => by cases closed⟩
    case false.opened =>
      refine ⟨?_, fun _ closed => by cases closed⟩
      by_cases locked : (s.entry i).state = .locked
      · rwa [zoneWritten_of_locked hz locked mode] at called
      · rwa [zoneWritten_of_idle carries (.inl locked)] at called
    case false.closed =>
      rw [zoneWritten_of_idle carries (.inr mode)] at called
      exact ⟨called, fun _ _ auto => by rw [auto] at carries; cases carries⟩
  · rw [zoneWritten_of_apart hz] at called
    exact ⟨called, fun zone => absurd zone hz⟩

end Sys2Proof.Machine
end


section
/-! SUPPORT. ZONE_SET: the plan, the entries of the zone in slot order, the frames of each chair, and what stays (R117, R118, R121). -/

namespace Sys2Proof.Machine

variable {s t v : State} {i : Slot} {z : ZoneId} {m : Zone} {d : ChairId} {e : Entry} {x : Chair} {n : Nat} {h : Handover}

/-! ### Room in a chair's queue -/

/-- A chair with room for the answer to its outstanding request and `n` more frames. -/
def Chair.Roomy (n : Nat) (x : Chair) : Prop :=
  waitingAnswers x.port.queue + (if x.port.outstanding = none then 0 else 1) + n ≤ 15

theorem Chair.Roomy.weaken {k : Nat} (h : x.Roomy n) (le : k ≤ n) : x.Roomy k := by
  unfold Chair.Roomy at h ⊢
  omega

theorem waitingAnswers_singleton {f : PortFrame} (reports : f.isStatus = false) : waitingAnswers [f] = 1 := by
  simp [waitingAnswers, reports]

theorem Chair.Roomy.queued (h : x.Roomy (n + 1)) {f : PortFrame} (reports : f.isStatus = false) :
    (x.queued f).Roomy n ∧ f ∈ (x.queued f).port.queue := by
  unfold Chair.Roomy at h ⊢
  have room : waitingAnswers x.port.queue < 15 := by omega
  rw [Chair.queued, enqueue_answerOrNotice f _ reports, if_pos room]
  refine ⟨?_, List.mem_append_right _ (List.mem_singleton.2 rfl)⟩
  dsimp only
  rw [waitingAnswers_append, waitingAnswers_singleton reports]
  omega

/-- The answer takes the room kept for it. -/
theorem Chair.Roomy.answered (h : x.Roomy n) (code : Code) : (x.answered code).Roomy n := by
  unfold Chair.answered
  cases asked : x.port.outstanding with
  | none => exact h
  | some o =>
    have kept : ({ x with port := { x.port with outstanding := none } } : Chair).Roomy (n + 1) := by
      unfold Chair.Roomy at h ⊢
      simp only [asked, reduceCtorEq, if_false] at h
      simp only [if_true]
      omega
    dsimp only
    split
    · exact kept.weaken (Nat.le_succ n)
    · exact (kept.queued rfl).1

theorem targets_eq (hh : e.handover = some h) : e.targets d = true ↔ h.target = .chair d := by
  rw [Entry.targets, hh]
  exact beq_iff_eq

/-- Every frame that waits still waits after the end of a handover. -/
theorem queue_answered (code : Code) (x : Chair) : x.port.queue <+: (x.answered code).port.queue := by
  unfold Chair.answered
  split
  · exact List.prefix_rfl
  · dsimp only
    split
    · exact List.prefix_rfl
    · exact queue_isPrefix_enqueue (.answer _) { x.port with outstanding := none } rfl

theorem answered_online (up : x.state ≠ .offline) (code : Code) : (x.answered code).state ≠ .offline := by
  unfold Chair.answered
  split
  · exact up
  · dsimp only
    split
    · exact up
    · exact up

/-! ### The end of a handover, at a chair -/

/-- The chair settled when it is the target, then answered when it asked. -/
def Chair.endAnswered (h : Handover) (cause : Code) (d : ChairId) (x : Chair) : Chair :=
  let y := if h.target = .chair d then x.settled else x
  if h.requester = some d then y.answered cause else y

/-- The notice of an ending to a chair target that did not ask for the handover. -/
def Handover.endNotice (i : Slot) (cause : Code) (h : Handover) : Notice :=
  match h.phase with
  | .offering => .offerWithdrawn i cause
  | .gating => .abandoned i cause

theorem Chair.abandoned_told (target : h.target = .chair d) (other : h.requester ≠ some d) :
    x.abandoned i h m.cause d = x.settled.queued (.notice (h.endNotice i m.cause)) := by
  unfold Chair.abandoned
  dsimp only
  rw [if_pos ⟨target, other, m.cause_ne⟩, if_neg other, if_pos target]
  rfl

theorem Chair.abandoned_untold (cause : Code) (h' : h.target ≠ .chair d ∨ h.requester = some d) :
    x.abandoned i h cause d = x.endAnswered h cause d :=
  if_neg fun told => h'.elim (· told.1) told.2.1

theorem Chair.Roomy.endAnswered (room : x.Roomy n) (h : Handover) (cause : Code) (d : ChairId) : (x.endAnswered h cause d).Roomy n := by
  have settled : (if h.target = .chair d then x.settled else x).Roomy n := by
    split
    · exact room
    · exact room
  unfold Chair.endAnswered
  dsimp only
  split
  · exact settled.answered cause
  · exact settled

theorem queue_endAnswered (h : Handover) (cause : Code) (d : ChairId) (x : Chair) :
    x.port.queue <+: (x.endAnswered h cause d).port.queue := by
  have settled : (if h.target = .chair d then x.settled else x).port.queue = x.port.queue := by split <;> rfl
  unfold Chair.endAnswered
  dsimp only
  rw [← settled]
  generalize (if h.target = .chair d then x.settled else x) = y
  split
  · exact queue_answered ..
  · exact List.prefix_rfl

theorem endAnswered_online (up : x.state ≠ .offline) (h : Handover) (cause : Code) (d : ChairId) :
    (x.endAnswered h cause d).state ≠ .offline := by
  have settled : (if h.target = .chair d then x.settled else x).state ≠ .offline := by
    split
    · exact Chair.settled_state_ne_offline _
    · exact up
  unfold Chair.endAnswered
  dsimp only
  split
  · exact answered_online settled _
  · exact settled

theorem endAnswered_sameButOffer (h : Handover) (cause : Code) (d : ChairId) (x : Chair) : SameButOffer x (x.endAnswered h cause d) := by
  have settled : SameButOffer x (if h.target = .chair d then x.settled else x) := sameButOffer_ite rfl rfl
  unfold Chair.endAnswered
  exact sameButOffer_ite (sameButOffer_trans settled (answered_sameButOffer ..)) settled

/-! ### The write, at a chair -/

theorem endedBy_of_none (hh : e.handover = none) : x.endedBy m i e d = x := by
  rw [Chair.endedBy, hh]

theorem endedBy_of_ends (hh : e.handover = some h) (ends : e.endsBy m = true) : x.endedBy m i e d = x.abandoned i h m.cause d := by
  rw [Chair.endedBy, hh]
  exact if_pos ends

theorem endedBy_of_stays (stays : e.endsBy m = false) : x.endedBy m i e d = x := by
  unfold Chair.endedBy
  split
  · exact if_neg (by rw [stays]; exact Bool.false_ne_true)
  · rfl

/-- What a chair may have become when a handover has ended: as it was, answered, or settled and told. -/
theorem endedBy_cases {P : Chair → Prop} (same : P x) (answered : ∀ h, e.handover = some h → P (x.endAnswered h m.cause d))
    (told : ∀ h, e.handover = some h → h.target = .chair d → h.requester ≠ some d → e.endsBy m = true →
      P (x.settled.queued (.notice (h.endNotice i m.cause)))) : P (x.endedBy m i e d) := by
  cases ends : e.endsBy m with
  | false => rwa [endedBy_of_stays ends]
  | true =>
    cases hh : e.handover with
    | none => rwa [endedBy_of_none hh]
    | some h =>
      rw [endedBy_of_ends hh ends]
      by_cases here : h.target = .chair d ∧ h.requester ≠ some d
      · rw [Chair.abandoned_told here.1 here.2]
        exact told h hh here.1 here.2 ends
      · rw [Chair.abandoned_untold]
        · exact answered h hh
        · exact (not_and_or.1 here).imp_right not_not.1

theorem heldIn_cases {P : Chair → Prop} (same : P x) (lost : m.state = .closed → P (x.settled.queued (.notice (.lost i .zoneClosed))))
    (told : x.state ≠ .offline → P (x.queued (.notice (.zone i z true)))) : P (x.heldIn m z i e) := by
  unfold Chair.heldIn
  split
  next closed => exact lost closed
  next opened =>
    split
    next newly => exact told (by simpa using (Bool.and_eq_true_iff.1 newly).2)
    next => exact same

theorem queue_queued (n : Notice) (x : Chair) : x.port.queue <+: (x.queued (.notice n)).port.queue := queue_isPrefix_enqueue _ _ rfl

theorem queue_endedBy (m : Zone) (i : Slot) (e : Entry) (d : ChairId) (x : Chair) :
    x.port.queue <+: (x.endedBy m i e d).port.queue :=
  endedBy_cases (P := fun y => x.port.queue <+: y.port.queue) List.prefix_rfl (fun _ _ => queue_endAnswered ..)
    fun _ _ _ _ _ => queue_queued _ x.settled

theorem queue_heldIn (m : Zone) (z : ZoneId) (i : Slot) (e : Entry) (x : Chair) : x.port.queue <+: (x.heldIn m z i e).port.queue :=
  heldIn_cases (P := fun y => x.port.queue <+: y.port.queue) List.prefix_rfl (fun _ => queue_queued _ x.settled) fun _ => queue_queued _ x

theorem queue_written (m : Zone) (z : ZoneId) (i : Slot) (e : Entry) (d : ChairId) (x : Chair) :
    x.port.queue <+: (x.written m z i e d).port.queue := by
  unfold Chair.written
  split
  · exact (queue_endedBy ..).trans (queue_heldIn ..)
  · exact queue_endedBy ..

theorem endedBy_online (up : x.state ≠ .offline) : (x.endedBy m i e d).state ≠ .offline :=
  endedBy_cases (P := fun y => y.state ≠ .offline) up (fun h _ => endAnswered_online up h _ d) fun _ _ _ _ _ => Chair.settled_state_ne_offline x

theorem written_online (up : x.state ≠ .offline) : (x.written m z i e d).state ≠ .offline := by
  have ended : (x.endedBy m i e d).state ≠ .offline := endedBy_online up
  unfold Chair.written
  split
  · exact heldIn_cases (P := fun y => y.state ≠ .offline) ended (fun _ => Chair.settled_state_ne_offline _) fun _ => ended
  · exact ended

theorem written_sameButOffer (m : Zone) (z : ZoneId) (i : Slot) (e : Entry) (d : ChairId) (x : Chair) :
    SameButOffer x (x.written m z i e d) := by
  have ended : SameButOffer x (x.endedBy m i e d) :=
    endedBy_cases (P := SameButOffer x) rfl (fun h _ => endAnswered_sameButOffer h _ d x) fun _ _ _ _ _ => rfl
  unfold Chair.written
  split
  · exact heldIn_cases (P := SameButOffer x) ended (fun _ => sameButOffer_trans ended rfl) fun _ => sameButOffer_trans ended rfl
  · exact ended

/-- Each entry that ties the chair sends it one frame at most, besides the answer to its request. -/
theorem Chair.Roomy.endedBy (room : x.Roomy ((if e.targets d then 1 else 0) + n)) : (x.endedBy m i e d).Roomy n := by
  refine endedBy_cases (P := Chair.Roomy n) (room.weaken (Nat.le_add_left ..))
    (fun h _ => (room.weaken (Nat.le_add_left ..)).endAnswered h _ d) fun h hh target _ _ => ?_
  rw [if_pos ((targets_eq hh).2 target), Nat.add_comm] at room
  exact (Chair.Roomy.queued (x := x.settled) room rfl).1

theorem Chair.Roomy.heldIn (room : x.Roomy (n + 1)) : (x.heldIn m z i e).Roomy n :=
  heldIn_cases (P := Chair.Roomy n) (room.weaken (Nat.le_succ n)) (fun _ => (Chair.Roomy.queued (x := x.settled) room rfl).1)
    fun _ => (room.queued rfl).1

/-- An entry the chair holds, or whose record targets it. -/
def Entry.bindsTo (d : ChairId) (e : Entry) : Bool := e.heldBy d || e.targets d

theorem Chair.Roomy.written (alone : e.heldBy d = true → e.targets d = false) (room : x.Roomy ((if e.bindsTo d then 1 else 0) + n)) :
    (x.written m z i e d).Roomy n := by
  unfold Chair.written
  unfold Entry.bindsTo at room
  cases held : e.heldBy d with
  | true =>
    rw [held, Bool.true_or, if_pos rfl] at room
    have unaimed : (if e.targets d then 1 else 0) + (n + 1) = 1 + n := by
      rw [alone held, if_neg Bool.false_ne_true]
      omega
    rw [if_pos rfl]
    exact (unaimed ▸ room : x.Roomy ((if e.targets d then 1 else 0) + (n + 1))).endedBy.heldIn
  | false =>
    rw [held, Bool.false_or] at room
    rw [if_neg Bool.false_ne_true]
    exact room.endedBy

/-! ### The frames of one entry's write -/

/-- The target that did not ask is told. -/
theorem told_written (hh : e.handover = some h) (ends : e.endsBy m = true) (target : h.target = .chair d) (other : h.requester ≠ some d)
    (room : x.Roomy (n + 1)) : PortFrame.notice (h.endNotice i m.cause) ∈ (x.written m z i e d).port.queue := by
  have ended : PortFrame.notice (h.endNotice i m.cause) ∈ (x.endedBy m i e d).port.queue := by
    rw [endedBy_of_ends hh ends, Chair.abandoned_told target other]
    exact (Chair.Roomy.queued (x := x.settled) room rfl).2
  unfold Chair.written
  split
  · exact (queue_heldIn ..).subset ended
  · exact ended

/-- The holder of an entry of a zone that closes learns that it lost it. -/
theorem lost_written (held : e.heldBy d = true) (alone : e.targets d = false) (closed : m.state = .closed) (room : x.Roomy (n + 1)) :
    PortFrame.notice (.lost i .zoneClosed) ∈ (x.written m z i e d).port.queue := by
  have ended : (x.endedBy m i e d).Roomy (n + 1) := by
    refine Chair.Roomy.endedBy ?_
    rw [alone, if_neg Bool.false_ne_true, Nat.zero_add]
    exact room
  rw [Chair.written, if_pos held, Chair.heldIn, closed]
  exact (Chair.Roomy.queued (x := (x.endedBy m i e d).settled) ended rfl).2

/-- A holder that an open zone newly excludes learns of its flag. -/
theorem flagged_written (held : e.heldBy d = true) (alone : e.targets d = false) (opened : m.state = .opened)
    (newly : (e.excluded m && !e.zoneDrop) = true) (up : x.state ≠ .offline) (room : x.Roomy (n + 1)) :
    PortFrame.notice (.zone i z true) ∈ (x.written m z i e d).port.queue := by
  have ended : (x.endedBy m i e d).Roomy (n + 1) := by
    refine Chair.Roomy.endedBy ?_
    rw [alone, if_neg Bool.false_ne_true, Nat.zero_add]
    exact room
  have online : ((x.endedBy m i e d).state != .offline) = true := bne_iff_ne.2 (endedBy_online up)
  rw [Chair.written, if_pos held, Chair.heldIn, opened]
  dsimp only
  rw [if_pos (by rw [newly, online]; rfl)]
  exact (ended.queued rfl).2

/-- The answer to a long request. -/
def Outstanding.answer (code : Code) (o : Outstanding) : PortFrame :=
  .answer { kind := o.kind, tag := o.tag, code := code, content := .slot (slotByte o.slot) }

/-- The request of the chair waits, or is answered with the cause. -/
def Chair.Asked (o : Outstanding) (code : Code) (x : Chair) : Prop := x.port.outstanding = some o ∨ o.answer code ∈ x.port.queue

theorem outstanding_queued (n : Notice) (x : Chair) : (x.queued (.notice n)).port.outstanding = x.port.outstanding := by
  obtain ⟨-, -, kept, -⟩ := enqueue_frame (.notice n) x.port
  exact kept

theorem Chair.Asked.queued {o : Outstanding} {code : Code} (asked : x.Asked o code) (n : Notice) : (x.queued (.notice n)).Asked o code :=
  asked.imp (outstanding_queued n x).trans fun answered => (queue_queued n x).subset answered

/-- The end of the handover that the chair asked for answers it. -/
theorem answered_of_asked {o : Outstanding} {code : Code} (asked : x.Asked o code) (up : x.state ≠ .offline) (room : x.Roomy 0) :
    o.answer code ∈ (x.answered code).port.queue := by
  rcases asked with waits | answered
  · rw [Chair.answered_of_outstanding code up waits]
    refine (Chair.Roomy.queued (x := { x with port := { x.port with outstanding := none } }) (n := 0) ?_ rfl).2
    unfold Chair.Roomy at room ⊢
    simp only [waits, reduceCtorEq, if_false] at room
    simp only [if_true]
    omega
  · exact (queue_answered code x).subset answered

theorem answered_endAnswered {o : Outstanding} {code : Code} (asked : x.Asked o code) (up : x.state ≠ .offline) (room : x.Roomy 0)
    (asks : h.requester = some d) : o.answer code ∈ (x.endAnswered h code d).port.queue := by
  rw [Chair.endAnswered, if_pos asks]
  split
  · exact answered_of_asked (x := x.settled) asked (Chair.settled_state_ne_offline x) room
  · exact answered_of_asked asked up room

theorem asked_endAnswered {o : Outstanding} {code : Code} (asked : x.Asked o code) (up : x.state ≠ .offline) (room : x.Roomy 0) (h : Handover) :
    (x.endAnswered h code d).Asked o code := by
  by_cases asks : h.requester = some d
  · exact .inr (answered_endAnswered asked up room asks)
  · rw [Chair.endAnswered, if_neg asks]
    split
    · exact asked
    · exact asked

theorem asked_endedBy {o : Outstanding} (asked : x.Asked o m.cause) (up : x.state ≠ .offline) (room : x.Roomy 0) :
    (x.endedBy m i e d).Asked o m.cause :=
  endedBy_cases (P := Chair.Asked o m.cause) asked (fun h _ => asked_endAnswered asked up room h)
    fun _ _ _ _ _ => Chair.Asked.queued (x := x.settled) asked _

theorem asked_written {o : Outstanding} (asked : x.Asked o m.cause) (up : x.state ≠ .offline) (room : x.Roomy 0) :
    (x.written m z i e d).Asked o m.cause := by
  have ended : (x.endedBy m i e d).Asked o m.cause := asked_endedBy asked up room
  unfold Chair.written
  split
  · exact heldIn_cases (P := Chair.Asked o m.cause) ended (fun _ => Chair.Asked.queued (x := (x.endedBy m i e d).settled) ended _)
      fun _ => ended.queued _
  · exact ended

theorem answered_written {o : Outstanding} (hh : e.handover = some h) (ends : e.endsBy m = true) (asks : h.requester = some d)
    (asked : x.Asked o m.cause) (up : x.state ≠ .offline) (room : x.Roomy 0) :
    o.answer m.cause ∈ (x.written m z i e d).port.queue := by
  have ended : o.answer m.cause ∈ (x.endedBy m i e d).port.queue := by
    rw [endedBy_of_ends hh ends, Chair.abandoned_untold _ (.inr asks)]
    exact answered_endAnswered asked up room asks
  unfold Chair.written
  split
  · exact (queue_heldIn ..).subset ended
  · exact ended

/-! ### The entries of the zone in slot order -/

/-- The chair after the write at slot `i` of `s`. -/
def writtenAt (m : Zone) (z : ZoneId) (d : ChairId) (s : State) (x : Chair) (i : Slot) : Chair :=
  if (s.entry i).zone? = some z then x.written m z i (s.entry i) d else x

theorem zoneWritten_chair_at (hm : s.zone z = m) (d : ChairId) (i : Slot) : (zoneWritten z s i).chair d = writtenAt m z d s (s.chair d) i := by
  unfold writtenAt
  split
  next hz => exact zoneWritten_chair hm hz d
  next hz => rw [zoneWritten_of_apart hz]

theorem zoneWritten_zone (z : ZoneId) (s : State) (i : Slot) (y : ZoneId) : (zoneWritten z s i).zone y = s.zone y := by
  rw [State.zone, (zoneWritten_elsewhere z s i).1]
  rfl

theorem zoneWritten_entry_at (hm : s.zone z = m) (i j : Slot) :
    (zoneWritten z s i).entry j = if i = j ∧ (s.entry j).zone? = some z then (s.entry j).written m else s.entry j := by
  by_cases same : i = j
  · subst same
    by_cases hz : (s.entry i).zone? = some z
    · rw [zoneWritten_entry hm hz, if_pos ⟨rfl, hz⟩]
    · rw [zoneWritten_of_apart hz, if_neg fun h => hz h.2]
  · rw [zoneWritten_entry_of_ne (Ne.symm same), if_neg fun h => same h.1]

/-- Each entry is written once, as it stood. -/
theorem foldl_zoneWritten_entry {l : List Slot} (nodup : l.Nodup) (hm : s.zone z = m) (j : Slot) :
    (l.foldl (zoneWritten z) s).entry j = if j ∈ l ∧ (s.entry j).zone? = some z then (s.entry j).written m else s.entry j := by
  induction l generalizing s with
  | nil => rw [if_neg fun h => List.not_mem_nil h.1]; rfl
  | cons i l ih =>
    obtain ⟨absent, rest⟩ := List.nodup_cons.1 nodup
    rw [List.foldl_cons, ih rest ((zoneWritten_zone ..).trans hm), zoneWritten_entry_at hm]
    by_cases same : i = j
    · subst same
      rw [if_neg fun h => absent h.1]
      simp
    · simp [same, Ne.symm same]

/-- Each chair sees the writes of the entries as they stood, in slot order. -/
theorem foldl_zoneWritten_chair {l : List Slot} (nodup : l.Nodup) (hm : v.zone z = m) (same : ∀ i ∈ l, v.entry i = s.entry i) (d : ChairId) :
    (l.foldl (zoneWritten z) v).chair d = l.foldl (writtenAt m z d s) (v.chair d) := by
  induction l generalizing v with
  | nil => rfl
  | cons i l ih =>
    obtain ⟨absent, rest⟩ := List.nodup_cons.1 nodup
    have kept (j : Slot) (hj : j ∈ l) : (zoneWritten z v i).entry j = s.entry j :=
      (zoneWritten_entry_of_ne (fun h : j = i => absent (h ▸ hj)) z v).trans (same j (List.mem_cons_of_mem i hj))
    have first : writtenAt m z d v (v.chair d) i = writtenAt m z d s (v.chair d) i := by
      rw [writtenAt, same i List.mem_cons_self]
      rfl
    rw [List.foldl_cons, List.foldl_cons, ih rest ((zoneWritten_zone ..).trans hm) kept, zoneWritten_chair_at hm, first]

theorem foldl_zoneWritten_elsewhere (z : ZoneId) (l : List Slot) (s : State) : SameElsewhere s (l.foldl (zoneWritten z) s) := by
  induction l generalizing s with
  | nil => exact .refl s
  | cons i l ih => exact (zoneWritten_elsewhere z s i).trans (ih _)

theorem foldl_zoneWritten_service (z : ZoneId) (l : List Slot) (s : State) : (l.foldl (zoneWritten z) s).service = s.service := by
  induction l generalizing s with
  | nil => rfl
  | cons i l ih => exact (ih _).trans (zoneWritten_service z s i)

/-- No call is new, and none of an entry of a zone that closes stays. -/
theorem foldl_zoneWritten_callers {l : List Slot} (nodup : l.Nodup) {j : Slot} (called : j ∈ (l.foldl (zoneWritten z) s).callers) :
    j ∈ s.callers ∧ (j ∈ l → (s.entry j).zone? = some z → (s.zone z).state = .closed → (s.entry j).state ≠ .auto) := by
  induction l generalizing s with
  | nil => exact ⟨called, fun mem => absurd mem List.not_mem_nil⟩
  | cons i l ih =>
    obtain ⟨absent, rest⟩ := List.nodup_cons.1 nodup
    obtain ⟨before, later⟩ := ih rest called
    obtain ⟨first, gone⟩ := zoneWritten_callers z s i before
    refine ⟨first, fun mem hz closed auto => ?_⟩
    rcases List.mem_cons.1 mem with rfl | mem
    · exact gone hz closed auto rfl
    · have entry := zoneWritten_entry_of_ne (fun h : j = i => absent (h ▸ mem)) z s
      exact later mem (by rw [entry]; exact hz) ((congrArg Zone.state (zoneWritten_zone z s i z)).trans closed) (by rw [entry]; exact auto)

/-! ### A chair's frames, over all slots -/

/-- What holds from the step at `a` on, an invariant of the steps before it given. -/
theorem foldl_reaches {α β : Type} {f : β → α → β} {P : β → Prop} {inv : List α → β → Prop} {a : α}
    (keep : ∀ b l x, inv (b :: l) x → inv l (f x b)) (hit : ∀ l x, inv (a :: l) x → P (f x a)) (stay : ∀ b x, P x → P (f x b)) :
    ∀ l x, a ∈ l → inv l x → P (l.foldl f x)
  | b :: l, x, mem, h => by
    have stays : ∀ (l : List α) (y : β), P y → P (l.foldl f y) := fun l y hy => by
      induction l generalizing y with
      | nil => exact hy
      | cons b l ih => exact ih _ (stay b y hy)
    by_cases same : a = b
    · subst same
      exact stays l _ (hit l x h)
    · exact foldl_reaches keep hit stay l _ ((List.mem_cons.1 mem).resolve_left same) (keep b l x h)

/-- Room for a frame of every entry of the list that binds the chair. -/
def ReadyFor (s : State) (d : ChairId) (l : List Slot) (x : Chair) : Prop := x.Roomy (l.countP fun i => (s.entry i).bindsTo d)

theorem ReadyFor.split {l : List Slot} (h : ReadyFor s d (i :: l) x) :
    x.Roomy ((if (s.entry i).bindsTo d then 1 else 0) + l.countP fun i => (s.entry i).bindsTo d) := by
  unfold ReadyFor at h
  rw [List.countP_cons, Nat.add_comm] at h
  exact h

theorem ReadyFor.step {l : List Slot} (alone : ∀ i, (s.entry i).heldBy d = true → (s.entry i).targets d = false)
    (h : ReadyFor s d (i :: l) x) : ReadyFor s d l (writtenAt m z d s x i) := by
  unfold writtenAt
  split
  · exact h.split.written (alone i)
  · exact h.split.weaken (Nat.le_add_left ..)

theorem ReadyFor.first {l : List Slot} (h : ReadyFor s d (i :: l) x) (binds : (s.entry i).bindsTo d = true) : x.Roomy (0 + 1) := by
  have room := h.split
  rw [if_pos binds] at room
  exact room.weaken (by omega)

/-- One holder: at most one entry binds the chair, and none twice. -/
theorem State.Tied.bindsTo_le (tied : s.Tied d) : (allSlots.countP fun i => (s.entry i).bindsTo d) ≤ 1 := by
  have ties {i : Slot} (h : (s.entry i).bindsTo d = true) : (s.entry i).ties d (s.chair d).state = true := by
    rcases Bool.or_eq_true_iff.1 h with held | target
    · have ties := ties_of_heldBy held
      rwa [← tied.told ties] at ties
    · obtain ⟨st, -, ties⟩ := ties_of_targets target
      rwa [← tied.told ties] at ties
  have count := (countP_allSlots_eq_ite_iff (fun i => (s.entry i).bindsTo d) (∃ i, (s.entry i).bindsTo d = true)).2
    ⟨fun i h => ⟨i, h⟩, fun i j hi hj => tied.once (ties hi) (ties hj), id⟩
  rw [count]
  split <;> decide

theorem State.Tied.alone (tied : s.Tied d) (i : Slot) (held : (s.entry i).heldBy d = true) : (s.entry i).targets d = false :=
  Bool.eq_false_iff.2 fun target => Bool.false_ne_true ((tied.not_heldBy target).symm.trans held)

theorem State.Tied.readyFor (tied : s.Tied d) (room : waitingAnswers (s.chair d).port.queue ≤ 12) : ReadyFor s d allSlots (s.chair d) := by
  have binds := tied.bindsTo_le
  unfold ReadyFor Chair.Roomy
  split <;> omega

theorem queue_writtenAt (m : Zone) (z : ZoneId) (d : ChairId) (s : State) (x : Chair) (i : Slot) :
    x.port.queue <+: (writtenAt m z d s x i).port.queue := by
  unfold writtenAt
  split
  · exact queue_written ..
  · exact List.prefix_rfl

theorem writtenAt_online (up : x.state ≠ .offline) : (writtenAt m z d s x i).state ≠ .offline := by
  unfold writtenAt
  split
  · exact written_online up
  · exact up

theorem asked_writtenAt {o : Outstanding} (asked : x.Asked o m.cause) (up : x.state ≠ .offline) (room : x.Roomy 0) :
    (writtenAt m z d s x i).Asked o m.cause := by
  unfold writtenAt
  split
  · exact asked_written asked up room
  · exact asked

theorem foldl_writtenAt_sameButOffer (m : Zone) (z : ZoneId) (d : ChairId) (s : State) (l : List Slot) (x : Chair) :
    SameButOffer x (l.foldl (writtenAt m z d s) x) := by
  induction l generalizing x with
  | nil => rfl
  | cons i l ih =>
    refine sameButOffer_trans ?_ (ih _)
    unfold writtenAt
    exact sameButOffer_ite (written_sameButOffer ..) rfl

/-- A frame that the write at slot `i` places, given room, waits in the end. -/
theorem mem_foldl_writtenAt (tied : s.Tied d) {f : PortFrame} {also : Chair → Prop}
    (keep : ∀ x j, also x → x.Roomy 0 → also (writtenAt m z d s x j))
    (hit : ∀ l x, ReadyFor s d (i :: l) x → also x → f ∈ (writtenAt m z d s x i).port.queue)
    (room : waitingAnswers (s.chair d).port.queue ≤ 12) (start : also (s.chair d)) :
    f ∈ (allSlots.foldl (writtenAt m z d s) (s.chair d)).port.queue := by
  refine foldl_reaches (P := fun x => f ∈ x.port.queue) (inv := fun l x => ReadyFor s d l x ∧ also x) (a := i) (fun j l x h => ?_)
    (fun l x h => hit l x h.1 h.2) (fun j x h => (queue_writtenAt ..).subset h) allSlots _ (List.mem_finRange i)
    ⟨tied.readyFor room, start⟩
  exact ⟨h.1.step tied.alone, keep x j h.2 (h.1.split.weaken (Nat.zero_le _))⟩

end Sys2Proof.Machine
end


section
/-! SUPPORT. The part after a ZONE_SET: the plan, every entry, the frames, and the dispatcher's run (R117, R118). -/

namespace Sys2Proof.Machine

variable {s t : State} {i : Slot} {z : ZoneId} {m : Zone} {d : ChairId} {tag : Tag} {h : Handover}

theorem nodup_allSlots : allSlots.Nodup := List.nodup_finRange 16

/-- The part after the record and the entries of the zone have been written. -/
@[irreducible] def replanned (z : ZoneId) (m : Zone) (s : State) : State := allSlots.foldl (zoneWritten z) (s.serviceHeard.setZone z m)

theorem replanned_service (z : ZoneId) (m : Zone) (s : State) : (replanned z m s).service = s.serviceHeard.service := by
  unfold replanned
  exact foldl_zoneWritten_service ..

theorem replanned_elsewhere (z : ZoneId) (m : Zone) (s : State) : SameElsewhere (s.serviceHeard.setZone z m) (replanned z m s) := by
  unfold replanned
  exact foldl_zoneWritten_elsewhere ..

theorem replanned_entry (z : ZoneId) (m : Zone) (s : State) (i : Slot) :
    (replanned z m s).entry i = if (s.entry i).zone? = some z then (s.entry i).written m else s.entry i := by
  have entry : (s.serviceHeard.setZone z m).entry i = s.entry i := rfl
  unfold replanned
  rw [foldl_zoneWritten_entry nodup_allSlots (State.zone_setZone_self ..), entry]
  simp only [allSlots, List.mem_finRange, true_and]

theorem replanned_chair (z : ZoneId) (m : Zone) (s : State) (d : ChairId) :
    (replanned z m s).chair d = allSlots.foldl (writtenAt m z d s) (s.chair d) := by
  unfold replanned
  rw [foldl_zoneWritten_chair nodup_allSlots (State.zone_setZone_self ..) (fun _ _ => rfl)]
  rfl

theorem replanned_zone (z : ZoneId) (m : Zone) (s : State) (y : ZoneId) :
    (replanned z m s).zone y = if z = y then m else s.zone y := by
  rw [State.zone, (replanned_elsewhere z m s).1]
  exact State.zone_setZone ..

theorem replanned_callers {z : ZoneId} {m : Zone} (callers : s.CallerLaw) (called : i ∈ (replanned z m s).callers) :
    (s.entry i).state = .auto ∧ ¬ ((s.entry i).zone? = some z ∧ m.state = .closed) := by
  unfold replanned at called
  obtain ⟨before, stays⟩ := foldl_zoneWritten_callers nodup_allSlots called
  obtain ⟨k, hk, slot⟩ := List.mem_map.1 before
  have auto : (s.entry i).state = .auto := slot ▸ callers k hk
  exact ⟨auto, fun ⟨zone, closed⟩ =>
    stays (List.mem_finRange i) zone ((congrArg Zone.state (State.zone_setZone_self ..)).trans closed) auto⟩

/-- The part when the dispatcher runs at the end of a ZONE_SET. -/
def zoneAnswered (tag : Tag) (z : ZoneId) (m : Zone) (s : State) : State :=
  { replanned z m s with
    service :=
      { online := true
        port := s.service.port.heard.enqueue (.answer { kind := .zoneSet, tag := tag, code := .done, content := .zoneStored z m }) }
    dispatchDue := false }

theorem writeZone_eq (tag : Tag) (z : ZoneId) (m : Zone) (s : State) :
    writeZone ⟨.service, tag⟩ z m s.serviceHeard = reply ⟨.service, tag⟩ .zoneSet .done (.zoneStored z m) (replanned z m s) := by
  unfold writeZone replanned
  rfl

theorem finish_writeZone (tag : Tag) (z : ZoneId) (m : Zone) (s : State) :
    Dispatched (zoneAnswered tag z m s) (finish (writeZone ⟨.service, tag⟩ z m s.serviceHeard).due) := by
  have online : (replanned z m s).service.online = true := by rw [replanned_service]; rfl
  have replied := reply_service_of_online online tag .zoneSet .done (.zoneStored z m)
  rw [replanned_service] at replied
  have run := finish_dispatched (writeZone ⟨.service, tag⟩ z m s.serviceHeard).due
  rw [writeZone_eq, replied] at run ⊢
  exact run

theorem exec_zoneSet_dispatched {zone : Byte} {st : ZoneState} {cap backoff : Half} {allowed : ChairSet} (hq : s.Quiet) (ht : s.ServiceTakes)
    (hz : zoneOf zone = some z) :
    ∃ t, exec (.zoneSet ⟨.service, tag⟩ zone st cap backoff allowed) s = .next t ∧
      Dispatched (zoneAnswered tag z (zoneStored st cap backoff allowed) s) t := by
  have taken : zoneSetTaken ⟨.service, tag⟩ zone st cap backoff allowed s.serviceHeard =
      (writeZone ⟨.service, tag⟩ z (zoneStored st cap backoff allowed) s.serviceHeard).due := by
    rw [zoneSetTaken, hz]
  have run : exec (.zoneSet ⟨.service, tag⟩ zone st cap backoff allowed) s =
      .next (finish (writeZone ⟨.service, tag⟩ z (zoneStored st cap backoff allowed) s.serviceHeard).due) := by
    rw [exec_zoneSet, event_takeRequest_service hq ht tag rfl, taken]
  exact ⟨_, run, finish_writeZone ..⟩

theorem zoneAnswered_entry (tag : Tag) (z : ZoneId) (m : Zone) (s : State) (i : Slot) :
    (zoneAnswered tag z m s).entry i = if (s.entry i).zone? = some z then (s.entry i).written m else s.entry i := replanned_entry ..

theorem zoneAnswered_chair (tag : Tag) (z : ZoneId) (m : Zone) (s : State) (d : ChairId) :
    (zoneAnswered tag z m s).chair d = allSlots.foldl (writtenAt m z d s) (s.chair d) := replanned_chair ..

theorem zoneAnswered_zone (tag : Tag) (z : ZoneId) (m : Zone) (s : State) (y : ZoneId) :
    (zoneAnswered tag z m s).zone y = if z = y then m else s.zone y := replanned_zone ..

theorem zoneAnswered_elsewhere (tag : Tag) (z : ZoneId) (m : Zone) (s : State) :
    SameElsewhere (s.serviceHeard.setZone z m) (zoneAnswered tag z m s) := replanned_elsewhere ..

theorem zoneAnswered_callers (callers : s.CallerLaw) (called : i ∈ (zoneAnswered tag z m s).callers) :
    (s.entry i).state = .auto ∧ ¬ ((s.entry i).zone? = some z ∧ m.state = .closed) := replanned_callers callers called

theorem written_zone? (m : Zone) (e : Entry) : (e.written m).zone? = e.zone? := by
  unfold Entry.written
  split
  · rfl
  · rfl
  · split <;> rfl
  · rfl

section
variable (k : Dispatched (zoneAnswered tag z m s) t)
include k

/-! ### Entries and calls -/

theorem replan_entry_apart (apart : (s.entry i).zone? ≠ some z) : SameButRecord (s.entry i) (t.entry i) := by
  have entry := k.sameButRecord i
  rwa [zoneAnswered_entry, if_neg apart] at entry

theorem replan_entry (zone : (s.entry i).zone? = some z) : SameButRecord ((s.entry i).written m) (t.entry i) := by
  have entry := k.sameButRecord i
  rwa [zoneAnswered_entry, if_pos zone] at entry

/-- An entry that a closing zone locks is offered to nobody. -/
theorem replan_locked (callers : s.CallerLaw) (zone : (s.entry i).zone? = some z) (carries : (s.entry i).state.carries = true)
    (closed : m.state = .closed) :
    t.entry i = { s.entry i with state := .locked, holder := none, handover := none, ramp := none, zoneDrop := false } ∧
      ∀ c ∈ t.calls, c.slot ≠ i := by
  have uncalled : i ∉ (zoneAnswered tag z m s).callers := fun called => (zoneAnswered_callers callers called).2 ⟨zone, closed⟩
  have entry : t.entry i = (zoneAnswered tag z m s).entry i := (k.entry i).elim id fun placed => absurd placed.1 uncalled
  refine ⟨?_, fun c hc slot => uncalled (k.callers ▸ List.mem_map.2 ⟨c, hc, slot⟩)⟩
  rw [entry, zoneAnswered_entry, if_pos zone, Entry.written, carries, closed]

/-- A handover that the write leaves stands. -/
theorem replan_record (record : ((zoneAnswered tag z m s).entry i).handover = some h) : (t.entry i).handover = some h := by
  rw [k.entry_of_record (by rw [record]; nofun), record]

/-- A record that is new is an offer to a chair that the zone, open, allows. -/
theorem replan_offer (callers : s.CallerLaw) (zone : (s.entry i).zone? = some z) (ended : ((s.entry i).written m).handover = none)
    (record : (t.entry i).handover = some h) :
    m.state = .opened ∧ h.kind = .claim ∧ h.phase = .offering ∧ ∀ d, h.target = .chair d → hasChair m.allowed d = true := by
  have entry : (zoneAnswered tag z m s).entry i = (s.entry i).written m := by rw [zoneAnswered_entry, if_pos zone]
  rcases k.entry i with same | ⟨called, -, r, c, placed, kind, phase, target, allowed, -⟩
  · rw [same, entry, ended] at record
    cases record
  · rw [placed] at record
    cases record
    refine ⟨?_, kind, phase, fun d aimed => ?_⟩
    · cases mode : m.state with
      | opened => rfl
      | closed => exact absurd ⟨zone, mode⟩ (zoneAnswered_callers callers called).2
    · have same : c = d := Party.chair.inj (target.symm.trans aimed)
      have zone' : ((zoneAnswered tag z m s).entry i).zone? = some z := by rw [entry, written_zone?, zone]
      rwa [allowedAt_of_zone zone', zoneAnswered_zone, if_pos rfl, same] at allowed

/-! ### Frames -/

theorem replan_queue (d : ChairId) :
    (allSlots.foldl (writtenAt m z d s) (s.chair d)).port.queue <+: (t.chair d).port.queue := by
  rw [← zoneAnswered_chair tag z m s d]
  rcases k.chair d with same | ⟨-, -, n, offered⟩
  · rw [same]
  · rw [offered]
    exact queue_queued n _

theorem replan_told (tied : s.Tied d) (zone : (s.entry i).zone? = some z) (hh : (s.entry i).handover = some h)
    (ends : (s.entry i).endsBy m = true) (target : h.target = .chair d) (other : h.requester ≠ some d)
    (room : waitingAnswers (s.chair d).port.queue ≤ 12) : PortFrame.notice (h.endNotice i m.cause) ∈ (t.chair d).port.queue := by
  have binds : (s.entry i).bindsTo d = true := Bool.or_eq_true_iff.2 (.inr ((targets_eq hh).2 target))
  refine (replan_queue k d).subset (mem_foldl_writtenAt tied (also := fun _ => True) (i := i) (fun _ _ _ _ => trivial)
    (fun l x ready _ => ?_) room trivial)
  rw [writtenAt, if_pos zone]
  exact told_written hh ends target other (ready.first binds)

theorem replan_answered (tied : s.Tied d) (zone : (s.entry i).zone? = some z) (hh : (s.entry i).handover = some h)
    (ends : (s.entry i).endsBy m = true) (asks : h.requester = some d) {o : Outstanding} (waits : (s.chair d).port.outstanding = some o)
    (up : (s.chair d).state ≠ .offline) (room : waitingAnswers (s.chair d).port.queue ≤ 12) :
    o.answer m.cause ∈ (t.chair d).port.queue := by
  refine (replan_queue k d).subset (mem_foldl_writtenAt tied (also := fun x => x.Asked o m.cause ∧ x.state ≠ .offline) (i := i)
    (fun x j asked room => ⟨asked_writtenAt asked.1 asked.2 room, writtenAt_online asked.2⟩) (fun l x ready asked => ?_) room ⟨.inl waits, up⟩)
  rw [writtenAt, if_pos zone]
  exact answered_written hh ends asks asked.1 asked.2 (ready.split.weaken (Nat.zero_le _))

theorem replan_lost (tied : s.Tied d) (zone : (s.entry i).zone? = some z) (held : (s.entry i).heldBy d = true) (closed : m.state = .closed)
    (room : waitingAnswers (s.chair d).port.queue ≤ 12) : PortFrame.notice (.lost i .zoneClosed) ∈ (t.chair d).port.queue := by
  have binds : (s.entry i).bindsTo d = true := Bool.or_eq_true_iff.2 (.inl held)
  refine (replan_queue k d).subset (mem_foldl_writtenAt tied (also := fun _ => True) (i := i) (fun _ _ _ _ => trivial)
    (fun l x ready _ => ?_) room trivial)
  rw [writtenAt, if_pos zone]
  exact lost_written held (tied.alone i held) closed (ready.first binds)

theorem replan_flagged (tied : s.Tied d) (zone : (s.entry i).zone? = some z) (held : (s.entry i).heldBy d = true) (opened : m.state = .opened)
    (excluded : hasChair m.allowed d = false) (clear : (s.entry i).zoneDrop = false)
    (room : waitingAnswers (s.chair d).port.queue ≤ 12) : PortFrame.notice (.zone i z true) ∈ (t.chair d).port.queue := by
  have binds : (s.entry i).bindsTo d = true := Bool.or_eq_true_iff.2 (.inl held)
  have newly : ((s.entry i).excluded m && !(s.entry i).zoneDrop) = true := by rw [excluded_of_held held, excluded, clear]; rfl
  have up : (s.chair d).state ≠ .offline := by rw [tied.told (ties_of_heldBy held)]; nofun
  refine (replan_queue k d).subset (mem_foldl_writtenAt tied (also := fun x => x.state ≠ .offline) (i := i) (fun _ _ up _ => writtenAt_online up)
    (fun l x ready up => ?_) room up)
  rw [writtenAt, if_pos zone]
  exact flagged_written held (tied.alone i held) opened newly up (ready.first binds)

theorem replan_reply (room : waitingAnswers s.service.port.queue < 15) :
    PortFrame.answer { kind := .zoneSet, tag := tag, code := .done, content := .zoneStored z m } ∈ t.service.port.queue := by
  refine k.service.2.subset ?_
  have queue := queue_enqueue_of_room (f := .answer { kind := .zoneSet, tag := tag, code := .done, content := .zoneStored z m })
    (p := s.service.port.heard) rfl room
  exact queue ▸ List.mem_append_right _ (List.mem_singleton.2 rfl)

theorem replan_zone (y : ZoneId) : t.zone y = if z = y then m else s.zone y := by
  have zones : t.zone y = (zoneAnswered tag z m s).zone y := by rw [State.zone, k.elsewhere.1]; rfl
  rw [zones, zoneAnswered_zone]

theorem replan_sameButOffer (d : ChairId) : SameButOffer (s.chair d) (t.chair d) := by
  have offered := k.sameButOffer d
  rw [zoneAnswered_chair] at offered
  exact sameButOffer_trans (foldl_writtenAt_sameButOffer ..) offered

end

/-! ### The written entry -/

/-- The record as the ZONE_SET carries it, the cap and the backoff in range. -/
theorem zoneStored_eq (st : ZoneState) (cap backoff : Half) (allowed : ChairSet) :
    let c := if 2047 < cap.toNat then 2047 else cap.toNat
    zoneStored st cap backoff allowed = { state := st, cap := c, backoff := if c < backoff.toNat then c else backoff.toNat, allowed := allowed } := by
  intro c
  have capped : min 2047 cap.toNat = c := by
    show _ = if 2047 < cap.toNat then 2047 else cap.toNat
    split <;> omega
  have backed : min c backoff.toNat = if c < backoff.toNat then c else backoff.toNat := by split <;> omega
  rw [← backed, ← capped]
  rfl

theorem endsBy_of_closed {e : Entry} (carries : e.state.carries = true) (closed : m.state = .closed) : e.endsBy m = true := by
  rw [Entry.endsBy, carries, closed]
  rfl

theorem barred_of_target {e : Entry} (hh : e.handover = some h) (target : h.target = .chair d) : e.barred m = !hasChair m.allowed d := by
  rw [Entry.barred, hh]
  dsimp only
  rw [target]

theorem endsBy_of_barred {e : Entry} (carries : e.state.carries = true) (hh : e.handover = some h) (target : h.target = .chair d)
    (barred : hasChair m.allowed d = false) : e.endsBy m = true := by
  rw [Entry.endsBy, carries, barred_of_target hh target, barred]
  cases m.state <;> rfl

theorem written_of_locked {e : Entry} (locked : e.state = .locked) (opened : m.state = .opened) :
    e.written m = { e with state := .free, holder := none, ramp := none, zoneDrop := false } := by
  rw [Entry.written, opened, locked]
  rfl

theorem written_of_opened {e : Entry} (carries : e.state.carries = true) (opened : m.state = .opened) :
    e.written m = { e with handover := if e.barred m then none else e.handover, zoneDrop := e.zoneDrop || e.excluded m } := by
  rw [Entry.written, carries, opened]

theorem written_of_idle {e : Entry} (carries : e.state.carries = false) (idle : e.state ≠ .locked ∨ m.state = .closed) : e.written m = e := by
  rw [Entry.written, carries]
  cases mode : m.state with
  | opened => exact if_neg (idle.resolve_right (by rw [mode]; nofun))
  | closed => rfl

/-- The write ends no handover that its zone, open, allows. -/
theorem written_handover_of_allowed {e : Entry} (hh : e.handover = some h) (opened : m.state = .opened)
    (allowed : ∀ d, h.target = .chair d → hasChair m.allowed d = true) : (e.written m).handover = some h := by
  have fit : e.barred m = false := by
    cases target : h.target with
    | chair d => rw [barred_of_target hh target, allowed d target]; rfl
    | auto => rw [Entry.barred, hh]; dsimp only; rw [target]
  cases carries : e.state.carries with
  | true => rw [written_of_opened carries opened, fit]; exact hh
  | false =>
    by_cases locked : e.state = .locked
    · rw [written_of_locked locked opened]; exact hh
    · rw [written_of_idle carries (.inl locked)]; exact hh

theorem written_handover_of_ends {e : Entry} (ends : e.endsBy m = true) : (e.written m).handover = none := by
  obtain ⟨carries, mode⟩ := Bool.and_eq_true_iff.1 ends
  cases state : m.state with
  | closed => rw [Entry.written, carries, state]
  | opened =>
    rw [state] at mode
    rw [written_of_opened carries state]
    exact if_pos mode

end Sys2Proof.Machine

namespace Sys2Proof.Settled
open Sys2Proof.Machine

/-- Settles O28: every entry and every chair is followed through the slots in order, then through the dispatcher's run. -/
theorem zoneSetWritesThePlan : Obligations.ZoneSetWritesThePlan := by
  intro s tag zone z st cap backoff allowed hq callers ht hz c r open_
  obtain ⟨t, run, k⟩ := exec_zoneSet_dispatched (tag := tag) (st := st) (cap := cap) (backoff := backoff) (allowed := allowed) hq ht hz
  rw [show zoneStored st cap backoff allowed = r from zoneStored_eq ..] at k
  have closed (shut : ¬ open_) : r.state = .closed := by
    cases state : st with
    | opened => exact absurd state shut
    | closed => exact state
  have cause : (if open_ then Code.notPermitted else .zoneClosed) = r.cause := by
    by_cases opened : open_
    · rw [if_pos opened, Zone.cause, show r.state = .opened from opened]
    · rw [if_neg opened, Zone.cause, closed opened]
  refine ⟨t, run, by rw [replan_zone k, if_pos rfl], fun y other => by rw [replan_zone k, if_neg other.symm], replan_reply k,
    fun i zone carries shut => replan_locked k callers zone carries (closed shut), fun i zone locked opened => ?unlocked,
    fun i zone carries opened => ?tested, fun i apart => ?others, fun i h hh fit => ?stands, fun one i zone carries h hh ended => ?ended,
    fun one i d zone held room => ?holder, ?elsewhere⟩
  case unlocked =>
    have entry := replan_entry k zone
    rwa [written_of_locked locked opened] at entry
  case tested =>
    have entry := replan_entry k zone
    rw [written_of_opened carries opened] at entry
    exact entry
  case others =>
    by_cases zone : (s.entry i).zone? = some z
    · obtain ⟨carries, idle⟩ := apart.resolve_left (not_not_intro zone)
      have entry := replan_entry k zone
      rwa [written_of_idle (Bool.eq_false_iff.2 carries) (idle.imp_right closed)] at entry
    · exact replan_entry_apart k zone
  case stands =>
    refine replan_record k ?_
    rw [zoneAnswered_entry]
    split
    next zone =>
      obtain ⟨opened, allowed⟩ := fit.resolve_left (not_not_intro zone)
      exact written_handover_of_allowed hh opened allowed
    next => exact hh
  case ended =>
    have ends : (s.entry i).endsBy r = true := by
      rcases ended with shut | ⟨d, target, barred⟩
      · exact endsBy_of_closed carries (closed shut)
      · exact endsBy_of_barred carries hh target barred
    have tied (d : ChairId) : s.Tied d := (chairFits_iff_tied s d).1 (one d)
    intro ending
    have same : ending = r.cause := cause
    rw [same]
    refine ⟨fun h' record => replan_offer k callers zone (written_handover_of_ends ends) record, fun d target other room => ?_,
      fun d asks o waits up room => replan_answered k (tied d) zone hh ends asks waits up room⟩
    have told := replan_told k (tied d) zone hh ends target other room
    unfold Handover.endNotice at told
    cases phase : h.phase <;> rw [phase] at told <;> exact told
  case holder =>
    have tied : s.Tied d := (chairFits_iff_tied s d).1 (one d)
    exact ⟨fun shut => replan_lost k tied zone held (closed shut) room,
      fun opened excluded clear => replan_flagged k tied zone held opened excluded clear room⟩
  case elsewhere =>
    obtain ⟨-, policy, bindings, contexts, ignored, fleet, queue, -⟩ := (zoneAnswered_elsewhere tag z r s).trans k.elsewhere
    exact ⟨policy, bindings, contexts, ignored, fleet, queue, replan_sameButOffer k⟩

end Sys2Proof.Settled
end
